-- ==== Sys2Proof/Word.lean ====
section
/-! DEFINITION. Word types of the model and the sparse table every indexed part of the state is held in. -/

namespace Sys2Proof

abbrev Byte := BitVec 8
abbrev Word := BitVec 32
/-- A 64-bit counter or register (R508). -/
abbrev DWord := BitVec 64

/-- A sparse table: strictly rising keys, no entry equal to the table's default value. -/
abbrev Tab (α : Type) := List (Nat × α)

/-- What a table holds at a key: the first entry listed there, or the default `d`. -/
def Tab.get {α : Type} (d : α) : Tab α → Nat → α
  | [], _ => d
  | (k, v) :: t, i => if i = k then v else Tab.get d t i

/-- List `v` at key `i`, in its place in the order of keys. -/
def Tab.put {α : Type} (v : α) : Tab α → Nat → Tab α
  | [], i => [(i, v)]
  | (k, w) :: t, i =>
    if i < k then (i, v) :: (k, w) :: t
    else if i = k then (i, v) :: t
    else (k, w) :: Tab.put v t i

/-- Put `v` at key `i`, keeping the canonical form: the default value removes the entry. -/
def Tab.set {α : Type} [DecidableEq α] (d : α) (t : Tab α) (i : Nat) (v : α) : Tab α :=
  if v = d then t.filter (fun e => decide (e.1 ≠ i)) else Tab.put v t i

/-- The canonical form from a lower bound on: keys rise strictly and no value is the default. -/
def Tab.wfFrom {α : Type} [DecidableEq α] (d : α) : Nat → Tab α → Bool
  | _, [] => true
  | lo, (k, v) :: t => decide (lo ≤ k) && decide (v ≠ d) && Tab.wfFrom d (k + 1) t

/-- A table is in canonical form. -/
def Tab.wf {α : Type} [DecidableEq α] (d : α) (t : Tab α) : Bool := Tab.wfFrom d 0 t

/-- Drop every entry whose key lies in `[lo, hi)`: the range then reads as the default. -/
def Tab.clear {α : Type} (t : Tab α) (lo hi : Nat) : Tab α :=
  t.filter (fun e => decide (e.1 < lo) || decide (hi ≤ e.1))

end Sys2Proof
end

