-- ==== Sys2Proof/Syntax.lean ====
section
/-! DEFINITION. The commands of the Nimaikan: one constructor of `Instr` per row of spec/opcode_table.json,
with the operands the row's rule gives it. A received Icvan message is carried whole (`Msg`); a job-program
command and a vector instruction carry their fields; an event carries the part it happens to and the
measurement that makes it happen. -/

namespace Sys2Proof

/-- One received Icvan message (R414): the port it arrives on, the IPv6 source, the header fields and the payload.
`intact` is false when a CRC fails or the payload length disagrees with the UDP length (R417 step 1); `ce` is the packet's
congestion mark (R411). `mp1` is set for a packet of the management port whose destination is the address MP1 uses in Standoff
(R457). -/
structure Msg where
  port : Nat
  mp1 : Bool
  src : BitVec 128
  intact : Bool
  ce : Bool
  version : Nat
  ackReq : Bool
  retx : Bool
  last : Bool
  hold : Bool
  flow : Nat
  seq : Word
  ackSeq : Word
  grant : Nat
  handle : Word
  sub : Word
  epoch : Word
  payload : List Byte
  deriving DecidableEq, Repr

/-- The fields of a vector instruction word (R158). -/
structure VFields where
  vd : BitVec 5
  va : BitVec 5
  vb : BitVec 5
  vc : BitVec 5
  pg : BitVec 3
  zm : Bool
  imm : Word
  deriving DecidableEq, Repr

/-- The fields of an OUT or OUTR, and the cycles it waited for its output (R168, R169, R177). -/
structure OutFields where
  word : VFields
  waited : Nat
  deriving DecidableEq, Repr

/-- What a pass's next issue cycle waited for beside its weights: operand A's data, and the readout of its slot (R100, R101). -/
structure EdgeWait where
  input : Nat
  slot : Nat
  deriving DecidableEq, Repr

/-- A job-program command (R354) as quadrant `q` of die `d` takes it; the opcode is the constructor's. -/
structure ProgCmd where
  d : Nat
  q : Nat
  play : Nat
  deferred : Bool
  token : Nat
  index : Nat
  imm : DWord
  deriving DecidableEq, Repr

/-- The unit that issued a read or an access (R51). -/
inductive Consumer where
  | array (g ctx : Nat)
  | vector (g ctx : Nat)
  | pipe (g ctx : Nat)
  | move (d q e : Nat)
  | reductionSender (p : Nat)
  | update (p : Nat)
  | engine (p e : Nat)
  | aligner
  | carousel (d dir : Nat)
  | stage (grad : Bool)
  | loadr (d q play : Nat)
  | multicast (d q ctx : Nat)
  | thermos (p : Nat)
  | host
  deriving DecidableEq, Repr

/-- The memories that carry a protection code (R49, R113, R175, R240). -/
inductive Store where
  | hbm | lpddr | tileStore | inputBank | accumulator | weightQueue
  | vectorRegister | predicate | programStore | scratch | softmaxPipe
  deriving DecidableEq, Repr

/-- What a protection code finds in a word read (R49) (DESIGN CHOICE, assumption 6); `undetected` is damage beyond what the
code finds, the bits it flips (R516). -/
inductive Check where
  | clean | corrected | uncorrectable
  | undetected (flips : Nat)
  deriving DecidableEq, Repr

/-- An input of a reduction round (R325): a REDUCE_CHUNK, or the P-die's own input taken locally. -/
inductive ReduceInput where
  | remote (m : Msg)
  | own (p bundle : Nat) (partialForm : Bool)
  deriving DecidableEq, Repr

/-- A part with a trip temperature (R399): a stripe at 110 °C, a P-die at 110 °C or at 105 °C (`pdieHot`), a stack at 105 °C. -/
inductive ThermalPart where
  | stripe (t : Nat)
  | pdie (p : Nat)
  | pdieHot (p : Nat)
  | stack (k : Nat)
  deriving DecidableEq, Repr

/-- A supply rail (R400). -/
inductive Rail where
  | aCore (d : Nat)
  | pCore (p : Nat)
  | hbm | lpddr | serdes | other
  deriving DecidableEq, Repr

/-- A part that bring-up brings up or finds failed (R450). -/
inductive Part where
  | die (d : Nat)
  | stack (k : Nat)
  | device (k : Nat)
  | rail (r : Rail)
  | port (n : Nat)
  deriving DecidableEq, Repr

/-- The commands, one per row of the table of operations and events (DESIGN CHOICE, assumption 6). -/
inductive Instr where
  /-- INPUT_BANK_READ_SERVED (R40). A read of an input bank or accumulator region that waited for a pass in flight is served at the owning cluster's next pass boundary. -/
  | inputBankReadServed (g : Nat)
  /-- MOVE_START (R46). A move whose wait token is posted and whose lead point is reached starts on a free move engine of its quadrant, in descriptor order. -/
  | moveStart (d q : Nat)
  /-- MOVE_COMPLETE (R46). A move writes its last byte and posts its post token. -/
  | moveComplete (d q e : Nat)
  /-- MEMORY_READ_RETURN (R49). Read data returns from HBM, LPDDR5X or a cluster store and is checked by its protection code. -/
  | memoryReadReturn (u : Consumer) (store : Store) (addr : Nat) (res : Check)
  /-- PATROL_SCRUB_GRANULE (R52). The patrol scrubber reads the next granule in address order, writes back corrected data and reports uncorrectable errors without holding. -/
  | patrolScrubGranule (u : Nat) (found : List (Nat × Check))
  /-- HOST_SCRUB_CHUNK (R53). A host-requested scrub processes its next 1 MiB chunk of the named range. -/
  | hostScrubChunk (serial : Nat) (found : List (Nat × Check))
  /-- ITEM_START (R380). A dispatcher chooses among its ready context heads and starts an array pass, walk descriptor, vector group or field group once it holds tokens, buffer credits and energy credits. -/
  | itemStart (g : Nat) (vector : Bool) (order : List Nat)
  /-- FORMAT_HOLD_RELEASE (R117). A pass held for an unavailable format starts without a host decision once the profile allows its group, and its record is marked decided. -/
  | formatHoldRelease (g ctx : Nat)
  /-- ARRAY_ISSUE_CYCLE (R101). An issue cycle that waited for weight bytes or input tokens issues its reduction indices into the diagonal wavefront. -/
  | arrayIssueCycle (g half weightWait : Nat) (wait : EdgeWait)
  /-- PASS_COMPLETE (R98). A pass's last product has been added in every active cell and the pass completes. -/
  | passComplete (g half : Nat)
  /-- READOUT_ROW (R109). A tile row is emitted through the readout port, raw, converted or into the epilogue queue, possibly after waiting for the port or the queue. -/
  | readoutRow (g half waited : Nat)
  /-- SHAPE_CHANGE (R111). Once every pass and readout of the old shape has ended, the array begins reconfiguring and drops its weight queue. -/
  | shapeChange (g : Nat)
  /-- SHAPE_RECONFIG_DONE (R111). The 16 reconfiguration cycles elapse and the array may issue in the new shape. -/
  | shapeReconfigDone (g : Nat)
  /-- WEIGHT_QUEUE_FILL (R107). The weight queue's fill port delivers up to 512 bytes into a queue or split half that has space. -/
  | weightQueueFill (g ctx bytes : Nat)
  /-- FRAME_LOAD (R136). The address generator loads an A tile, or gathers a windowed frame, into a free input-bank frame. -/
  | frameLoad (g ctx : Nat)
  /-- TABLE (R121). Job program command that issues a loop table into the play's context, snapshots its length registers and starts the members' walks. -/
  | table (c : ProgCmd)
  /-- TABLE_COMPLETE (R121). Every member has finished its last readout and output word, and the controller posts the table's completion token. -/
  | tableComplete (d q ctx : Nat)
  /-- MULTICAST_DELIVERY (R137). The multicast engine fetches the next B or C block and delivers it once every receiving member has space. -/
  | multicastDelivery (d q ctx : Nat) (waits : List (Nat × Nat))
  /-- VECTOR_INVOCATION_START (R156). The free vector unit picks the next epilogue row or vector-pass row and begins an invocation at its entry. -/
  | vectorInvocationStart (g : Nat)
  /-- NOP (R159). Vector instruction that does nothing. -/
  | vNop (g : Nat) (f : VFields)
  /-- END (R159). Vector instruction that ends the invocation. -/
  | vEnd (g : Nat) (f : VFields)
  /-- JMP (R159). Vector instruction that continues at an immediate index. -/
  | jmp (g : Nat) (f : VFields)
  /-- JANY (R160). Vector branch taken when any tested lane of a predicate is true. -/
  | jany (g : Nat) (f : VFields)
  /-- JNONE (R160). Vector branch taken when no tested lane of a predicate is true. -/
  | jnone (g : Nat) (f : VFields)
  /-- IN (R167). Vector instruction that delivers the next row segment and its valid-lane predicate, waiting until the data is present. -/
  | vIn (g : Nat) (f : VFields)
  /-- INC (R167). Vector instruction that reads the matching segment of the C row converted to FP32. -/
  | inc (g : Nat) (f : VFields)
  /-- OUT (R168). Vector instruction that writes the next output segment, converting and placing it by the output format. -/
  | vOut (g : Nat) (f : OutFields)
  /-- OUTR (R169). Vector instruction that writes lane 0 as a row value at the row-output base. -/
  | outr (g : Nat) (f : OutFields)
  /-- ROWBASE (R169). Vector instruction that sets the invocation's row-output base. -/
  | rowbase (g : Nat) (base : BitVec 48)
  /-- SYS (R159). Vector instruction that loads a selected row quantity into a register. -/
  | sys (g : Nat) (f : VFields)
  /-- LDR (R170). Vector instruction that reads a scratch word of the row's entry into every lane. -/
  | ldr (g : Nat) (f : VFields)
  /-- STR (R170). Vector instruction that writes lane 0 to a scratch word of the row's entry. -/
  | str (g : Nat) (f : VFields)
  /-- MOV (R159). Vector register copy. -/
  | mov (g : Nat) (f : VFields)
  /-- MOVI (R159). Vector load of an immediate. -/
  | movi (g : Nat) (f : VFields)
  /-- SEL (R159). Vector select of one of two sources by a predicate. -/
  | sel (g : Nat) (f : VFields)
  /-- FADD (R161). FP32 addition. -/
  | fadd (g : Nat) (f : VFields)
  /-- FSUB (R161). FP32 subtraction. -/
  | fsub (g : Nat) (f : VFields)
  /-- FMUL (R161). FP32 multiplication. -/
  | fmul (g : Nat) (f : VFields)
  /-- FFMA (R161). FP32 fused multiply-add rounded once. -/
  | ffma (g : Nat) (f : VFields)
  /-- FMIN (R161). FP32 minimum. -/
  | fmin (g : Nat) (f : VFields)
  /-- FMAX (R161). FP32 maximum. -/
  | fmax (g : Nat) (f : VFields)
  /-- FADDI (R161). FP32 addition of an immediate. -/
  | faddi (g : Nat) (f : VFields)
  /-- FMULI (R161). FP32 multiplication by an immediate. -/
  | fmuli (g : Nat) (f : VFields)
  /-- FABS (R161). FP32 absolute value. -/
  | fabs (g : Nat) (f : VFields)
  /-- FNEG (R161). FP32 negation. -/
  | fneg (g : Nat) (f : VFields)
  /-- FCMP (R162). FP32 comparison into a predicate. -/
  | fcmp (g : Nat) (f : VFields)
  /-- EXP (R163). Correctly rounded exponential on the special-function unit. -/
  | vExp (g : Nat) (f : VFields)
  /-- LOG (R163). Correctly rounded logarithm on the special-function unit. -/
  | vLog (g : Nat) (f : VFields)
  /-- RCP (R163). Correctly rounded reciprocal on the special-function unit. -/
  | rcp (g : Nat) (f : VFields)
  /-- RSQ (R163). Correctly rounded reciprocal square root on the special-function unit. -/
  | rsq (g : Nat) (f : VFields)
  /-- TANH (R163). Correctly rounded hyperbolic tangent on the special-function unit. -/
  | tanh (g : Nat) (f : VFields)
  /-- ERF (R163). Correctly rounded error function on the special-function unit. -/
  | erf (g : Nat) (f : VFields)
  /-- IADD (R159). Integer addition modulo 2^32. -/
  | iadd (g : Nat) (f : VFields)
  /-- ISUB (R159). Integer subtraction modulo 2^32. -/
  | isub (g : Nat) (f : VFields)
  /-- IMUL (R159). Low 32 bits of an integer product. -/
  | imul (g : Nat) (f : VFields)
  /-- IAND (R159). Bitwise AND. -/
  | iand (g : Nat) (f : VFields)
  /-- IOR (R159). Bitwise OR. -/
  | ior (g : Nat) (f : VFields)
  /-- IXOR (R159). Bitwise XOR. -/
  | ixor (g : Nat) (f : VFields)
  /-- ISHL (R159). Shift left by an immediate. -/
  | ishl (g : Nat) (f : VFields)
  /-- ISHR (R159). Logical shift right by an immediate. -/
  | ishr (g : Nat) (f : VFields)
  /-- ISRA (R159). Arithmetic shift right by an immediate. -/
  | isra (g : Nat) (f : VFields)
  /-- IADDI (R159). Integer addition of an immediate modulo 2^32. -/
  | iaddi (g : Nat) (f : VFields)
  /-- ICMP (R162). Integer comparison into a predicate. -/
  | icmp (g : Nat) (f : VFields)
  /-- IMIN (R159). Signed integer minimum. -/
  | imin (g : Nat) (f : VFields)
  /-- IMAX (R159). Signed integer maximum. -/
  | imax (g : Nat) (f : VFields)
  /-- ITOF (R161). INT32 to FP32 conversion, nearest-even. -/
  | itof (g : Nat) (f : VFields)
  /-- FTOI (R161). FP32 to INT32 conversion, nearest-even and saturating. -/
  | ftoi (g : Nat) (f : VFields)
  /-- CVT (R166). Conversion of FP32 lanes to a narrower format in a named rounding mode. -/
  | cvt (g : Nat) (f : VFields)
  /-- CVTF (R166). Exact conversion of low lane bits read in a named format to FP32. -/
  | cvtf (g : Nat) (f : VFields)
  /-- RSUM (R164). Fixed-tree sum of active lanes broadcast to the destination. -/
  | rsum (g : Nat) (f : VFields)
  /-- RMAX (R164). Fixed-tree maximum of active lanes. -/
  | rmax (g : Nat) (f : VFields)
  /-- RMIN (R164). Fixed-tree minimum of active lanes. -/
  | rmin (g : Nat) (f : VFields)
  /-- RARGMAX (R165). Lowest lane index holding the greatest active value. -/
  | rargmax (g : Nat) (f : VFields)
  /-- PAND (R159). Predicate AND. -/
  | pand (g : Nat) (f : VFields)
  /-- POR (R159). Predicate OR. -/
  | por (g : Nat) (f : VFields)
  /-- PXOR (R159). Predicate XOR. -/
  | pxor (g : Nat) (f : VFields)
  /-- PNOT (R159). Predicate NOT. -/
  | pnot (g : Nat) (f : VFields)
  /-- PFIRST (R159). Predicate of the lanes below an immediate. -/
  | pfirst (g : Nat) (f : VFields)
  /-- PSYS (R159). Predicate set by a row condition. -/
  | psys (g : Nat) (f : VFields)
  /-- VEC_RUNAWAY (R174). An invocation reaches 8,192 instructions without END, stops and holds its context. -/
  | vecRunaway (g : Nat)
  /-- WALK (R213). Job program command that issues a walk record into a context, snapshots its length register and starts its members. -/
  | walk (c : ProgCmd)
  /-- WALK_DESCRIPTOR_EMIT (R224). On a stream's turn the quadrant controller emits the descriptors of the next group or pair once its pages are local or visiting at the right lap. -/
  | walkDescriptorEmit (d q c waited : Nat)
  /-- ATT_PAGE_LATE (R224). A needed local page is still empty 10 ms after the walk first needed it, and the walk goes on waiting. -/
  | attPageLate (d q ctx : Nat)
  /-- SOFTMAX_PIPE_GROUP (R228). The softmax pipe masks a group's scores, updates the running row statistics, forms probabilities and folds the output. -/
  | softmaxPipeGroup (g ctx : Nat)
  /-- WALK_COMPLETE (R213). All members have written their last word, the record's completion token is posted and forward statistics are marked valid. -/
  | walkComplete (d q ctx : Nat)
  /-- SEAL (R212). Job program command that seals local pages, writing filled counts, marks and state local into the page map. -/
  | seal (c : ProgCmd)
  /-- SEAL_RESUME (R212). A seal that waited for a walk still using its pages proceeds once that walk completes. -/
  | sealResume (d q : Nat)
  /-- TOUR (R251). Job program command that starts a tour on the die's carousel sequencer. -/
  | tour (c : ProgCmd)
  /-- TOUR_START (R257). A started tour begins once the previous tour has completed, snapshotting N_act and moving remote entries to in transit. -/
  | tourStart (d : Nat)
  /-- CAROUSEL_PAGE_SEND (R254). The sequencer sends the next due page group on a page flow, in lap order, once it holds credit. -/
  | carouselPageSend (d dir : Nat)
  /-- CAROUSEL_PAGE (R256). A received page message is matched against the one due and stored in its visiting frame, making the page visiting after its last group. -/
  | carouselPage (m : Msg)
  /-- TOUR_RELEASE_FRAMES (R258). Once every listed walk record has completed and all forwards are handed to ports, the tour's visiting frames are released and entries become returned. -/
  | tourReleaseFrames (d : Nat)
  /-- CAROUSEL_GRAD_SEND (R261). A position sends its next gradient return, in descending lap, once its kind-2 records are complete and any farther return has arrived. -/
  | carouselGradSend (d path : Nat)
  /-- CAROUSEL_GRAD (R260). A received gradient return is checked against the one due and folded with the local contribution, or into the owner's final gradient. -/
  | carouselGrad (m : Msg)
  /-- CAR_LAP_TIMEOUT (R263). An incoming carousel flow's lap timer expires without the due message, and the sequencer goes on waiting. -/
  | carLapTimeout (d flow : Nat)
  /-- SENDER_CREDIT_TIMEOUT (R263). A sender holding a ready carousel message without credit beyond the lap timeout reports credit withheld downstream. -/
  | senderCreditTimeout (d flow : Nat)
  /-- SAMPLE (R280). A SAMPLE fragment arrives, and fragment 0 is checked and admitted, dropped or refused before staging is reserved. -/
  | sample (m : Msg)
  /-- DECODE_START (R287). A fully staged use whose slot is free goes to the first free decode engine of its P-die. -/
  | decodeStart (p : Nat)
  /-- DECODE_COMPLETE (R289). An engine finishes decoding, concealing and augmenting a use and writes it to its slot. -/
  | decodeComplete (p e cycles : Nat)
  /-- ING_BUDGET_EXCEEDED (R296). A use reaches its decode budget, is abandoned and its engine takes the next use. -/
  | ingBudgetExceeded (p e : Nat)
  /-- CONCEALMENT_FILL (R295). An engine fills a missing or abandoned use wholly by the entry's concealment method. -/
  | concealmentFill (p e : Nat)
  /-- PERIOD_END (R284). The period length elapses and undelivered keys are resolved in ascending order under drop or conceal, starting the next period. -/
  | periodEnd
  /-- RECORD_DELIVER (R285). A complete record whose lower keys are settled and whose slot is released gets its directory written and its record token posted. -/
  | recordDeliver
  /-- INGEST_CREDIT (R303). The module sends INGEST_CREDIT at a period start, after a refusal or at a staging threshold, at most once per 100 µs per host pair. -/
  | ingestCredit (pair : Nat)
  /-- REDUCTION_SEND_BUNDLE (R322). After a tensor's ready token, the reduction sender reads, sends or takes locally, and clears the next bundle, posting the cleared token after the last. -/
  | reductionSendBundle (p : Nat)
  /-- REDUCE_CHUNK (R325). A REDUCE_CHUNK or local input is checked by the gauntlet and combined into its round. -/
  | reduceChunk (i : ReduceInput)
  /-- ROUND_WINDOW_CLOSE (R327). A round's window closes and each input is settled from the primary, the backup or as missing. -/
  | roundWindowClose (p bundle : Nat) (partialPhase : Bool)
  /-- GATHER_CHUNK (R331). A received signs or weights gather is stored, making signs known for update or writing working copies. -/
  | gatherChunk (m : Msg)
  /-- UPDATE_BUNDLE (R331). The update engine applies the sign rule to a bundle's present chunks, writes masters and working copies whole and sends weights on. -/
  | updateBundle (p : Nat)
  /-- JOB_LOAD (R345). A JOB_LOAD fragment is staged in A0's HBM, and the last byte starts admission. -/
  | jobLoad (m : Msg)
  /-- ADMISSION_COMPLETE (R346). Admission of a staged image finishes and the job becomes ADMITTED or REFUSED. -/
  | admissionComplete
  /-- JOB_START (R353). JOB_START action 0 sets the epoch and takes the admitted job through STARTING. -/
  | jobStart (m : Msg)
  /-- JOB_START_RESTORE (R376). JOB_START action 1 restores the thermos during STARTING before the start exchange. -/
  | jobStartRestore (m : Msg)
  /-- JOB_START_THERMOS (R366). JOB_START action 2 requests a thermos at the next step boundary. -/
  | jobStartThermos (m : Msg)
  /-- JOB_START_SCRUB (R53). JOB_START action 3 starts a host-requested memory scrub. -/
  | jobStartScrub (m : Msg)
  /-- DEFERRED_JOB_START (R27). A JOB_START held before full service is checked and carried out, in arrival order, once full service and deferred admission are reached. -/
  | deferredJobStart
  /-- HELLO (R426). A received HELLO is answered or, as a reply, compared for the start exchange and port states, entering RUNNING when all peers have answered. -/
  | hello (m : Msg)
  /-- HELLO_RESEND (R420). An unanswered HELLO is resent after 1 ms. -/
  | helloResend (k : Nat)
  /-- JOB_PEER_SILENT (R353). A mapped peer has not answered the start exchange for 10 s. -/
  | jobPeerSilent (k : Nat)
  /-- PROGRAM_NOP (R355). Job program command that does nothing. -/
  | programNop (c : ProgCmd)
  /-- VPASS (R355). Job program command that issues a vector pass descriptor into a context of a named cluster. -/
  | vpass (c : ProgCmd)
  /-- FIELD (R194). Job program command that issues a field descriptor into a context of a named cluster. -/
  | field (c : ProgCmd)
  /-- MOVE (R355). Job program command that places a move descriptor in the quadrant's move queue. -/
  | move (c : ProgCmd)
  /-- WAIT (R382). Job program command by which a play waits for a token with a lag. -/
  | wait (c : ProgCmd)
  /-- POST (R382). Job program command that posts a step or stream token. -/
  | post (c : ProgCmd)
  /-- SETR (R355). Job program command that sets a job register to an immediate. -/
  | setr (c : ProgCmd)
  /-- LOADR (R355). Job program command that loads a job register from memory. -/
  | loadr (c : ProgCmd)
  /-- SEND_ACT (R358). Job program command that starts sending a transfer as STAGE_ACT on the stage-next pair. -/
  | sendAct (c : ProgCmd)
  /-- SEND_GRAD (R358). Job program command that starts sending a transfer as STAGE_GRAD on the stage-previous pair. -/
  | sendGrad (c : ProgCmd)
  /-- RECV_ACT (R358). Job program command that opens reception of a STAGE_ACT transfer and grants credit. -/
  | recvAct (c : ProgCmd)
  /-- RECV_GRAD (R358). Job program command that opens reception of a STAGE_GRAD transfer and grants credit. -/
  | recvGrad (c : ProgCmd)
  /-- DRAIN (R355). Job program command by which a play waits for its deferred queue to empty. -/
  | drain (c : ProgCmd)
  /-- STEP_END (R356). Job program command that ends the quadrant's step body once every play has taken its earlier commands. -/
  | stepEnd (c : ProgCmd)
  /-- WAIT_SATISFIED (R382). A waiting WAIT or other token wait is satisfied when its post reaches the waiter, consuming a stream-token count. -/
  | waitSatisfied (d q play : Nat)
  /-- DRAIN_SATISFIED (R355). A DRAIN completes when its play's deferred queue is empty and its last deferred item is complete. -/
  | drainSatisfied (d q play : Nat)
  /-- DEFERRED_ISSUE (R360). The head of a play's deferred queue is issued when the main line is blocked and no earlier deferred item is incomplete. -/
  | deferredIssue (d q play : Nat)
  /-- STEP_BOUNDARY (R357). All step-end conditions hold, the step number advances, a due thermos starts, programs restart or the job ends at its step limit. -/
  | stepBoundary
  /-- CONTEXT_ROTATION (R362). After 2 µs of residence the resident play leaves its shared context at its first eligible boundary and the other play enters. -/
  | contextRotation (g ctx : Nat)
  /-- STAGE_MESSAGE_SEND (R358). The next message of a stage transfer is sent when credit allows, and the token is posted after its last byte is handed to the port. -/
  | stageMessageSend (grad : Bool)
  /-- STAGE_ACT (R358). A received STAGE_ACT is checked against the transfer due and written for the matching RECV. -/
  | stageAct (m : Msg)
  /-- STAGE_GRAD (R358). A received STAGE_GRAD is checked against the transfer due and written for the matching RECV. -/
  | stageGrad (m : Msg)
  /-- OP_SUSPEND (R367). Request that moves a running operation to SUSPENDING. -/
  | opSuspend (m : Msg)
  /-- OP_RESUME (R367). Request that returns a suspending or suspended operation to RUNNING. -/
  | opResume (m : Msg)
  /-- OP_CANCEL (R370). Request that moves an operation to CANCELLING, including the step-cancel course. -/
  | opCancel (m : Msg)
  /-- OP_STATE (R368). Request that returns an operation's state. -/
  | opState (m : Msg)
  /-- OPERATION_STOP_POINT (R367). A suspending or cancelling operation reaches a stop point and becomes SUSPENDED or FAILED. -/
  | operationStopPoint (handle : Nat)
  /-- THERMOS_RECORD_WRITE (R373). A checkpoint writes its next header, table or slot record at no more than the rate cap, finishing with the digest and state 1. -/
  | thermosRecordWrite (p : Nat)
  /-- THERMOS_MIRROR_SEND (R374). A P-die sends the next part of its finished generation as THERMOS_MIRROR to the east neighbour. -/
  | thermosMirrorSend (p : Nat)
  /-- THERMOS_MIRROR (R374). A received mirror message is written at the mirror base, with the header written last. -/
  | thermosMirror (m : Msg)
  /-- MIRROR_TIMEOUT (R374). The ring east pair cannot carry the mirror for 1 s, so the checkpoint ends with state 1. -/
  | mirrorTimeout
  /-- THERMOS_RESTORE_RECORD (R376). A restore checks and copies its next record of both generations into masters, working copies and tables. -/
  | thermosRestoreRecord (p : Nat)
  /-- ENERGY_REFILL (R388). Every 10 µs each stripe samples its sensors and current and refills its pool by the derated amount. -/
  | energyRefill (t : Nat) (temp current : Int)
  /-- DONOR_TRANSFER (R390). Every 100 µs the die power manager assigns donor stripes' refill to receivers with priority requests. -/
  | donorTransfer (d : Nat)
  /-- PRIORITY_REQUEST (R392). An item held for energy for 100 µs becomes a priority request and the stripe reserves credits for it. -/
  | priorityRequest (g ctx : Nat) (vector : Bool)
  /-- PWR_CREDIT_STARVED (R394). An item's energy hold reaches the hold limit and is reported. -/
  | pwrCreditStarved (g ctx : Nat) (vector : Bool)
  /-- PROFILE_REQ (R396). A write of PROFILE_REQ changes the requested profile and starts any clock change. -/
  | profileReq (m : Msg)
  /-- CLOCK_STEP (R397). After 5 µs the die power manager takes the next 0.8 GHz clock step toward the target. -/
  | clockStep (d : Nat)
  /-- THERMAL_TRIP (R399). A stripe, P-die or HBM stack stays at its trip temperature long enough, parking the die or taking shed actions. -/
  | thermalTrip (part : ThermalPart)
  /-- THERMAL_RECOVER (R399). A tripped part stays below 100 °C for 10 ms and its action is undone. -/
  | thermalRecover (part : ThermalPart)
  /-- RAIL_CONDITION (R400). A rail stays below a threshold for 50 µs and raises the shed level. -/
  | railCondition (r : Rail) (percent : Nat)
  /-- RAIL_CONDITION_CLEAR (R400). A rail stays 2 % above its threshold for 2 ms and its condition is undone. -/
  | railConditionClear (r : Rail) (percent : Nat)
  /-- STRIPE_OVERCURRENT (R400). A stripe's current exceeds 248 A for 1 µs, so its next refill is nothing. -/
  | stripeOvercurrent (t : Nat)
  /-- INPUT_THRESHOLD_CROSSED (R401). The input stays below a shed threshold for 50 µs and the shed level rises. -/
  | inputThresholdCrossed (volts : Nat)
  /-- INPUT_THRESHOLD_RECOVERED (R401). The input stays 1.0 V above a threshold for 2 ms and the shed level falls. -/
  | inputThresholdRecovered (volts : Nat)
  /-- SHED_LEVEL_ACTIONS (R402). A higher level whose delay elapsed during a lower level's actions is taken when those actions finish. -/
  | shedLevelActions
  /-- DIE_PARKED (R403). A die's work in flight has completed and it finishes parking, with HBM in self-refresh. -/
  | dieParked (d : Nat)
  /-- DIE_UNPARKED (R403). A die finishes unparking and waiting accesses and items proceed. -/
  | dieUnparked (d : Nat)
  /-- POWER_REMOVAL (R404). The input stays below 40.0 V for 10 µs and power is removed in order. -/
  | powerRemoval
  /-- INPUT_OVERVOLTAGE (R404). The input rises above 58.0 V and is reported, and above 60.0 V it is disconnected. -/
  | inputOvervoltage (volts : Nat)
  /-- DIE_IDLE (R464). A die that started no item for 10 µs gates its arithmetic clock. -/
  | dieIdle (d : Nat)
  /-- FOREIGN_PACKET (R410). A received packet that is not Icvan, is misaddressed or carries an extension header is dropped and counted. -/
  | foreignPacket (port : Nat)
  /-- NEIGHBOUR_DISCOVERY (R410). A port answers IPv6 neighbour discovery for its address. -/
  | neighbourDiscovery (port : Nat) (src target : BitVec 128)
  /-- PAUSE_FRAME (R411). A priority flow control pause stops a port's sending on the paused priority. -/
  | pauseFrame (port priority : Nat) (pause : Bool)
  /-- ECN_RATE_RAISE (R411). Every 10 µs a flow's reduced send rate rises by 1 % of the port rate. -/
  | ecnRateRaise (k : Nat)
  /-- ICVAN_UNKNOWN_TYPE (R424). An Icvan message of an unlisted type is discarded as malformed. -/
  | icvanUnknownType (m : Msg)
  /-- ACK (R419). A received ACK releases sent copies, updates credit and the CE count, or signals HOLD or resend. -/
  | ack (m : Msg)
  /-- ACK_DELAY_EXPIRY (R419). A delivered message not acknowledged at once is acknowledged within 2 µs. -/
  | ackDelayExpiry (k : Nat)
  /-- RETRANSMIT_TIMEOUT (R420). A message unacknowledged for 12 µs is resent with all later unacknowledged messages of its flow. -/
  | retransmitTimeout (k : Nat)
  /-- LINK_DOWN (R421). A port loses lock or exceeds the FEC limit for 8 µs and goes out of use, and the partner announces it and replays. -/
  | linkDown (port : Nat)
  /-- REPLAY_ROUND (R421). Messages still unacknowledged 12 µs after the replay are replayed once more. -/
  | replayRound (pair : Nat)
  /-- LINK_RETURN (R422). A failed port's link comes back and the port shows awaiting reset. -/
  | linkReturn (port : Nat)
  /-- READ (R427). Request that reads memory or the status space and is answered by READ_REPLY. -/
  | read (m : Msg)
  /-- WRITE (R427). Request that writes memory or a writable register and is answered by READ_REPLY. -/
  | write (m : Msg)
  /-- STATUS (R429). Request answered by a 64-byte STATUS. -/
  | status (m : Msg)
  /-- STATUS_CHANGE_REPORT (R429). After a service, job, shed or port change the module sends STATUS unasked, at most once per 10 ms. -/
  | statusChangeReport
  /-- ERROR_REPORT (R430). Records of severity information are sent in a batch at most every 100 ms. -/
  | errorReport
  /-- HOST_DECISION_RETRY (R507). HOST_DECISION RETRY makes the held unit repeat the failed action. -/
  | hostDecisionRetry (m : Msg)
  /-- HOST_DECISION_ABORT (R507). HOST_DECISION ABORT ends the job with a job reset. -/
  | hostDecisionAbort (m : Msg)
  /-- HOST_DECISION_SKIP (R507). HOST_DECISION SKIP does what the held code's rule defines. -/
  | hostDecisionSkip (m : Msg)
  /-- HOST_DECISION_WAIT (R329). HOST_DECISION WAIT lets a held round wait without further report. -/
  | hostDecisionWait (m : Msg)
  /-- HOST_DECISION_PRIMARY_MP0 (R458). HOST_DECISION naming MP0 primary ends Standoff. -/
  | hostDecisionPrimaryMp0 (m : Msg)
  /-- HOST_DECISION_PRIMARY_MP1 (R458). HOST_DECISION naming MP1 primary ends Standoff. -/
  | hostDecisionPrimaryMp1 (m : Msg)
  /-- ATTEND_GRANT (R474). An ATTEND_GRANT granting removal suspends the step, parks the dies, saves the log, takes ports down and enters removal ready. -/
  | attendGrant (m : Msg)
  /-- ATTEND_REFUSE (R475). An ATTEND_GRANT refusing removal ends the request or the removal-ready state. -/
  | attendRefuse (m : Msg)
  /-- ATTEND_REQ_RESEND (R432). An unanswered ATTEND_REQ is resent every 1 s. -/
  | attendReqResend
  /-- INFER_REQ (R434). An inference request fragment takes or fills a mailbox slot and, at its last fragment, marks the request present. -/
  | inferReq (m : Msg)
  /-- MAILBOX_POLL (R434). Every 10 µs the module reads occupied slot headers and sends INFER_REPLY for slots in state reply ready. -/
  | mailboxPoll
  /-- POWER_ON (R461). Input within range for 100 ms starts the roots of trust from mask ROM. -/
  | powerOn (strap : Nat)
  /-- MP_RELEASE (R446). A root of trust finishes checking a hamper slot, records F and H, derives the identity key and releases its management processor. -/
  | mpRelease (p : Nat)
  /-- PART_BRING_UP_COMPLETE (R450). A memory device, rail, die or port finishes training and zeroing, or fails to come up. -/
  | partBringUpComplete (part : Part) (ok : Bool)
  /-- STROLL_SERVICE (R448). A0, its HBM and ports 0 and 8 are up and the module enters Stroll service. -/
  | strollService (ms : Nat)
  /-- FULL_SERVICE (R447). Every part is up, A0's HBM is retrained, deferred admission runs and the module enters full service. -/
  | fullService
  /-- BOOT_FULL_LATE (R450). Full service has not been reached 9 s after power good. -/
  | bootFullLate
  /-- BRING_UP_DEADLINE (R450). At 30 s without full service each part not up is reported failed. -/
  | bringUpDeadline
  /-- HEARTBEAT (R456). A management processor sends its heartbeat every 100 µs, and primacy is agreed from the exchanged straps and measurements. -/
  | heartbeat (p : Nat)
  /-- HEARTBEAT_LOST (R457). Ten heartbeats in a row are missed and both processors enter Standoff. -/
  | heartbeatLost
  /-- HEARTBEAT_RESTORED (R458). The heartbeat stays restored for 100 ms and a recorded primacy decision ends Standoff. -/
  | heartbeatRestored
  /-- ENDORSEMENT_SIGNED (R453). The root of trust finishes signing a new endorsement and writes it to the endorsement area. -/
  | endorsementSigned (p : Nat)
  /-- ATTEST_REQ (R454). Request that starts an attestation quote over a host nonce. -/
  | attestReq (m : Msg)
  /-- ATTEST_QUOTE (R455). The signed quote is ready and sent in ATTEST_QUOTE messages. -/
  | attestQuote (p : Nat)
  /-- WARM_RESET (R461). RESET_CTRL action 1 ends operations, resets the job and restarts the compute dies and flows. -/
  | warmReset (m : Msg)
  /-- WARM_RESET_COMPLETE (R461). The 200 ms warm reset ends and full answering resumes. -/
  | warmResetComplete
  /-- PORT_RESET (R461). RESET_CTRL action 2 takes a port out of use and retrains it. -/
  | portReset (m : Msg)
  /-- PORT_RESET_COMPLETE (R422). A reset port finishes training, announces itself by HELLO and returns to use. -/
  | portResetComplete (port : Nat)
  /-- JOB_RESET (R461). RESET_CTRL action 3 discards the job's state. -/
  | jobReset (m : Msg)
  /-- HAMPER_UPDATE (R459). RESET_CTRL action 4 checks the staged hamper image and starts writing the target slot. -/
  | hamperUpdate (m : Msg)
  /-- HAMPER_SECTOR_WRITTEN (R460). A flash sector of a hamper update finishes, the next starts, and after the header the slot is read back and checked. -/
  | hamperSectorWritten
  /-- ENTER_STANDBY (R465). RESET_CTRL action 5 starts entry into Standby. -/
  | enterStandby (m : Msg)
  /-- STANDBY_ENTERED (R465). The log is saved, ports and A-dies are off and LPDDR5X is in self-refresh. -/
  | standbyEntered
  /-- LEAVE_STANDBY (R465). RESET_CTRL action 6 restarts bring-up from the P-die rails. -/
  | leaveStandby (m : Msg)
  /-- MODULE_RESET (R461). RESET_N held low for at least 10 µs and released restarts the module as at power-on, keeping LPDDR5X. -/
  | moduleReset (strap : Nat)
  /-- ATTEND_PRESS (R473). The Attend button closes for 50 ms and a removal request is raised or counted. -/
  | attendPress
  /-- EJECTOR_LIFT (R473). The ejector sense switch opens for 50 ms and a removal request is raised or counted. -/
  | ejectorLift
  /-- EJECTOR_LOWER (R473). Lowering the ejector raises the pending request's count without withdrawing it. -/
  | ejectorLower
  /-- OPTIC_CHANGE (R477). An optic is inserted or removed, updating PORT_STATE and writing NET_OPTIC_CHANGE. -/
  | opticChange (port : Nat) (seated overPower : Bool)
  /-- INPUT_OVERCURRENT (R479). Input current above 125 A for 100 µs disconnects the input and sets the nonvolatile flag. -/
  | inputOvercurrent
  /-- COOLANT_SAMPLE (R480). Every 100 ms the module measures coolant temperatures and flow. -/
  | coolantSample (inlet outlet : Int) (flow : Nat) (sustained : Bool)
  /-- STRAP_CHANGE (R482). PRIMARY_SEL changes after it was sampled and MOD_STRAP_CHANGED is written. -/
  | strapChange (level : Nat)
  /-- I2C_READ (R483). The chassis reads the register snapshot over I2C from the offset last written. -/
  | i2cRead (n : Nat)
  /-- I2C_WRITE (R483). An I2C write sets the read offset, and data bytes are not acknowledged. -/
  | i2cWrite (offset : Nat) (data : List Byte)
  /-- REFCLOCK_LOSS (R487). The clock monitor detects a lost reference and its PLLs enter holdover. -/
  | refclockLoss (serdes : Bool)
  /-- LIGHT_TEST (R472). A write of LIGHT_TEST sets the light test mode and duration. -/
  | lightTest (m : Msg)
  /-- LIGHT_TEST_EXPIRY (R472). The light test duration passes and the mode returns to normal. -/
  | lightTestExpiry
  /-- LOG_CLEAR (R503). A keyed write of LOG_CLEAR removes every entry other than undecided held entries and zeroes LOG_LOST. -/
  | logClear (m : Msg)
  /-- COUNTER_FREEZE (R508). Writing freeze 1 copies every counter to a snapshot returned by reads. -/
  | counterFreeze (m : Msg)
  /-- COUNTER_UNFREEZE (R508). Writing freeze 0 returns reads to the live counters. -/
  | counterUnfreeze (m : Msg)
  /-- LOG_SAVE_PERIODIC (R501). Every 10 minutes a changed error log is saved to the next flash region. -/
  | logSavePeriodic
  /-- LOG_SAVE_COMPLETE (R501). A log save finishes and any clear that waited for it takes effect. -/
  | logSaveComplete
  /-- REGISTER_WRITE_OTHER (R16). A write to a status and control address with no behaviour of its own changes nothing and is answered as denied. -/
  | registerWriteOther (m : Msg)
  /-- JOB_RESET_COMPLETE (R461). The 50 ms job reset, with its HBM zeroing, ends and the job rests in NONE or ENDED. -/
  | jobResetComplete
  /-- I2C_SNAPSHOT_REFRESH (R486). Every 100 ms the management processor refreshes the register snapshot that the I2C chassis link returns. -/
  | i2cSnapshotRefresh (power : Nat)
  deriving DecidableEq, Repr

end Sys2Proof
end

