-- ==== Sys2Proof/Decode.lean ====
section
/-! DEFINITION. The decoder over the rows of spec/opcode_table.json that give bits. The commands of the Nimaikan are
operations and events: no row of the table gives a bit pattern, so no word spells a command. -/

namespace Sys2Proof

/-- The command a table word spells: none, since no row of the table gives bits (DESIGN CHOICE, assumption 2). -/
def decodeTableWord (_nbits _w : Nat) : Option Instr := none

end Sys2Proof
end

