-- ==== Sys2Proof/Machine/Bits.lean ====
section
/-! DEFINITION. Bytes, words and bit fields: the byte orders of R7 and R8 and the field notation of the spec. -/

namespace Sys2Proof.Machine

/-- Bits [hi:lo] of a natural number. -/
def bits (x hi lo : Nat) : Nat := (x / 2 ^ lo) % 2 ^ (hi + 1 - lo)

/-- Bit `i` of a natural number. -/
def bit (x i : Nat) : Bool := x.testBit i

/-- The little-endian number a list of bytes spells (R7). -/
def leNat : List Byte → Nat
  | [] => 0
  | b :: t => b.toNat + 256 * leNat t

/-- The number a list of bytes spells in network order (R8). -/
def beNat (l : List Byte) : Nat := leNat l.reverse

/-- `n` bytes of a number, little-endian. -/
def leBytes : Nat → Nat → List Byte
  | 0, _ => []
  | n + 1, x => BitVec.ofNat 8 x :: leBytes n (x / 256)

/-- `n` bytes of a number in network order. -/
def beBytes (n x : Nat) : List Byte := (leBytes n x).reverse

/-- The bytes of a structure from `off`, `n` of them; bytes beyond its end read 0. -/
def sub (l : List Byte) (off n : Nat) : List Byte :=
  let t := (l.drop off).take n
  t ++ List.replicate (n - t.length) 0

/-- The little-endian field of `n` bytes at `off`. -/
def fld (l : List Byte) (off n : Nat) : Nat := leNat (sub l off n)

/-- Bits [hi:lo] of the little-endian field of `n` bytes at `off`. -/
def fbits (l : List Byte) (off n hi lo : Nat) : Nat := bits (fld l off n) hi lo

/-- A number of `w` bits read as two's complement. -/
def sext (w x : Nat) : Int := if x < 2 ^ (w - 1) then (x : Int) else (x : Int) - 2 ^ w

/-- A signed 32-bit field at `off`. -/
def sfld (l : List Byte) (off : Nat) : Int := sext 32 (fld l off 4)

/-- The low `w` bits of an integer in two's complement. -/
def wrapInt (w : Nat) (i : Int) : Nat := (i % (2 ^ w : Int)).toNat

/-- Are all bytes of the range zero (R15)? -/
def zeros (l : List Byte) (off n : Nat) : Bool := (sub l off n).all (fun b => b == 0)

/-- Round up to a multiple of `m`. -/
def roundUp (x m : Nat) : Nat := ((x + m - 1) / m) * m

/-- ceil(a / b). -/
def ceilDiv (a b : Nat) : Nat := (a + b - 1) / b

/-- The element at an index, or a default. -/
def nth {α : Type} (d : α) (l : List α) (i : Nat) : α := (l[i]?).getD d

/-- Replace the element at an index. -/
def putAt {α : Type} (l : List α) (i : Nat) (v : α) : List α := l.set i v

/-- A range of bytes is inside another: [a, a+n) ⊆ [lo, hi). -/
def inside (a n lo hi : Nat) : Bool := decide (lo ≤ a) && decide (a + n ≤ hi)

/-- Two byte ranges overlap. -/
def overlap (a n b m : Nat) : Bool := decide (a < b + m) && decide (b < a + n) && decide (0 < n) && decide (0 < m)

end Sys2Proof.Machine
end

