-- ==== Sys2Proof/Machine/Float.lean ====
section
/-! DEFINITION. Number formats and conversions (R57 to R80): a value is a NaN, an infinity or an exact dyadic number;
every operation is exact on these and rounds once at the end. -/

namespace Sys2Proof.Machine

/-- A floating-point value: `fin neg m e` is (-1)^neg * m * 2^e. -/
inductive FVal where
  | nan
  | inf (neg : Bool)
  | fin (neg : Bool) (m : Nat) (e : Int)
  deriving DecidableEq, Repr

/-- The parameters of a format (R58): field widths, bias, special encodings (0 IEEE, 1 E4M3, 2 none) and the largest
finite encoding. -/
structure FFmt where
  eb : Nat
  fb : Nat
  bias : Nat
  kind : Nat
  maxEnc : Nat
  nanEnc : Nat
  deriving DecidableEq, Repr

def fp32 : FFmt := ⟨8, 23, 127, 0, 0x7F7FFFFF, 0x7FC00000⟩
def bf16 : FFmt := ⟨8, 7, 127, 0, 0x7F7F, 0x7FC0⟩
def fp16 : FFmt := ⟨5, 10, 15, 0, 0x7BFF, 0x7E00⟩
def e4m3 : FFmt := ⟨4, 3, 7, 1, 0x7E, 0x7F⟩
def e5m2 : FFmt := ⟨5, 2, 15, 0, 0x7B, 0x7E⟩
def e3m2 : FFmt := ⟨3, 2, 3, 2, 0x1F, 0⟩
def e2m3 : FFmt := ⟨2, 3, 1, 2, 0x1F, 0⟩
def e2m1 : FFmt := ⟨2, 1, 1, 2, 0x7, 0⟩

/-- The float format of a code, the element's for a Microscaling code (R57). -/
def fmtOf (code : Nat) : FFmt :=
  match code with
  | 1 => bf16
  | 2 => fp16
  | 3 => e4m3
  | 4 => e5m2
  | 5 => e4m3
  | 6 => e5m2
  | 7 => e3m2
  | 8 => e2m3
  | 9 => e2m1
  | _ => fp32

/-- The element width in bits of a format code (R57). -/
def fmtBits (code : Nat) : Nat :=
  if code = 0 then 32 else if code ≤ 2 then 16 else if code ≤ 6 then 8 else if code ≤ 8 then 6
  else if code = 9 then 4 else if code = 0xA then 8 else if code = 0xB then 32 else if code = 0xC then 16 else 32

/-- A Microscaling code (R57). -/
def fmtMX (code : Nat) : Bool := decide (5 ≤ code) && decide (code ≤ 9)

/-- The operand groups of R68; 0 for a code that is no array operand. -/
def fmtGroup (code : Nat) : Nat :=
  if code = 1 ∨ code = 2 then 1 else if code = 3 ∨ code = 4 then 2 else if code = 5 ∨ code = 6 then 3
  else if 7 ≤ code ∧ code ≤ 9 then 4 else if code = 0xA then 5 else if code = 0xB then 6 else 0

/-- Read an encoding (R58, R59). -/
def FFmt.decode (f : FFmt) (x : Nat) : FVal :=
  let frac := bits x (f.fb - 1) 0
  let ex := bits x (f.fb + f.eb - 1) f.fb
  let neg := bit x (f.fb + f.eb)
  let top := 2 ^ f.eb - 1
  if f.kind = 0 ∧ ex = top then (if frac = 0 then .inf neg else .nan)
  else if f.kind = 1 ∧ ex = top ∧ frac = 2 ^ f.fb - 1 then .nan
  else if ex = 0 then .fin neg frac (1 - (f.bias : Int) - f.fb)
  else .fin neg (2 ^ f.fb + frac) ((ex : Int) - f.bias - f.fb)

def dec32 (x : Word) : FVal := fp32.decode x.toNat

/-! ## Rounding to a grid -/

/-- Choose a grid magnitude for `m * 2^e` on the grid of multiples of `2^q` (R75, R76): mode 0 nearest-even, 1 toward
zero, 2 stochastic with the random bits `u` (DEDUCED, assumption 18). -/
def gridRound (mode u m : Nat) (e q : Int) : Nat :=
  if q ≤ e then m * 2 ^ (e - q).toNat
  else
    let s := (q - e).toNat
    let lo := m / 2 ^ s
    let rem := m % 2 ^ s
    if mode = 1 then lo
    else if mode = 2 then
      let d := if 16 ≤ s then rem / 2 ^ (s - 16) else rem * 2 ^ (16 - s)
      if 65536 ≤ d + u then lo + 1 else lo
    else if 2 * rem > 2 ^ s ∨ (2 * rem = 2 ^ s ∧ lo % 2 = 1) then lo + 1 else lo

/-- The exponent of the least significant bit of the target grid at a nonzero magnitude (R75). -/
def FFmt.lsb (f : FFmt) (m : Nat) (e : Int) : Int :=
  max ((Nat.log2 m : Int) + e - f.fb) (1 - (f.bias : Int) - f.fb)

/-- The encoding of the magnitude `k * 2^q` of the extended grid, `none` when it lies above the largest finite value. -/
def FFmt.encMag (f : FFmt) (k : Nat) (q : Int) : Option Nat :=
  let carry := decide (2 ^ (f.fb + 1) ≤ k)
  let k := if carry then k / 2 else k
  let q := if carry then q + 1 else q
  let enc := if k < 2 ^ f.fb then k else (q + f.fb + f.bias).toNat * 2 ^ f.fb + (k - 2 ^ f.fb)
  if enc ≤ f.maxEnc then some enc else none

/-- The sign bit's place value. -/
def FFmt.sgn (f : FFmt) (neg : Bool) : Nat := if neg then 2 ^ (f.eb + f.fb) else 0

/-- The outcome of a conversion (R77): the encoding, whether it saturated, whether it is or came from a NaN. -/
structure Conv where
  enc : Nat
  sat : Bool
  nan : Bool
  deriving DecidableEq, Repr

/-- Convert a value to a bare float format (R75 to R77). `block` applies the block row of R77 (DEDUCED, assumption 19). -/
def FFmt.convert (f : FFmt) (block : Bool) (mode u : Nat) (v : FVal) : Conv :=
  match v with
  | .nan => ⟨f.nanEnc, false, true⟩
  | .inf neg =>
    if f.kind = 1 then ⟨f.sgn neg + f.maxEnc, true, false⟩ else ⟨f.sgn neg + (2 ^ f.eb - 1) * 2 ^ f.fb, false, false⟩
  | .fin neg m e =>
    if m = 0 then ⟨f.sgn neg, false, false⟩
    else
      let q := f.lsb m e
      match f.encMag (gridRound mode u m e q) q with
      | some enc => ⟨f.sgn neg + enc, false, false⟩
      | none =>
        if block = true ∨ f.kind ≠ 0 ∨ mode = 1 then ⟨f.sgn neg + f.maxEnc, true, false⟩
        else ⟨f.sgn neg + (2 ^ f.eb - 1) * 2 ^ f.fb, true, false⟩

/-- Round once to FP32, to nearest-even: the encoding and whether a finite value overflowed to infinity (R69, R71). -/
def round32 (v : FVal) : Word × Bool :=
  let c := fp32.convert false 0 0 v
  (BitVec.ofNat 32 c.enc, c.sat)

def enc32 (v : FVal) : Word := (round32 v).1

/-- The canonical NaN of FP32 (R58, R59). -/
def nan32 : Word := 0x7FC00000

def isNan32 (x : Word) : Bool := match dec32 x with | .nan => true | _ => false

def isNonfinite32 (x : Word) : Bool := match dec32 x with | .fin _ _ _ => false | _ => true

/-! ## Exact arithmetic -/

def FVal.neg : FVal → FVal
  | .nan => .nan
  | .inf s => .inf (!s)
  | .fin s m e => .fin (!s) m e

/-- The exact product (R69, R71). -/
def FVal.mul : FVal → FVal → FVal
  | .nan, _ => .nan
  | _, .nan => .nan
  | .inf a, .inf b => .inf (a != b)
  | .inf a, .fin b m _ => if m = 0 then .nan else .inf (a != b)
  | .fin a m _, .inf b => if m = 0 then .nan else .inf (a != b)
  | .fin a m e, .fin b n f => .fin (a != b) (m * n) (e + f)

def signed (neg : Bool) (m : Nat) : Int := if neg then -(m : Int) else m

/-- The exact sum (R71): an exact zero is +0 unless both terms are -0. -/
def FVal.add : FVal → FVal → FVal
  | .nan, _ => .nan
  | _, .nan => .nan
  | .inf a, .inf b => if a = b then .inf a else .nan
  | .inf a, .fin _ _ _ => .inf a
  | .fin _ _ _, .inf b => .inf b
  | .fin a m e, .fin b n f =>
    let q := min e f
    let s := signed a (m * 2 ^ (e - q).toNat) + signed b (n * 2 ^ (f - q).toNat)
    if s = 0 then .fin (a && b && (m == 0) && (n == 0)) 0 q else .fin (decide (s < 0)) s.natAbs q

def fAdd (a b : Word) : Word := enc32 ((dec32 a).add (dec32 b))
def fSub (a b : Word) : Word := enc32 ((dec32 a).add (dec32 b).neg)
def fMul (a b : Word) : Word := enc32 ((dec32 a).mul (dec32 b))
def fFma (a b c : Word) : Word := enc32 (((dec32 a).mul (dec32 b)).add (dec32 c))

/-- Order of two values, -0 equal to +0: -1, 0, 1, or 2 when either is a NaN. -/
def FVal.cmp (x y : FVal) : Int :=
  match x, y with
  | .nan, _ => 2
  | _, .nan => 2
  | .inf a, .inf b => if a = b then 0 else if a then -1 else 1
  | .inf a, .fin _ _ _ => if a then -1 else 1
  | .fin _ _ _, .inf b => if b then 1 else -1
  | .fin a m e, .fin b n f =>
    let q := min e f
    let d := signed a (m * 2 ^ (e - q).toNat) - signed b (n * 2 ^ (f - q).toNat)
    if d < 0 then -1 else if d = 0 then 0 else 1

/-- A finite or infinite value is negative, counting -0. -/
def FVal.isNeg : FVal → Bool
  | .nan => false
  | .inf s => s
  | .fin s _ _ => s

/-- The nearest integer to a finite value, ties to even. -/
def FVal.toIntNE : FVal → Int
  | .fin s m e => signed s (gridRound 0 0 m e 0)
  | _ => 0

def FVal.ofInt (i : Int) (e : Int) : FVal := .fin (decide (i < 0)) i.natAbs e

/-- Scale by a power of two, exactly. -/
def FVal.scale (k : Int) : FVal → FVal
  | .fin s m e => .fin s m (e + k)
  | v => v

/-! ## Conversions -/

/-- Convert a value to INT8 (R77, R78). -/
def toInt8 (mode u : Nat) (v : FVal) : Conv :=
  match v with
  | .nan => ⟨0, false, true⟩
  | .inf s => ⟨if s then 0x80 else 0x7F, true, false⟩
  | .fin s m e =>
    let i := signed s (gridRound mode u m e 0)
    if i > 127 then ⟨0x7F, true, false⟩ else if i < -128 then ⟨0x80, true, false⟩ else ⟨wrapInt 8 i, false, false⟩

/-- Read an INT16 gradient encoding (R64): 0x8000 is taken as -32,767 and counted. -/
def grad16 (x : Nat) : Int × Bool := if x % 65536 = 0x8000 then (-32767, true) else (sext 16 (x % 65536), false)

/-- The value of an encoding of any format of R57, under a scale byte (Microscaling) or a tensor exponent (INT16
gradient), before rounding to FP32 (R61, R74). -/
def valueOf (code x scale : Nat) (expo : Int) : FVal :=
  if fmtMX code then (if scale = 0xFF then .nan else ((fmtOf code).decode x).scale ((scale : Int) - 127))
  else if code = 0xA then .ofInt (sext 8 (x % 256)) 0
  else if code = 0xC then .ofInt (grad16 x).1 (-expo)
  else if code = 0xD then .ofInt (sext 32 (x % 2 ^ 32)) 0
  else (fmtOf code).decode x

/-- Convert an FP32 value to a bare narrower format (R75 to R78); FP32 itself copies. -/
def convertBare (code mode u : Nat) (v : Word) : Conv :=
  if code = 0xA then toInt8 mode u (dec32 v)
  else if code = 0 then ⟨v.toNat, false, isNan32 v⟩
  else (fmtOf code).convert false mode u (dec32 v)

/-- The largest exponent of a block element (R79). -/
def mxEmax (code : Nat) : Int := if code = 5 then 8 else if code = 6 then 15 else if code = 7 then 4 else 2

/-- floor(log2) of a finite value's magnitude, `none` for zero. -/
def FVal.log2 : FVal → Option Int
  | .fin _ m e => if m = 0 then none else some ((Nat.log2 m : Int) + e)
  | _ => none

/-- The scale byte of a block (R79 steps 1 to 3). -/
def mxScale (code : Nat) (vs : List Word) : Nat :=
  if vs.any isNonfinite32 then 0xFF
  else
    match (vs.filterMap (fun v => (dec32 v).log2)) with
    | [] => 0x7F
    | h :: t => (max (t.foldl max h - mxEmax code) (-127) + 127).toNat

/-- A block's elements under its scale byte (R79 step 4). -/
def mxElem (code mode u scale : Nat) (v : Word) : Conv :=
  if scale = 0xFF then ⟨0, false, isNan32 v⟩
  else (fmtOf code).convert true mode u ((dec32 v).scale (127 - (scale : Int)))

/-- Convert-and-add of a W pass partial into a gradient element (R65): the new element, and whether a saturation is
counted. -/
def convertAdd (p : Word) (q expo : Int) : Int × Bool :=
  match dec32 p with
  | .nan => (q, true)
  | v =>
    let n := match v with
      | .inf s => if s then -32767 else 32767
      | v => (v.scale expo).toIntNE
    let s := q + n
    if s > 32767 then (32767, true) else if s < -32767 then (-32767, true) else (s, false)

/-- The three BF16 parts of a Triple-BF16 operand, hi, mid, lo (R66). -/
def tripleSplit (x : Word) : Nat × Nat × Nat :=
  match dec32 x with
  | .nan => (0x7FC0, 0, 0)
  | .inf s => (if s then 0xFF80 else 0x7F80, 0, 0)
  | v =>
    let hi := x.toNat / 65536
    let r := enc32 (v.add (bf16.decode hi).neg)
    let mid := r.toNat / 65536
    let lo := (bf16.convert false 1 0 ((dec32 r).add (bf16.decode mid).neg)).enc
    (hi, mid, lo)

/-! ## Blocked layout (R62) -/

/-- Bytes of one 32-element block of a Microscaling code. -/
def mxBlockBytes (code : Nat) : Nat := 4 * fmtBits code

/-- Pack fields of `w` bits, element 0 lowest, into a number. -/
def packBits (w : Nat) : List Nat → Nat
  | [] => 0
  | x :: t => x % 2 ^ w + 2 ^ w * packBits w t

/-- Element `i` of a packed number. -/
def packedAt (w x i : Nat) : Nat := (x / 2 ^ (w * i)) % 2 ^ w

end Sys2Proof.Machine
end

