-- ==== Sys2Proof/Config.lean ====
section
/-! DEFINITION. The free values: constants with no body, one for each value the spec leaves open or takes from a
standard it does not reproduce. Nothing in Lean can evaluate them, so a claim holds whatever they are. -/

namespace Sys2Proof.Config

/-- The reading of a clock domain's free-running counter (R496) at the model's n-th time stamp. -/
opaque freeCounter : (domain stamp : Nat) → DWord

/-- The cycles of a clock domain's counter in an hour (R50): the spec does not give every domain's frequency. -/
opaque hourCycles : (domain : Nat) → Nat

/-- FIPS 205 verification of a signature over a message under a public key (R344, R441): the standard is not part of
the spec. -/
opaque slhVerify : (key message signature : List Byte) → Bool

/-- FIPS 205 key generation from a 96-byte seed (R452): the public key of the fast (`true`) or the small set
(DESIGN CHOICE, assumption 9). -/
opaque slhPublicKey : (fast : Bool) → (seed : List Byte) → List Byte

/-- FIPS 205 signing with the key a 96-byte seed generates (R453, R454) (DESIGN CHOICE, assumption 9). -/
opaque slhSign : (fast : Bool) → (seed message : List Byte) → List Byte

/-- What a compressed block of RFC 8878 regenerates, from its frame's bytes before it and its content; none when it fails to
decode (R290): the standard's entropy coding is not part of the spec (DESIGN CHOICE, assumption 10). -/
opaque zstdBlock : (frame content : List Byte) → Option (List Byte)

/-- The number of an error code of which the spec gives only the range (R504, R506). -/
opaque openCode : (label : Nat) → Nat

/-- What the chassis reads past the registers of R483, or before their first refresh (DESIGN CHOICE, assumption 45). -/
opaque i2cByte : (offset : Nat) → Byte

end Sys2Proof.Config
end

