-- ==== Sys2Proof/Machine/Codes.lean ====
section
/-! DEFINITION. The error codes (R119, R149, R178, ..., R504 to R506): one label per mnemonic. Where the spec gives the
number, the label is that number. Where it gives only the range the number lies in, the label is the model's own and
the number on the wire is a free value (assumption 4). -/

namespace Sys2Proof.Machine

namespace Code
def arrSplitHalfFault : Nat := 0x0101
def arrNanTrap : Nat := 0x0102
def arrAccInf : Nat := 0x0103
def arrEmptyReduction : Nat := 0x0104
def arrFormatPairInvalid : Nat := 0x0105
def arrSlotShapeMismatch : Nat := 0x0106
def arrFormatUnavailable : Nat := 0x0107
def loopAddrOutOfWindow : Nat := 0x0201
def loopSlotsExceeded : Nat := 0x0202
def loopBoundInvalid : Nat := 0x0203
def loopActualLengthInvalid : Nat := 0x0204
def loopMulticastMaskInvalid : Nat := 0x0205
def loopTableMalformed : Nat := 0x0206
def loopSlotConflict : Nat := 0x0207
def loopTableCountExceeded : Nat := 0x0208
def vecIllegalOp : Nat := 0x0301
def vecProgramTooLong : Nat := 0x0302
def vecEpilogueMismatch : Nat := 0x0303
def vecRunaway : Nat := 0x0304
def vecDescriptorInvalid : Nat := 0x0305
def memHbmUncorrectable : Nat := 0x0401
def memLpUncorrectable : Nat := 0x0402
def memStoreParity : Nat := 0x0403
def memCorrected : Nat := 0x0404
def memOffloadLate : Nat := 0x0405
def memAddressUnbacked : Nat := 0x0406
def memMoveInvalid : Nat := 0x0407
def fldEmptyOutput : Nat := 0x0501
def fldBoxOutside : Nat := 0x0502
def fldLayoutMismatch : Nat := 0x0503
def fldWindowInvalid : Nat := 0x0504
def fldDescriptorInvalid : Nat := 0x0505
def attPageUnmapped : Nat := 0x0601
def attRowFullyMasked : Nat := 0x0602
def attStatsMissing : Nat := 0x0603
def attPageMapFull : Nat := 0x0604
def attWalkInvalid : Nat := 0x0605
def attPageLate : Nat := 0x0606
def carLapTimeout : Nat := 0x0701
def carPageDuplicate : Nat := 0x0702
def carPairDegraded : Nat := 0x0703
def carTourInvalid : Nat := 0x0704
def carPageUnexpected : Nat := 0x0705
def ingRefusedFull : Nat := 0x0801
def ingLateDropped : Nat := 0x0802
def ingDimClaim : Nat := 0x0803
def ingStreamMissing : Nat := 0x0804
def ingDamageConcealed : Nat := 0x0805
def ingBudgetExceeded : Nat := 0x0806
def ingRecipeInvalid : Nat := 0x0807
def ingSampleMalformed : Nat := 0x0808
def redChecksumMismatch : Nat := 0x0901
def redBackupTaken : Nat := 0x0902
def redContributionMissing : Nat := 0x0903
def redSaturation : Nat := 0x0904
def redOrderViolation : Nat := 0x0905
def redPlanInvalid : Nat := 0x0906
def updMasterUncorrectable : Nat := 0x0A01
def updShardMismatch : Nat := 0x0A02
def updNonfinite : Nat := 0x0A03
def jobImageSignature : Nat := 0x0B01
def jobMappingMismatch : Nat := 0x0B02
def jobStageMemory : Nat := 0x0B03
def jobOpCancelled : Nat := 0x0B04
def jobThermosIncomplete : Nat := 0x0B05
def jobImageMalformed : Nat := 0x0B06
def jobProgramInvalid : Nat := 0x0B07
def jobOpRefused : Nat := 0x0B08
def jobRestoreRefused : Nat := 0x0B09
def jobStageUnexpected : Nat := 0x0B0A
def jobPeerSilent : Nat := 0x0B0B
def pwrShedEntered : Nat := 0x0C01
def pwrThermalLimit : Nat := 0x0C02
def pwrRailFault : Nat := 0x0C03
def pwrCreditStarved : Nat := 0x0C04
def pwrShedLeft : Nat := 0x0C05
def netLinkDown : Nat := 0x0D01
def netRetransmitExhausted : Nat := 0x0D02
def netCrc : Nat := 0x0D03
def netOpticChange : Nat := 0x0D04
def netFlowUnknown : Nat := 0x0D05
def netMessageMalformed : Nat := 0x0D06
def netBusy : Nat := 0x0D07
def netEpochMismatch : Nat := 0x0D08
def netCreditExceeded : Nat := 0x0D09
def netAccessDenied : Nat := 0x0D0A
def netPairRestored : Nat := 0x0D0B
def bootSignatureFail : Nat := 0x0E01
def bootHamperInvalid : Nat := 0x0E02
def bootStandoff : Nat := 0x0E03
def bootFallbackSlot : Nat := 0x0E04
def secAttestBusy : Nat := 0x0E05
def bootNoValidSlot : Nat := 0x0E06
def bootTrainingFail : Nat := 0x0E07
def bootFullLate : Nat := 0x0E08
def secOwnerKeyFused : Nat := 0x0E09
def modAttendPressed : Nat := 0x0F01
def modCoolant : Nat := 0x0F02
def modInputRange : Nat := 0x0F03
def modStrapChanged : Nat := 0x0F04
def modRefclockLost : Nat := 0x0F05

/-- The labels whose number the spec does not give. FLD_LAYOUT_MISMATCH, ATT_ROW_FULLY_MASKED, ATT_PAGE_MAP_FULL and
JOB_THERMOS_INCOMPLETE are not among them: R504 to R506 leave each one number of its subsystem and severity (DEDUCED,
assumption 4). -/
def openLabels : List Nat :=
  [arrAccInf, arrEmptyReduction, loopAddrOutOfWindow, loopSlotsExceeded, loopBoundInvalid,
   loopMulticastMaskInvalid, vecIllegalOp, vecProgramTooLong, memCorrected, memOffloadLate,
   fldEmptyOutput, fldBoxOutside,
   carLapTimeout, carPageDuplicate, carPairDegraded, ingRefusedFull, ingLateDropped,
   ingDimClaim, ingStreamMissing, ingDamageConcealed, ingBudgetExceeded, redBackupTaken,
   redSaturation, jobImageSignature, jobMappingMismatch, jobStageMemory,
   pwrShedEntered, pwrThermalLimit, pwrRailFault, pwrCreditStarved, netLinkDown,
   netCrc, netOpticChange, netFlowUnknown, bootSignatureFail, bootHamperInvalid,
   bootFallbackSlot, secAttestBusy, modAttendPressed, modCoolant, modInputRange]

/-- The number a label has on the wire and in a record. -/
def wire (c : Nat) : Nat := if c ∈ openLabels then Config.openCode c else c

/-- The usual severity of a code (R504 to R506): 0 information, 1 held, 2 failed. -/
def severity (c : Nat) : Nat :=
  if c ∈ [arrFormatPairInvalid, loopAddrOutOfWindow, loopSlotsExceeded, loopBoundInvalid, loopMulticastMaskInvalid,
      loopTableMalformed, loopSlotConflict, loopTableCountExceeded, vecIllegalOp, vecProgramTooLong,
      vecEpilogueMismatch, vecDescriptorInvalid, memMoveInvalid, fldLayoutMismatch, fldWindowInvalid,
      fldDescriptorInvalid, attPageMapFull, attWalkInvalid, carTourInvalid, ingRecipeInvalid, redPlanInvalid,
      jobImageSignature, jobMappingMismatch, jobStageMemory, jobImageMalformed, jobProgramInvalid, jobRestoreRefused,
      bootNoValidSlot, bootTrainingFail, modRefclockLost] then 2
  else if c ∈ [arrSplitHalfFault, arrNanTrap, arrSlotShapeMismatch, arrFormatUnavailable, loopActualLengthInvalid,
      vecRunaway, memHbmUncorrectable, memLpUncorrectable, memStoreParity, memAddressUnbacked, attPageUnmapped,
      attStatsMissing, carPageUnexpected, redChecksumMismatch, redContributionMissing, redOrderViolation,
      updMasterUncorrectable, updShardMismatch, jobOpCancelled, jobStageUnexpected, netRetransmitExhausted,
      bootStandoff] then 1
  else 0

/-- The decisions a held code allows (R505), by number of R431; `tag` and `partialPhase` select its named cases. -/
def offers (c tag : Nat) (partialPhase : Bool) (decision : Nat) : Bool :=
  let retryAbort := decide (decision = 0 ∨ decision = 1)
  if c = bootStandoff then decide (decision = 4 ∨ decision = 5)
  else if c = loopActualLengthInvalid ∨ c = attPageUnmapped then decide (decision = 2 ∨ decision = 1)
  else if c = memStoreParity then (if tag = 22 then retryAbort else decide (decision = 1))
  else if c = redChecksumMismatch then (if tag = 18 then decide (decision = 1) else retryAbort)
  else if c = redContributionMissing then
    (if partialPhase then decide (decision = 3 ∨ decision = 1)
     else decide (decision = 3 ∨ decision = 2 ∨ decision = 1))
  else if c ∈ [arrNanTrap, memHbmUncorrectable, memLpUncorrectable, memAddressUnbacked, attStatsMissing,
      updMasterUncorrectable, jobOpCancelled, netRetransmitExhausted] then retryAbort
  else decide (decision = 1)

end Code

end Sys2Proof.Machine
end

