-- ==== Sys2Proof/Machine/Hash.lean ====
section
/-! DEFINITION. SHAKE256 (FIPS 202), which R83, R344, R348, R372, R440 and R441 name, CRC-32C (R291, the Icvan header),
and the Oavar counter generator (R81 to R86). PRESUMED: the text of FIPS 202 and the CRC polynomial are not in the spec. -/

namespace Sys2Proof.Machine

/-! ## Keccak-f[1600]

The state is five sheets of five lanes: lane (x, y) of FIPS 202 is entry y of sheet x. Offsets and round constants are
computed by the standard's own procedures, the walk of (x, y) and the degree-8 shift register. -/

abbrev Lane := BitVec 64
abbrev Sheets := List (List Lane)

def Sheets.lane (a : Sheets) (x y : Nat) : Lane := nth 0 (nth [] a x) y

/-- A state from its lanes. -/
def Sheets.build (f : Nat → Nat → Lane) : Sheets := (List.range 5).map (fun x => (List.range 5).map (f x))

/-- The walk of step rho from (x, y): the places it visits and the rotation of each, the triangular numbers. -/
def rhoWalk : Nat → Nat → Nat → Nat → List ((Nat × Nat) × Nat)
  | 0, _, _, _ => []
  | n + 1, t, x, y => ((x, y), t * (t + 1) / 2 % 64) :: rhoWalk n (t + 1) y ((2 * x + 3 * y) % 5)

def rhoTurns (x y : Nat) : Nat := ((rhoWalk 24 1 1 0).lookup (x, y)).getD 0

/-- One clock of the shift register x^8 + x^6 + x^5 + x^4 + 1 of step iota. -/
def iotaClock (r : Nat) : Nat := if r < 128 then 2 * r else (2 * r) ^^^ 0x171

/-- The constant of a round, and the register after its seven bits. -/
def iotaConst : Nat → Nat → Nat → Lane × Nat
  | 0, _, r => (0, r)
  | n + 1, place, r =>
    let rest := iotaConst n (2 * place + 1) (iotaClock r)
    (if r % 2 = 1 then rest.1 ||| (1#64 <<< place) else rest.1, rest.2)

/-- Theta: each sheet takes the parity of the sheet before it and the turned parity of the sheet after it. -/
def keccakTheta (a : Sheets) : Sheets :=
  let parity := a.map (fun sheet => sheet.foldl (· ^^^ ·) 0)
  let mix := (parity.rotateLeft 4).zip (parity.rotateLeft 1)
  (a.zip mix).map (fun e => e.1.map (fun v => v ^^^ e.2.1 ^^^ e.2.2.rotateLeft 1))

/-- Rho and pi: each lane turned, then moved. -/
def keccakRhoPi (a : Sheets) : Sheets :=
  Sheets.build (fun x y =>
    let from_ := (x + 3 * y) % 5
    (a.lane from_ x).rotateLeft (rhoTurns from_ x))

/-- Chi: along a row, a lane changes where the next is clear and the one after is set. -/
def keccakChi (a : Sheets) : Sheets :=
  let next := a.rotateLeft 1
  let after := a.rotateLeft 2
  (a.zip (next.zip after)).map (fun e =>
    (e.1.zip (e.2.1.zip e.2.2)).map (fun v => v.1 ^^^ (v.2.2 &&& ~~~v.2.1)))

/-- Iota: the round constant enters lane (0, 0). -/
def keccakIota (k : Lane) : Sheets → Sheets
  | (v :: sheet) :: t => ((v ^^^ k) :: sheet) :: t
  | a => a

/-- `n` rounds from the shift register's value. -/
def keccakRounds : Nat → Nat → Sheets → Sheets
  | 0, _, a => a
  | n + 1, r, a =>
    let k := iotaConst 7 0 r
    keccakRounds n k.2 (keccakIota k.1 (keccakChi (keccakRhoPi (keccakTheta a))))

/-- The bytes of a block of 136 that SHAKE256 takes or gives between two permutations. -/
def shakeRate : Nat := 136

/-- Take one block into the state and permute. -/
def spongeTake (a : Sheets) (block : List Byte) : Sheets :=
  keccakRounds 24 1 (Sheets.build (fun x y => a.lane x y ^^^ BitVec.ofNat 64 (fld block (8 * (x + 5 * y)) 8)))

/-- Take `n` blocks of a message. -/
def spongeAbsorb : Nat → List Byte → Sheets → Sheets
  | 0, _, a => a
  | n + 1, l, a => spongeAbsorb n (l.drop shakeRate) (spongeTake a (l.take shakeRate))

/-- The first `shakeRate` bytes of the state: byte i stands in lane i / 8, lanes counted along x first. -/
def spongeBlock (a : Sheets) : List Byte :=
  (List.range shakeRate).map (fun i => BitVec.ofNat 8 ((a.lane (i / 8 % 5) (i / 40)).toNat / 2 ^ (8 * (i % 8))))

/-- Give `n` blocks. -/
def spongeGive : Nat → Sheets → List Byte
  | 0, _ => []
  | n + 1, a => spongeBlock a ++ spongeGive n (keccakRounds 24 1 a)

/-- The padding of SHAKE256: domain bits 1111, then pad10*1. -/
def shakePad (l : List Byte) : List Byte :=
  let n := shakeRate - l.length % shakeRate
  if n = 1 then l ++ [0x9F] else l ++ [0x1F] ++ List.replicate (n - 2) 0 ++ [0x80]

/-- SHAKE256 of a byte string, `n` bytes of output (PRESUMED, assumption 11). -/
def shake256 (l : List Byte) (n : Nat) : List Byte :=
  let p := shakePad l
  (spongeGive (n / shakeRate + 1) (spongeAbsorb (p.length / shakeRate) p (Sheets.build (fun _ _ => 0)))).take n

/-! ## CRC-32C -/

def crcBits : Nat → Word → Word
  | 0, c => c
  | n + 1, c => crcBits n (if c.getLsbD 0 then (c >>> 1) ^^^ 0x82F63B78 else c >>> 1)

/-- CRC-32C (Castagnoli, reflected), initial value and final complement all ones (PRESUMED, assumption 11). -/
def crc32c (l : List Byte) : Word :=
  ~~~ l.foldl (fun c b => crcBits 8 (c ^^^ b.zeroExtend 32)) 0xFFFFFFFF

/-! ## OCG -/

/-- The round constant RC[r] (R82). -/
def ocgRC (r : Nat) : Word := BitVec.ofNat 32 (r * 0x9E3779B9)

/-- One round of R81 (DEDUCED, assumption 13). -/
def ocgRound (k : List Word) (x : List Word) (r : Nat) : List Word :=
  let x0 := nth 0 x 0 + (nth 0 k ((r - 1) % 4) ^^^ ocgRC r)
  let x1 := nth 0 x 1; let x2 := nth 0 x 2; let x3 := nth 0 x 3
  let x0 := x0 + x1; let x3 := (x3 ^^^ x0).rotateLeft 16
  let x2 := x2 + x3; let x1 := (x1 ^^^ x2).rotateLeft 12
  let x0 := x0 + x1; let x3 := (x3 ^^^ x0).rotateLeft 8
  let x2 := x2 + x3; let x1 := (x1 ^^^ x2).rotateLeft 20
  [x0, x1, x2, x3]

/-- OCG under a key and a counter of four words each (R81). DEDUCED: where the test vector R88 disagrees with the
procedure of R81 after round 10, the procedure is followed (DEDUCED, assumption 13). -/
def ocg (k c : List Word) : List Word :=
  let x := (List.range 4).map (fun i => nth 0 c i ^^^ nth 0 k i)
  let x := (List.range 10).foldl (fun x r => ocgRound k x (r + 1)) x
  (List.range 4).map (fun i => nth 0 x i + nth 0 k i)

/-- The key for a purpose byte: 16 bytes of SHAKE256 over "NMK-OCG", the byte and the seed (R83). -/
def ocgKey (purpose : Byte) (seed : List Byte) : List Word :=
  let h := shake256 ([0x4E, 0x4D, 0x4B, 0x2D, 0x4F, 0x43, 0x47] ++ [purpose] ++ seed) 16
  (List.range 4).map (fun i => BitVec.ofNat 32 (fld h (4 * i) 4))

/-- The rounding counter of R84. -/
def roundCounter (step tensor element : Nat) : List Word :=
  let b := element / 8
  [BitVec.ofNat 32 b, BitVec.ofNat 32 (tensor % 65536 + 65536 * bits b 47 32),
   BitVec.ofNat 32 step, BitVec.ofNat 32 (bits step 47 32)]

/-- The 16 random bits of a rounded element (R86). -/
def roundBits (key : List Word) (step tensor element : Nat) : Nat :=
  let y := ocg key (roundCounter step tensor element)
  let j := element % 8
  bits (nth 0 y (j / 2)).toNat (16 * (j % 2) + 15) (16 * (j % 2))

/-- The output words of an augmentation call (R85). -/
def augWords (key : List Word) (sample op block : Nat) : List Word :=
  ocg key [BitVec.ofNat 32 block, BitVec.ofNat 32 (op % 65536 + 65536 * bits block 47 32),
           BitVec.ofNat 32 sample, BitVec.ofNat 32 (sample / 2 ^ 32)]

end Sys2Proof.Machine
end

