-- ==== Sys2Proof/Machine/State.lean ====
section
/-! DEFINITION. The state of the module: every register, store, queue, counter and mode the spec names, as plain data.
Tables that are indexed (clusters, stripes, ports, flows, counters) are sparse `Tab`s whose default is the entry after
reset. Sections of a job image are kept as the bytes the image carries (R353 copies them into the on-die stores). -/

namespace Sys2Proof.Machine

/-- Memory: the backed cells of the device-physical address space (R30); a cell not listed reads 0 (R55). -/
abbrev Memory := List Host.Cell

/-- Sixty-four lanes of 32 bits (R150). -/
abbrev Lanes := Vector Word 64

def Lanes.zero : Lanes := Vector.replicate 64 0

/-! ## Identity, fuses, hamper, flash -/

/-- An owner fuse entry (R438). -/
structure OwnerEntry where
  hash : List Byte
  revoked : Bool
  deriving DecidableEq, Repr

/-- The fuses of a P-die (R438). -/
structure Fuses where
  oavarHash : List Byte
  secret : List Byte
  owners : List OwnerEntry
  minSecurity : Nat
  deriving DecidableEq, Repr

/-- The identity registers (R2, R509, R510): `a384` is the order code. -/
structure Ident where
  a384 : Bool
  serial : DWord
  aRev : BitVec 8
  pRev : BitVec 8
  deriving DecidableEq, Repr

/-- One entry of a peer table (R412, R443 type 0x0013). -/
structure Peer where
  role : Nat
  index : Nat
  side0 : BitVec 128
  side1 : BitVec 128
  deriving DecidableEq, Repr

/-- The hamper's configuration in force (R443). -/
structure Hamper where
  primacy : Nat
  addresses : List (BitVec 128)
  roles : List Nat
  peers : List Peer
  udpPort : Nat
  pfc : Bool
  pfcPriority : Nat
  report : Option (BitVec 128)
  maxProfile : Nat
  defaultProfile : Nat
  inputCap : Nat
  holdLimit : Nat
  ceThreshold : Nat
  patrolHours : Nat
  maxStaging : Option Nat
  maxCompressed : Option Nat
  outClusters : List Nat
  deriving DecidableEq, Repr

/-- A management processor with its root of trust (R446, R452 to R456): `run` is 0 off, 1 booting, 2 running, 3 recovery
loader; `strap` the strap as sampled; `heard` once the other's heartbeat has come; the quote in progress is its body, its flow
key and its operation. -/
structure Mp where
  run : Nat
  slot : Nat
  hamper : Option Hamper
  f : List Byte
  h : List Byte
  idKey : List Byte
  endorsement : List Byte
  strap : Nat
  heard : Bool
  standoff : Bool
  quoting : Bool
  quoteBody : List Byte
  quoteKey : Nat
  quoteHandle : Nat
  deriving DecidableEq, Repr

/-! ## Error log -/

/-- A log entry: the record (R492) and its extension (R497). -/
structure LogEntry where
  code : Nat
  severity : Nat
  decided : Bool
  saturated : Bool
  restored : Bool
  bySecondary : Bool
  posKind : Nat
  dataPath : Word
  controlPath : BitVec 16
  count : Nat
  position : DWord
  tag : Nat
  values : List Byte
  domain : Nat
  first : DWord
  lastAt : DWord
  seq : Nat
  reported : Bool
  deriving DecidableEq, Repr

/-- What stands still until a HOST_DECISION (R491, R507) (DESIGN CHOICE, assumption 29). -/
inductive Site where
  | context (g ctx : Nat)
  | array (g half : Nat)
  | vector (g ctx : Nat)
  | tableStart (d q ctx : Nat)
  | walkStats (d q ctx : Nat)
  | walkPage (d q ctx c page : Nat)
  | carousel (d flow : Nat)
  | round (p bundle : Nat) (partialPhase : Bool)
  | reductionFlow (k : Nat)
  | stageFlow (grad : Bool)
  | netFlow (k : Nat)
  | job
  | standoff (p : Nat)
  | move (d q e : Nat)
  | reductionSender (p : Nat)
  | update (p : Nat)
  | engine (p e : Nat)
  | aligner
  | carouselSend (d dir : Nat)
  | stageSend (grad : Bool)
  | loadr (d q play : Nat)
  | multicast (d q ctx : Nat)
  | thermos (p : Nat)
  | hostWrite (k : Nat)
  deriving DecidableEq, Repr

/-- An undecided hold: the record it matches and the unit that holds (R491, R499). -/
structure Hold where
  code : Nat
  dataPath : Word
  position : DWord
  tag : Nat
  site : Site
  deriving DecidableEq, Repr

/-- The error log (R497 to R503). `entries` is in sequence order; `standoffLog` holds the secondary's records of a Standoff,
which began at sequence `standoffSeq`. -/
structure ErrLog where
  entries : List LogEntry
  nextSeq : Nat
  lost : Nat
  saving : Bool
  clearAfterSave : Bool
  changed : Bool
  holds : List Hold
  retried : List Hold
  standoffLog : List LogEntry
  standoffSeq : Nat
  flash : List LogEntry
  flashOther : List LogEntry
  flashSaves : Nat
  deriving DecidableEq, Repr

/-! ## Clusters -/

/-- An operand element as the edges carry it: its bits and, for Microscaling, the scale byte of its block (R61). -/
structure Elem where
  bits : Nat
  scale : Nat
  deriving DecidableEq, Repr

/-- An array pass with the parameters of R94 and what its readout needs. `id` numbers the cluster's passes, `item` is the issue
it belongs to and `point` its walk position. `shape` is 0 crown, 1 brim, 2 split half 0, 3 split half 1; a pass with an epilogue
is `drained` once it has completed and only its rows still run; `readout` 0 none, 1 raw, 2 converted, 3 epilogue, 4 gradient
add, 5 to the softmax pipe; `source` 0 stream, 1 stream and hold, 2 replay; `frame`, `pitch` and `red` place its A tile in the
input bank. A pass of a walk has `walk` set: `table` is then the record, `stage` 0 scores, 1 dP, 2 values or dQ, 3 dV, 4 dK,
`group` the group it serves and `part` its place in the stage (R229, R234, R235). -/
structure Pass where
  id : Nat
  ctx : Nat
  play : Nat
  item : Nat
  table : Nat
  point : Nat
  shape : Nat
  fmtA : Nat
  fmtB : Nat
  k0 : Nat
  len : Nat
  rows : Nat
  cols : Nat
  slot : Nat
  init : Bool
  readout : Nat
  source : Nat
  frame : Nat
  pitch : Nat
  red : Nat
  fmtO : Nat
  walk : Bool
  stage : Nat
  group : Nat
  part : Nat
  m : Nat
  n : Nat
  gOff : Nat
  addrO : Nat
  addrC : Nat
  issued : Nat
  row : Nat
  nan : Bool
  overflowed : Bool
  faulted : Bool
  drained : Bool
  deriving DecidableEq, Repr

/-- Where the weight bytes of a pass come from (R107, R134): its columns start at `addr`, `pitch` bytes apart, each `len`
elements long; `base` and `scale` place the scale bytes of a Microscaling operand (R135). -/
structure Feed where
  addr : Nat
  pitch : Nat
  fmt : Nat
  base : Nat
  scale : Int
  len : Nat
  cols : Nat
  deriving DecidableEq, Repr

/-- A block of the weight queue: the pass it is fetched for, its source, the bytes that have arrived, those that have left
as they were used, and the slices (one per reduction index) that have arrived (R107, R108). -/
structure WBlock where
  ctx : Nat
  item : Nat
  point : Nat
  half : Nat
  feed : Feed
  bytes : Nat
  used : Nat
  slices : List (List Elem)
  deriving DecidableEq, Repr

/-- A frame of the input bank (R136): where it lies, the A tile it holds, the rows and reduction indices loaded, and whether no
pass has used it yet. -/
structure BankFrame where
  off : Nat
  bytes : Nat
  key : List Nat
  rows : Nat
  len : Nat
  fresh : Bool
  deriving DecidableEq, Repr

/-- A C tile in a cluster's epilogue side buffer, delivered by multicast (R137): the issue, the point and the tile's rows as
elements with their scale bytes. -/
structure SideTile where
  ctx : Nat
  item : Nat
  point : Nat
  rows : List (List (Nat × Nat))
  deriving DecidableEq, Repr

/-- A row read out to the softmax pipe (R229): the walk, the group, stage and part of its pass, and the row's number. -/
structure PipeRow where
  item : Nat
  group : Nat
  stage : Nat
  part : Nat
  r : Nat
  values : List Word
  deriving DecidableEq, Repr

/-- A row waiting in an epilogue queue (R153). -/
structure EpiRow where
  pass : Pass
  r : Nat
  values : List Word
  deriving DecidableEq, Repr

/-- The loop-table walk of one member (R121, R128): the next point to start (`pos`), the next point whose C tile is to be
delivered (`cNext`), and the passes and epilogue rows not yet finished. -/
structure TableRun where
  item : Nat
  num : Nat
  lenM : Nat
  lenN : Nat
  lenK : Nat
  rank : Nat
  pos : Nat
  cNext : Nat
  outstanding : Nat
  deriving DecidableEq, Repr

/-- A descriptor of a walk, with the fields of R223 and the header marks read with it (R224). -/
structure Desc where
  record : Nat
  kind : Nat
  first : Bool
  lastOfGroup : Bool
  lastOfWalk : Bool
  isPartial : Bool
  filled : Nat
  filled2 : Nat
  page : Nat
  page2 : Option Nat
  block : Nat
  position : Nat
  addr : Nat
  addr2 : Nat
  energy : Nat
  controller : Nat
  marks : List Nat
  marks2 : List Nat
  deriving DecidableEq, Repr

/-- A group of a block (kinds 0 and 1) or a pair and block (kind 2) that a member works on (R222, R229, R235). `id` numbers the
groups of the run and `index` those of the block or pair; `last` ends the block or pair; `round` numbers the
member's pairs; `rows` is the block's number of valid rows. `scored` and `valued` count the passes
started of the score and dP stages and of the value or gradient stages, `ended` those of the latter that have ended, `formed` the
formations of P or ds the pipe has made; `factors` holds each row's factor a of R228, or none where the row sees no key (R228). -/
structure WGroup where
  id : Nat
  block : Nat
  index : Nat
  last : Bool
  descs : List Desc
  round : Nat
  rows : Nat
  scored : Nat
  formed : Nat
  valued : Nat
  ended : Nat
  factors : List (Option Word)
  deriving DecidableEq, Repr

/-- A block's lowest and highest valid tokens and marks, as read when it starts (R220). -/
structure BlockStat where
  block : Nat
  tlo : Nat
  thi : Nat
  mlo : Nat
  mhi : Nat
  deriving DecidableEq, Repr

/-- The walk of one member (R222). `cursor` is the next candidate page in the order of R221 whose need is to be decided and
`pos` the walk position of the next needed one; `block` is the block (kinds 0 and 1) or, in kind 2, the place in `opened` of the
next block of `pair`, and `pairs` counts the pairs of the record's phase met so far. `opened` holds what was read of the block,
or in kind 2 of every block. `groupIndex` numbers the groups emitted of the block or pair, `nextId` those of the run; `prepared`
is the block whose rows the loader has copied in; `sawKey` the rows that saw a key. `seq` numbers the run's passes, `nextSlot`
rotates the slots, `requeue` tells that the held block has been dropped by a change of shape or a rotation. -/
structure WalkRun where
  item : Nat
  num : Nat
  nAct : Nat
  rank : Nat
  size : Nat
  block : Nat
  pos : Nat
  cursor : Nat
  pair : List Nat
  pairs : Nat
  opened : List BlockStat
  groupIndex : Nat
  nextId : Nat
  groups : List WGroup
  closing : List Nat
  skipped : List Nat
  sawKey : List Nat
  emitted : Bool
  nextSlot : Nat
  prepared : Option Nat
  nan : Bool
  requeue : Bool
  seq : Nat
  deriving DecidableEq, Repr

/-- A vector pass or field descriptor in a context (R155, R194): rows granted, the next row, and the exponent its input was
read with when the group started (R154); `outside` once a box of the group was found outside (R198). -/
structure RowRun where
  item : Nat
  field : Bool
  index : Nat
  granted : Nat
  next : Nat
  nan : Bool
  expo : Int
  outside : Bool
  deriving DecidableEq, Repr

/-- An item of a context, in play order (R356). -/
inductive Item where
  | table (t : TableRun)
  | walk (w : WalkRun)
  | rows (r : RowRun)
  deriving DecidableEq, Repr

/-- A dispatcher context (R121, R362, R387): one item queue per sharing play (`items` of the one in residence); `resident`
is 0 for play k of context k, 1 for play k + 4. -/
structure Ctx where
  resident : Nat
  items : List Item
  other : List Item
  energyHeld : Bool
  starved : Bool
  priority : Bool
  deriving DecidableEq, Repr

/-- A running invocation of the vector unit (R151 to R156). `kind` is 0 epilogue, 1 vector pass, 2 closing row; `item` its issue.
`entry` holds the scratch words of its row at its start and `undo` the bytes its writes replaced, newest first, so that a row
that restarts finds both as they were (R175). -/
structure Invocation where
  ctx : Nat
  kind : Nat
  item : Nat
  index : Nat
  pc : Nat
  executed : Nat
  rho : Nat
  n : Nat
  r : Nat
  cols : Nat
  segs : Nat
  segIn : Nat
  segCur : Nat
  segOut : Nat
  rowBase : Option Nat
  pass : Option Pass
  row : List Word
  regs : Tab Lanes
  preds : Tab (BitVec 64)
  nan : Bool
  expo : Int
  entry : List Word
  undo : List (Nat × List Byte)
  deriving DecidableEq, Repr

/-- A cluster: array, weight queue, input-bank directory, dispatcher contexts, vector unit and scratch. `shape` is
0 crown, 1 brim, 2 split (R512); `slotTags` hold 0 none, 1 crown, 2 brim, 3 half 0, 4 half 1 (R103). `sides` are the C tiles
delivered, `pipe` the rows that wait in the softmax pipe, `stopped` the invocations of contexts whose vector unit holds (R174). -/
structure Cluster where
  shape : Nat
  target : Option Nat
  slotTags : Tab Nat
  issuing : List Pass
  draining : List Pass
  readouts : List Pass
  queue : List WBlock
  held : Tab (Option WBlock)
  frames : List BankFrame
  ctxs : Tab Ctx
  epilogue : List EpiRow
  invocation : Option Invocation
  scratch : Tab Word
  lastVec : Nat
  nextPass : Nat
  outbuf : List (Nat × Nat × List Byte)
  sides : List SideTile
  pipe : List PipeRow
  stopped : List Invocation
  deriving DecidableEq, Repr

def Ctx.reset : Ctx := ⟨0, [], [], false, false, false⟩

/-- A cluster after reset (R91, R103, R151): crown shape, nothing in flight, tags none, scratch zero. -/
def Cluster.reset : Cluster :=
  ⟨0, none, [], [], [], [], [], [], [], [], [], none, [], 0, 0, [], [], [], []⟩

/-! ## Quadrants, dies -/

/-- An item a quadrant has issued and that is not yet complete (R121, R213, R384); `maskedAt` is the member whose record of a
fully masked row the walk's further rows raise (R238). -/
structure Issue where
  id : Nat
  kind : Nat
  index : Nat
  ctx : Nat
  play : Nat
  token : Nat
  members : List Nat
  deferred : Bool
  statsHeld : Bool
  lens : List Nat
  maskedAt : Option Nat
  deriving DecidableEq, Repr

/-- A play: its place in the quadrant's command list, the wait it stands at and its deferred queue (R356, R360). -/
structure Play where
  pos : Nat
  waiting : Option ProgCmd
  draining : Bool
  receiving : Bool
  deferredQ : List (Nat × ProgCmd)
  deriving DecidableEq, Repr

/-- A move in a quadrant's queue (R46): its descriptor, the play whose passes its lead counts, and, once started, its engine
and the pass number a read of an input bank or accumulators waits for (R40). -/
structure MoveRun where
  index : Nat
  play : Nat
  gate : Nat
  engine : Option Nat
  waitMet : Bool
  lateReported : Bool
  deriving DecidableEq, Repr

/-- A quadrant: job registers, plays, issued items, moves, seals (R121, R354, R355); `passes` counts the array passes its
clusters have started (R368), `playPasses` those of a cluster in a play, by 8 × cluster + play (R46). -/
structure Quadrant where
  regs : Tab Word
  plays : Tab Play
  ended : Bool
  issues : List Issue
  moves : List MoveRun
  seals : List (Nat × Nat)
  passes : Nat
  turns : Tab Nat
  playPasses : Tab Nat
  deriving DecidableEq, Repr

def Play.reset : Play := ⟨0, none, false, false, []⟩
def Quadrant.reset : Quadrant := ⟨[], [], false, [], [], [], 0, [], []⟩

/-- A page-map entry (R208). -/
structure PageEntry where
  home : Nat
  slot : Nat
  lap : Nat
  valid : Bool
  state : Nat
  owner : Nat
  filled : Nat
  segLow : Nat
  segHigh : Nat
  deriving DecidableEq, Repr

def PageEntry.zero : PageEntry := ⟨0, 0, 0, false, 0, 0, 0, 0, 0⟩

/-- A tour in flight on a die (R251 to R262). `sent` and `due` count messages per page flow (0 east, 1 west);
`retSent` and `retDue` count gradient returns per path (0 east path, 1 west path). -/
structure TourRun where
  num : Nat
  nAct : Nat
  sent : Tab Nat
  due : Tab Nat
  retSent : Tab Nat
  retDue : Tab Nat
  pathIn : List (Nat × List Byte)
  released : Bool
  timeouts : List Nat
  deriving DecidableEq, Repr

/-- An A-die: page map, carousel sequencer, table of exponents and saturation counts, clock and power. `power` is 0 running, 1
parking, 2 parked, 3 unparking, 4 down; `parkCauses` is 1 and 2 shed levels 3 and 4, 3 a stripe's trip, 4 a stack's, 5 Standoff,
6 an Attend grant; `requests` lists the die's priority requests, oldest first (R390). `walked` are the pages of the pairs that
kind-2 records have walked in the step, by record number, and `walksDone` the records that have completed in it (R258, R260). -/
structure Die where
  pages : Tab PageEntry
  tours : List (Nat × Nat)
  tour : Option TourRun
  toursDone : Nat
  expo : Tab Int
  clean : Tab Nat
  satCount : Tab Nat
  statsValid : List Nat
  patrol : Nat
  power : Nat
  parkCauses : List Nat
  requests : List Nat
  clock : Nat
  gated : Bool
  walked : List (Nat × Nat)
  walksDone : List Nat
  deriving DecidableEq, Repr

/-- A stripe power manager (R388 to R395, R399, R400): `temp` in 0.0625 °C, `current` in 0.1 A. -/
structure Stripe where
  pool : Int
  refill : Int
  temp : Int
  current : Int
  cool : Bool
  overcurrent : Bool
  overcurrentBefore : Bool
  atCap : Nat
  gives : Int
  transferLeft : Nat
  priorities : List Nat
  tripped : Bool
  deriving DecidableEq, Repr

/-! ## P-dies: ingest, reduction, update, checkpoint -/

/-- A use of a sample (R276): entry, key index, sample index, and the compressed bytes staged so far; the encoded output once
complete. `stage` is 0 staging, 1 staged, 2 decoding, 3 complete, 4 being filled, 5 to be filled
(DESIGN CHOICE, assumption 38). -/
structure Use where
  entry : Nat
  key : Nat
  sample : Nat
  stream : Nat
  codec : Nat
  elemType : Nat
  sizes : List Nat
  clen : Nat
  data : List Byte
  stage : Nat
  pdie : Nat
  engine : Nat
  concealed : Nat
  deriving DecidableEq, Repr

/-- The sample in progress on an ingest flow (R279). -/
structure FlowSample where
  sample : Nat
  admitted : Bool
  nextFragment : Nat
  deriving DecidableEq, Repr

/-- The aligner (R283 to R301). `base` is the first key index, `admitted` the samples admitted as index, stream, step and
period, `slotsUsed` the slot releases taken, and `creditDue` the host pairs INGEST_CREDIT is owed to. -/
structure Ingest where
  running : Bool
  period : Nat
  base : Nat
  delivered : List Nat
  resolved : List Nat
  pendingKeys : List Nat
  uses : List Use
  flows : Tab (Option FlowSample)
  admitted : List (Nat × Nat × Nat × Nat)
  recordsDelivered : Nat
  slotsUsed : Nat
  lastRefused : Option Nat
  times : Tab (List Nat)
  refValid : List Nat
  creditDue : List Nat
  creditStatus : Nat
  rowSegs : List (Nat × Nat)
  rowFilled : Nat
  busyNow : Nat
  decodedNow : Nat
  rate : Option (Nat × Nat)
  deriving DecidableEq, Repr

/-- A reduction round (R323, R327): the inputs that have arrived, as place, backup bit, presence mask, checksum,
contributor count, saturation count and element values. -/
structure RoundInput where
  place : Nat
  backup : Bool
  mask : Nat
  checksum : DWord
  contributors : Nat
  saturation : Nat
  values : List Int
  deriving DecidableEq, Repr

structure Round where
  step : Nat
  bundle : Nat
  partialPhase : Bool
  inputs : List RoundInput
  skipped : List Nat
  waitOk : Bool
  closed : Bool
  done : Bool
  deriving DecidableEq, Repr

/-- A reduced bundle whose signs are known and that waits for its update engine (R331). -/
structure SignedBundle where
  bundle : Nat
  mask : Nat
  contributors : Nat
  saturation : Nat
  signs : List Int
  deriving DecidableEq, Repr

/-- A P-die's reduction sender, rounds and update engine, checkpoint copy and patrol (R322 to R335, R373). `sendTensor` and
`sendBundle` name the next bundle to send; `own` holds local inputs (partial form, bundle) not yet combined. `copyNext`,
`mirrorNext` and `restoreNext` are the next record or message of a checkpoint, mirror or restore; `mirrorHdr` the header the
west neighbour's mirror began with. -/
structure Pdie where
  sendTensor : Nat
  sendBundle : Nat
  own : List (Bool × Nat × RoundInput)
  rounds : List Round
  ready : List SignedBundle
  updated : Nat
  patrol : Nat
  hot : Bool
  copyNext : Nat
  mirrorNext : Nat
  mirrorHdr : List Byte
  restoreNext : Nat
  deriving DecidableEq, Repr

/-- The module-wide reduction bookkeeping of a step (R334, R335, R341): tensors (by index) whose ready token was met, the
bundles updated or received, the tensors done, the tensors with a non-finite update, and what each flow has delivered, as
step × 2^32 + the bundle after the last. -/
structure Reduction where
  readied : List Nat
  bundlesDone : List Nat
  tensorsDone : List Nat
  tensorSat : Tab Nat
  nonfinite : List Nat
  satReported : Bool
  expect : Tab Nat
  deriving DecidableEq, Repr

/-! ## Jobs and operations -/

/-- A section of the job image, copied into its on-die store (R343, R353). -/
structure Section where
  kind : Nat
  die : Nat
  quad : Nat
  ctx : Nat
  count : Nat
  bytes : List Byte
  deriving DecidableEq, Repr

/-- A stage transfer of the step (R358): type, number, address, length, offset reached, the poster and its state. -/
structure Transfer where
  grad : Bool
  send : Bool
  number : Nat
  addr : Nat
  len : Nat
  offset : Nat
  token : Nat
  d : Nat
  q : Nat
  play : Nat
  deriving DecidableEq, Repr

/-- A long operation (R365 to R368): `state` 0 RUNNING, 1 SUSPENDING, 2 SUSPENDED, 3 CANCELLING, 4 DONE, 5 FAILED. -/
structure Op where
  handle : Nat
  state : Nat
  reason : Nat
  hostSuspended : Bool
  code : Nat
  passed : Nat
  total : Nat
  step : Nat
  lo : Nat
  hi : Nat
  next : Nat
  deriving DecidableEq, Repr

/-- An inference request in the mailbox (R434). -/
structure Infer where
  slot : Nat
  request : Nat
  total : Nat
  received : Nat
  flow : Nat
  pair : Nat
  present : Bool
  deriving DecidableEq, Repr

/-- The job (R345 to R376). `state` is the code of R351; `exchanging` once the start exchange has begun (R353), `ending`
while the final thermos is written (R357), `discarding` from a step cancel to the RETRY that ends it, `cancelledStep` the number
of the step last cancelled (R264, R370), `saved` what the checkpoint in progress saves of the step (R269, R306). -/
structure Job where
  state : Nat
  epoch : Nat
  lastEpoch : Nat
  step : Nat
  firstStep : Nat
  total : Nat
  received : Nat
  checked : Bool
  image : List Section
  jobId : List Byte
  seed : List Byte
  measure : List Byte
  digest : List Byte
  stores : List Section
  keyRound : List Word
  keyAug : List Word
  answered : List Nat
  deferredStarts : List (Nat × Msg)
  mailbox : List Nat
  infers : List Infer
  transfers : List Transfer
  sent : Tab Nat
  received2 : Tab Nat
  ending : Bool
  thermosAsked : Bool
  cancelled : Bool
  updatedAny : Bool
  discarding : Bool
  resetting : Bool
  exchanging : Bool
  nextIssue : Nat
  loadFlow : Nat
  cancelledStep : Option Nat
  saved : List Nat
  deriving DecidableEq, Repr

/-! ## Network -/

/-- A message the module has sent (R414), as it stands on the wire. -/
structure Frame where
  port : Nat
  dst : BitVec 128
  kind : Nat
  flow : Nat
  seq : Word
  ackSeq : Word
  grant : Nat
  ackReq : Bool
  retx : Bool
  last : Bool
  hold : Bool
  handle : Nat
  sub : Nat
  epoch : Nat
  payload : List Byte
  deriving DecidableEq, Repr

/-- One flow toward and from one peer (R414 to R420). `waiting` holds messages without credit, `window` the peer's
latest grant in bytes, `rate` the send rate in hundredths of a percent of the port rate, `rxGrant` the bytes last granted
to the peer, `buffer` the messages that arrived early (R413), each with its type, `rxSide` the side that last received one. -/
structure Flow where
  txNext : Word
  unacked : List Frame
  waiting : List Frame
  window : Option Nat
  rate : Nat
  resends : Nat
  held : Bool
  src : BitVec 128
  rxDue : Word
  rxGrant : Option Nat
  rxHeld : Bool
  buffer : List (Nat × Msg)
  ceSeen : Nat
  toAck : Nat
  rxSide : Nat
  deriving DecidableEq, Repr

/-- A port (R435): `rate` 0 down, 1 400 Gb/s, 2 1.6 Tb/s. -/
structure Port where
  link : Bool
  inUse : Bool
  rate : Nat
  optic : Bool
  awaiting : Bool
  training : Bool
  failed : Bool
  paused : Bool
  replays : Nat
  deriving DecidableEq, Repr

/-- The network side: ports, flows, frames sent, requests that wait and the hello exchange (R425, R426). A request waits
under the number flow key × 256 + message type, with the pass number a read waits for (R40). -/
structure Net where
  ports : Tab Port
  flows : Tab Flow
  sent : List Frame
  answers : List (BitVec 128 × BitVec 128)
  requests : List (Nat × Nat × Msg)
  statusDue : Bool
  peersDown : Tab Nat
  attested : List (Nat × BitVec 128)
  deriving DecidableEq, Repr

/-! ## Start-up, power, faceplate -/

/-- Start-up and reset state (R447, R458 to R465). `service` is STATUS byte 0 (R429) with 5 for Off, Standoff apart; `override`
a decision against the strap, `wantPrimary` one that Standoff still waits on; slots are the flash bytes, 0xFF where erased;
`slotValid` what the last check found; `updateSlot` the target of an update (2 none) and `updateSector` its next sector. -/
structure Boot where
  service : Nat
  primary : Nat
  agreed : Bool
  override : Option Nat
  wantPrimary : Option Nat
  heartbeatLost : Bool
  cause : Nat
  strollMs : Nat
  up : List Part
  failedParts : List Part
  warmReset : Bool
  stopBringUp : Bool
  standbyEntry : Bool
  slotA : Tab Byte
  slotB : Tab Byte
  slotValid : List Bool
  updateSlot : Nat
  updateSector : Nat
  strapPin : Nat
  overcurrentFlag : Bool
  deriving DecidableEq, Repr

/-- Power and shedding (R396 to R402). Input in 10 mV, input power in W. `inputLevel` is the level the input calls for, `rails`
the rail conditions met with their thresholds in percent, `hotPdies` P-dies at 105 °C (and, plus 2, at 110 °C), `level` the
level in force. -/
structure Power where
  request : Nat
  maxProfile : Nat
  defaultProfile : Nat
  input : Nat
  inputLevel : Nat
  rails : List (Rail × Nat)
  hotPdies : List Nat
  hotStacks : List Nat
  level : Nat
  inputPower : Nat
  deriving DecidableEq, Repr

/-- The faceplate, coolant, sideband and clock monitors (R470 to R487). -/
structure Panel where
  lightMode : Nat
  lightDuration : Nat
  pending : Bool
  cause : Nat
  ejector : Bool
  removalReady : Bool
  removing : Bool
  presses : Nat
  inlet : Int
  outlet : Int
  coolFlow : Nat
  hotInlet : Bool
  lowFlow : Bool
  i2cOffset : Nat
  snapshot : List Byte
  i2cOut : List Byte
  coreHoldover : Bool
  serdesHoldover : Bool
  deriving DecidableEq, Repr

/-! ## The module -/

/-- Everything but the command queue. `damaged` lists the 64-byte sideband words, by number, found uncorrectable and not written
whole since (R52). -/
structure Device where
  mem : Memory
  damaged : List Nat
  ident : Ident
  fuses : Tab Fuses
  mps : Tab Mp
  boot : Boot
  power : Power
  panel : Panel
  log : ErrLog
  net : Net
  job : Job
  ops : List Op
  endedOps : List Op
  serials : Tab Nat
  clusters : Tab Cluster
  quads : Tab Quadrant
  dies : Tab Die
  stripes : Tab Stripe
  ingest : Ingest
  pdies : Tab Pdie
  reduction : Reduction
  stepTokens : Tab Int
  streamTokens : Tab Nat
  counters : Tab DWord
  frozen : Option (Tab DWord)
  corrected : Tab Nat
  correctedFrom : Tab DWord
  fresh : Nat
  deriving DecidableEq, Repr

/-- The state of the machine: the module and the commands that wait, first in, first out. -/
structure State where
  dev : Device
  pending : List Instr
  deriving DecidableEq, Repr

/-- No step faults: the spec answers every error condition with a record, a hold or a reply. The type is empty, so
that no meaning can stop this way (safe). -/
inductive Fault where
  deriving DecidableEq, Repr

/-- Why a step is refused. -/
inductive Refusal where
  /-- Raised by an arm of `exec` whose command has no meaning yet (safe: the machine stops). -/
  | notModelled (mnemonic : String)
  deriving DecidableEq, Repr

/-! ## Reset values -/

def Fuses.reset : Fuses := ⟨List.replicate 64 0, List.replicate 32 0, [], 0⟩

/-- A management processor before its root of trust has released it (R446). -/
def Mp.reset : Mp := ⟨1, 0, none, [], [], [], [], 0, false, false, false, [], 0, 0⟩

/-- An A-die before bring-up: not running, clock at the Stroll code 3 (R511), page map zero (R210). -/
def Die.reset : Die := ⟨[], [], none, 0, [], [], [], [], 0, 4, [], [], 3, false, [], []⟩

/-- A stripe before its first refill (R398): pool, refill and readings 0. -/
def Stripe.reset : Stripe := ⟨0, 0, 0, 0, true, false, false, 0, 0, 0, [], false⟩

def Pdie.reset : Pdie := ⟨0, 0, [], [], [], 0, 0, false, 0, 0, [], 0⟩

/-- A port after reset (R435): link, in_use and rate 0; the optic bit reports what is seated (DESIGN CHOICE, assumption 16). -/
def Port.reset : Port := ⟨false, false, 0, true, false, false, false, false, 0⟩

/-- A flow at the start of an epoch (R415, R418): sequence 0, no grant yet, line rate. -/
def Flow.reset : Flow := ⟨0, [], [], none, 10000, 0, false, 0, 0, none, false, [], 0, 0, 0⟩

def Ingest.reset : Ingest :=
  ⟨false, 0, 0, [], [], [], [], [], [], 0, 0, none, [], [], [], 3, [], 0, 0, 0, none⟩

def Reduction.reset : Reduction := ⟨[], [], [], [], [], false, []⟩

/-- The job block with no job (R351 state NONE). -/
def Job.reset : Job :=
  ⟨0, 0, 0, 0, 0, 0, 0, false, [], [], [], [], [], [], [], [], [], [], [], [], [], [], [], false, false, false, false,
   false, false, false, 1, 0, none, []⟩

def Net.reset : Net := ⟨[], [], [], [], [], false, [], []⟩

/-- Start-up at power good: bring-up before Stroll, both roots of trust running mask ROM, flash erased
(DESIGN CHOICE, assumption 15). -/
def Boot.reset : Boot :=
  ⟨0, 0, false, none, none, false, 0, 0, [], [], false, false, false, [], [], [false, false], 2, 0, 0, false⟩

/-- The power block before a hamper is loaded (R398): level 0, input reading 0; profiles at the R443 defaults
(DESIGN CHOICE, assumption 16). -/
def Power.reset : Power := ⟨0, 0, 0, 0, 0, [], [], [], 0, 0⟩

def Panel.reset : Panel := ⟨0, 0, false, 0, false, false, false, 0, 0, 0, 0, false, false, 0, [], [], false, false⟩

def ErrLog.reset : ErrLog := ⟨[], 1, 0, false, false, false, [], [], [], 1, [], [], 0⟩

/-- The module right after power good (R447 time 0, R461, R466): every store and counter zero, nothing in service
(DESIGN CHOICE, assumption 15). -/
def Device.reset : Device where
  mem := []
  damaged := []
  ident := ⟨false, 0, 0, 0⟩
  fuses := []
  mps := []
  boot := Boot.reset
  power := Power.reset
  panel := Panel.reset
  log := ErrLog.reset
  net := Net.reset
  job := Job.reset
  ops := []
  endedOps := []
  serials := []
  clusters := []
  quads := []
  dies := []
  stripes := []
  ingest := Ingest.reset
  pdies := []
  reduction := Reduction.reset
  stepTokens := []
  streamTokens := []
  counters := []
  frozen := none
  corrected := []
  correctedFrom := []
  fresh := 0

def State.reset : State := ⟨Device.reset, []⟩

end Sys2Proof.Machine
end

