-- ==== Sys2Proof/Machine/Ops.lean ====
section
/-! DEFINITION. The named operations over the module's state: indexed parts, counters, memory and its map, tokens,
sending on a flow, the error log and holds. -/

namespace Sys2Proof.Machine

/-- Run an effect on everything but the queue. -/
def State.onDev (s : State) (f : Device → Device) : State := { s with dev := f s.dev }

/-! ## Indexed parts -/

def Device.cluster (s : Device) (g : Nat) : Cluster := Tab.get Cluster.reset s.clusters g
def Device.setCluster (s : Device) (g : Nat) (c : Cluster) : Device :=
  { s with clusters := Tab.set Cluster.reset s.clusters g c }
def Device.modCluster (s : Device) (g : Nat) (f : Cluster → Cluster) : Device := s.setCluster g (f (s.cluster g))

def Cluster.ctx (c : Cluster) (k : Nat) : Ctx := Tab.get Ctx.reset c.ctxs k
def Device.ctx (s : Device) (g k : Nat) : Ctx := (s.cluster g).ctx k
def Device.modCtx (s : Device) (g k : Nat) (f : Ctx → Ctx) : Device :=
  s.modCluster g (fun c => { c with ctxs := Tab.set Ctx.reset c.ctxs k (f (c.ctx k)) })

/-- The play in residence of a context (R356, R362): `resident` 0 is play k, 1 is play k + 4. -/
def Device.playIn (s : Device) (g k : Nat) : Nat := k + 4 * (s.ctx g k).resident

def Device.quad (s : Device) (d q : Nat) : Quadrant := Tab.get Quadrant.reset s.quads (4 * d + q)
def Device.modQuad (s : Device) (d q : Nat) (f : Quadrant → Quadrant) : Device :=
  { s with quads := Tab.set Quadrant.reset s.quads (4 * d + q) (f (s.quad d q)) }

def Device.play (s : Device) (d q p : Nat) : Play := Tab.get Play.reset (s.quad d q).plays p
def Device.modPlay (s : Device) (d q p : Nat) (f : Play → Play) : Device :=
  s.modQuad d q (fun x => { x with plays := Tab.set Play.reset x.plays p (f (Tab.get Play.reset x.plays p)) })

def Device.die (s : Device) (d : Nat) : Die := Tab.get Die.reset s.dies d
def Device.modDie (s : Device) (d : Nat) (f : Die → Die) : Device :=
  { s with dies := Tab.set Die.reset s.dies d (f (s.die d)) }

def Device.stripe (s : Device) (t : Nat) : Stripe := Tab.get Stripe.reset s.stripes t
def Device.modStripe (s : Device) (t : Nat) (f : Stripe → Stripe) : Device :=
  { s with stripes := Tab.set Stripe.reset s.stripes t (f (s.stripe t)) }

def Device.pdie (s : Device) (p : Nat) : Pdie := Tab.get Pdie.reset s.pdies p
def Device.modPdie (s : Device) (p : Nat) (f : Pdie → Pdie) : Device :=
  { s with pdies := Tab.set Pdie.reset s.pdies p (f (s.pdie p)) }

def Device.port (s : Device) (n : Nat) : Port := Tab.get Port.reset s.net.ports n
def Device.modPort (s : Device) (n : Nat) (f : Port → Port) : Device :=
  { s with net := { s.net with ports := Tab.set Port.reset s.net.ports n (f (s.port n)) } }

def Device.flow (s : Device) (k : Nat) : Flow := Tab.get Flow.reset s.net.flows k
def Device.modFlow (s : Device) (k : Nat) (f : Flow → Flow) : Device :=
  { s with net := { s.net with flows := Tab.set Flow.reset s.net.flows k (f (s.flow k)) } }

def Device.mp (s : Device) (p : Nat) : Mp := Tab.get Mp.reset s.mps p
def Device.modMp (s : Device) (p : Nat) (f : Mp → Mp) : Device :=
  { s with mps := Tab.set Mp.reset s.mps p (f (s.mp p)) }

def Device.fuse (s : Device) (p : Nat) : Fuses := Tab.get Fuses.reset s.fuses p
def Device.modFuse (s : Device) (p : Nat) (f : Fuses → Fuses) : Device :=
  { s with fuses := Tab.set Fuses.reset s.fuses p (f (s.fuse p)) }

/-! ## Indices (R21, R22) -/

def gOf (d q c : Nat) : Nat := 144 * d + 36 * q + c
def dOf (g : Nat) : Nat := g / 144
def qOf (g : Nat) : Nat := (g % 144) / 36
def cOf (g : Nat) : Nat := g % 36
/-- The global stripe of a cluster (R21). -/
def stripeOf (g : Nat) : Nat := 6 * dOf g + (6 * (qOf g / 2) + cOf g / 6) / 2
/-- The 24 clusters of a stripe (R22), in ascending order. -/
def stripeClusters (t : Nat) : List Nat :=
  ((List.range 144).map (fun i => 144 * (t / 6) + i)).filter (fun g => stripeOf g == t)

/-! ## Counters (R508) -/

def clusterBlock (g : Nat) : Nat := 0x100000 * (1 + dOf g) + 0x10000 + (g % 144) * 0x200
def dieBlock (d : Nat) : Nat := 0x100000 * (1 + d)

/-- Raise the counter at a status-space offset (DESIGN CHOICE, assumption 65). -/
def Device.bump (s : Device) (off n : Nat) : Device :=
  { s with counters := Tab.set 0 s.counters off (Tab.get 0 s.counters off + BitVec.ofNat 64 n) }

/-- Array counter `i` of R118, loop-table counter of R148, vector counter of R177, field counter of R201, attention
counter of R242 of a cluster. -/
def Device.bumpArray (s : Device) (g i n : Nat) : Device := s.bump (clusterBlock g + 0x40 + 8 * i) n
def Device.bumpLoop (s : Device) (g i n : Nat) : Device := s.bump (clusterBlock g + 0x88 + 8 * i) n
def Device.bumpVec (s : Device) (g i n : Nat) : Device := s.bump (clusterBlock g + 0xC8 + 8 * i) n
def Device.bumpField (s : Device) (g i n : Nat) : Device := s.bump (clusterBlock g + 0xF0 + 8 * i) n
def Device.bumpAtt (s : Device) (g i n : Nat) : Device := s.bump (clusterBlock g + 0x128 + 8 * i) n
/-- Carousel counter `i` of R271 of a die; quadrant counter of R242; stripe counter of R407. -/
def Device.bumpCar (s : Device) (d i n : Nat) : Device := s.bump (dieBlock d + 0x1000 + 8 * i) n
def Device.bumpQuad (s : Device) (d q i n : Nat) : Device := s.bump (dieBlock d + 0x3000 + 0x40 * q + 8 * i) n
def Device.bumpStripe (s : Device) (t i n : Nat) : Device := s.bump (dieBlock (t / 6) + 0x2000 + 0x40 * (t % 6) + 8 * i) n
/-- Module counter of R407, port counter of R436 (the management port has no block), ingest counter of R308, reduction
counter of R340, job counter of R378. -/
def Device.bumpPower (s : Device) (i n : Nat) : Device := s.bump (0x10400 + 8 * i) n
def Device.bumpPort (s : Device) (p i n : Nat) : Device := if p < 16 then s.bump (0x20100 + 0x1000 * p + 8 * i) n else s
def Device.bumpIng (s : Device) (p i n : Nat) : Device := s.bump (0x30000 + 0x100 * p + 8 * i) n
def Device.bumpRed (s : Device) (p i n : Nat) : Device := s.bump (0x40000 + 0x100 * p + 8 * i) n
def Device.bumpJob (s : Device) (i n : Nat) : Device := s.bump (0x50100 + 8 * i) n
/-- Corrected and uncorrectable error counters of R509, by memory index 0 to 27. -/
def Device.bumpCorrected (s : Device) (k : Nat) : Device := s.bump (0x60100 + 8 * k) 1
def Device.bumpUncorrectable (s : Device) (k : Nat) : Device := s.bump (0x60200 + 8 * k) 1

/-! ## Job image sections (R343) and tensors -/

def findSec (l : List Section) (kind d q c : Nat) : Option Section :=
  l.find? (fun x => x.kind == kind && x.die == d && x.quad == q && x.ctx == c)

/-- The bytes of a section in the on-die stores; empty when the image has none. -/
def Device.sec (s : Device) (kind d q c : Nat) : List Byte :=
  match findSec s.job.stores kind d q c with
  | some x => x.bytes
  | none => []

/-- Element `i` of a table of `n`-byte elements. -/
def elemAt (l : List Byte) (n i : Nat) : List Byte := sub l (n * i) n

def Device.mapping (s : Device) : List Byte := s.sec 0x01 255 255 255
def Device.ringS (s : Device) : Nat := fld s.mapping 2 2
def Device.repD (s : Device) : Nat := fld s.mapping 4 2
def Device.ringPos (s : Device) : Nat := fld s.mapping 8 2
def Device.replica (s : Device) : Nat := fld s.mapping 10 2

/-! ## Service and the memory map (R30 to R34, R515) -/

def Device.primary (s : Device) : Nat := s.boot.primary
def Device.standoff (s : Device) : Bool := (s.mp 0).standoff || (s.mp 1).standoff
def Device.hamper (s : Device) : Option Hamper := (s.mp s.primary).hamper
def Device.hasJob (s : Device) : Bool := decide (5 ≤ s.job.state ∧ s.job.state ≤ 7)
def Device.clusterOut (s : Device) (g : Nat) : Bool :=
  match s.hamper with
  | some h => h.outClusters.contains g
  | none => false
/-- A die whose service-mask bits are all set is out of service (R443). -/
def Device.dieOut (s : Device) (d : Nat) : Bool := (List.range 144).all (fun i => s.clusterOut (144 * d + i))

/-- The die serves in the present service (R34, R448): every die in full service, A0 alone in Stroll. -/
def Device.dieServes (s : Device) (d : Nat) : Bool :=
  decide (d < 4) && !s.dieOut d && (s.die d).power != 4 &&
    (decide (s.boot.service = 2) || (decide (s.boot.service = 1) && decide (d = 0)))

/-- Parked, being parked or being unparked (R54, R387). -/
def Device.dieParked (s : Device) (d : Nat) : Bool := decide ((s.die d).power ≠ 0 ∧ (s.die d).power ≠ 4)

/-- A backed region (R515): `kind` 0 HBM, 1 LPDDR5X, 2 tile store, 3 input bank, 4 accumulators; `unit` the die, P-die or
cluster. -/
structure Region where
  kind : Nat
  unit : Nat
  lo : Nat
  hi : Nat
  deriving DecidableEq, Repr

def hbmSize : Nat := 0x002400000000
def lpBase : Nat := 0x010000000000
def lpWindow : Nat := 0x006000000000
def winBase : Nat := 0x020000000000
def statusBase : Nat := 0x030000000000

def clusterWindow (g : Nat) : Nat := winBase + g * 0x400000

/-- The populated part of a P-die window (R1, R32). -/
def Device.lpBacked (s : Device) : Nat := if s.ident.a384 then lpWindow / 2 else lpWindow

/-- The region of the map an address falls into (R30 to R32, R39), whatever the service. -/
def Device.regionOf (s : Device) (a : Nat) : Option Region :=
  if a < 4 * hbmSize then
    let d := a / hbmSize
    some ⟨0, d, d * hbmSize, (d + 1) * hbmSize⟩
  else if lpBase ≤ a ∧ a < lpBase + 2 * lpWindow then
    let p := (a - lpBase) / lpWindow
    let lo := lpBase + p * lpWindow
    if a < lo + s.lpBacked then some ⟨1, p, lo, lo + s.lpBacked⟩ else none
  else if winBase ≤ a ∧ a < winBase + 576 * 0x400000 then
    let g := (a - winBase) / 0x400000
    let lo := clusterWindow g
    if a < lo + 0x300000 then some ⟨2, g, lo, lo + 0x300000⟩
    else if a < lo + 0x320000 then some ⟨3, g, lo + 0x300000, lo + 0x320000⟩
    else if a < lo + 0x330000 then some ⟨4, g, lo + 0x320000, lo + 0x330000⟩
    else none
  else none

/-- A processor runs the recovery loader, which needs A0's HBM (R451, R459) (DEDUCED, assumption 42). -/
def Device.recovering (s : Device) : Bool := decide ((s.mp 0).run = 3) || decide ((s.mp 1).run = 3)

/-- The region is backed now (R34). While a processor runs the recovery loader, A0's HBM is backed once trained. -/
def Device.regionServes (s : Device) (r : Region) : Bool :=
  if r.kind = 0 then
    s.dieServes r.unit ||
      (decide (r.unit = 0) && s.recovering &&
        (List.range 3).all (fun k => s.boot.up.contains (.stack k)))
  else if r.kind = 1 then decide (s.boot.service = 2)
  else s.dieServes (dOf r.unit) && !s.clusterOut r.unit

/-- The hamper or the power ladder has taken the unit of a region out of service (R34): a die, or a cluster. What only full
service brings up is not out of service (R346). -/
def Device.regionGone (s : Device) (r : Region) : Bool :=
  let down (d : Nat) : Bool := s.dieOut d || (decide (s.boot.service = 2) && decide ((s.die d).power = 4))
  if r.kind = 0 then down r.unit
  else if r.kind = 1 then false
  else down (dOf r.unit) || s.clusterOut r.unit

/-- A range that lies wholly in one region of the map, for admission (R33, R34, R515): the region. What is out of service has
none. -/
def Device.rangeRegion (s : Device) (a n : Nat) : Option Region :=
  match s.regionOf a with
  | some r => if a + n ≤ r.hi ∧ ¬ s.regionGone r then some r else none
  | none => none

/-- The bytes left in the region from an address. -/
def Device.leftIn (s : Device) (a : Nat) : Nat :=
  match s.regionOf a with
  | some r => r.hi - a
  | none => 0

/-- Every byte of a range is backed now; the range may cross from one backed region into the next (R427). -/
def Device.backedFuel (s : Device) : Nat → Nat → Nat → Bool
  | 0, _, _ => false
  | f + 1, a, n =>
    if n = 0 then true
    else
      match s.regionOf a with
      | none => false
      | some r =>
        s.regionServes r && (if a + n ≤ r.hi then true else s.backedFuel f r.hi (a + n - r.hi))

def Device.backed (s : Device) (a n : Nat) : Bool := s.backedFuel 600 a n

/-- A unit other than the cluster's own may not write an input bank or the accumulators (R39, R40). -/
def Device.writable (s : Device) (a n : Nat) : Bool :=
  s.backed a n &&
    (match s.regionOf a with
     | some r => decide (r.kind ≤ 2) && (decide (a + n ≤ r.hi) ||
         (match s.regionOf (a + n - 1) with | some r' => decide (r'.kind ≤ 2) | none => false))
     | none => false)

/-- The die whose unparking an access waits for (R54): its HBM or one of its windows. A die that is being parked still serves
(DEDUCED, assumption 42). -/
def Device.waitsForDie (s : Device) (a : Nat) : Option Nat :=
  match s.regionOf a with
  | some r =>
    let d := if r.kind = 0 then r.unit else dOf r.unit
    if r.kind = 1 ∨ (a < hbmSize ∧ s.recovering = true) then none
    else if (s.die d).power = 2 ∨ (s.die d).power = 3 then some d else none
  | none => none

/-- A pass of the cluster that was started before its pass number `gate` has issued and not completed. -/
def Cluster.midPass (c : Cluster) (gate : Nat) : Bool :=
  (c.draining.filter (!·.drained) ++ c.issuing.filter (fun p => decide (0 < p.issued))).any (fun p => decide (p.id < gate))

/-- The pass number a read of an input bank or accumulators that arrives now waits for: the passes in flight at its arrival
are those before it (R40). -/
def Device.readGate (s : Device) (a : Nat) : Nat :=
  match s.regionOf a with
  | some r => if 3 ≤ r.kind then (s.cluster r.unit).nextPass else 0
  | none => 0

/-- A read that arrived at `gate` waits: for a parked die (R54), or, of an input bank or accumulators, for the passes of the
owning cluster that were in flight at its arrival (R40). -/
def Device.gatedWaits (s : Device) (a n gate : Nat) : Bool :=
  [a, a + n - 1].any (fun x => (s.waitsForDie x).isSome || (match s.regionOf x with
    | some r => decide (3 ≤ r.kind) && (s.cluster r.unit).midPass gate
    | none => false))

/-- A read that arrives now waits (R40, R54). -/
def Device.readWaits (s : Device) (a n : Nat) : Bool := s.gatedWaits a n (s.readGate a)

/-- A write waits for a parked die (R54). -/
def Device.writeWaits (s : Device) (a n : Nat) : Bool := (s.waitsForDie a).isSome || (s.waitsForDie (a + n - 1)).isSome

/-- The die is parked or being unparked: its HBM and its windows wait (R54, R403). -/
def Device.dieStopped (s : Device) (d : Nat) : Bool := (s.waitsForDie (d * hbmSize)).isSome

/-- The cluster stands in a parked die, whose clocks are stopped (R403). -/
def Device.clusterStopped (s : Device) (g : Nat) : Bool := (s.waitsForDie (clusterWindow g)).isSome

/-! ## Memory -/

def memGet (m : Memory) (a : Nat) : Byte := Tab.get 0 m a
def memSet (m : Memory) (a : Nat) (b : Byte) : Memory := Tab.set 0 m a b

def memRead (m : Memory) (a : Nat) : Nat → List Byte
  | 0 => []
  | n + 1 => memGet m a :: memRead m (a + 1) n

def memWrite (m : Memory) (a : Nat) : List Byte → Memory
  | [] => m
  | b :: t => memWrite (memSet m a b) (a + 1) t

/-- The canonical form of memory: addresses rise strictly and no entry is 0 (R55) (DESIGN CHOICE, assumption 14). -/
abbrev Memory.wf (m : Memory) : Prop := Tab.wf (0 : Byte) m = true

def Device.read (s : Device) (a n : Nat) : List Byte := memRead s.mem a n
/-- No sideband word of a range has been found uncorrectable and not been written whole since: a unit that reads the range
receives its data (R51, R52). -/
def Device.sound (s : Device) (a n : Nat) : Bool := s.damaged.all (fun w => decide (64 * w + 64 ≤ a) || decide (a + n ≤ 64 * w))
def Device.readNat (s : Device) (a n : Nat) : Nat := leNat (s.read a n)
/-- Write bytes; a damaged sideband word that is written whole is sound again (R52). -/
def Device.write (s : Device) (a : Nat) (l : List Byte) : Device :=
  { s with mem := memWrite s.mem a l, damaged := s.damaged.filter (fun w => !(decide (a ≤ 64 * w) && decide (64 * w + 64 ≤ a + l.length))) }
def Device.writeNat (s : Device) (a n x : Nat) : Device := s.write a (leBytes n x)
/-- Write zeros over a range (R55): its cells then read 0. -/
def Device.zero (s : Device) (lo hi : Nat) : Device :=
  { s with mem := Tab.clear s.mem lo hi, damaged := s.damaged.filter (fun w => !(decide (lo ≤ 64 * w) && decide (64 * w + 64 ≤ hi))) }

/-- The unit of R35 or R37 that holds an address: memory index of R509 (stacks 0 to 11, devices 12 to 23, tile stores of
the dies 24 to 27), and the channel (0xFF where the memory has one). -/
def Device.memIndex (s : Device) (a : Nat) : Nat × Nat :=
  match s.regionOf a with
  | some r =>
    if r.kind = 0 then
      let n := (a - r.lo) / 512
      (3 * r.unit + n % 3, (n / 3) % 32)
    else if r.kind = 1 then (12 + 6 * r.unit + ((a - r.lo) / 256) % 6, 0xFF)
    else (24 + dOf r.unit, 0xFF)
  | none => (0, 0xFF)

/-! ## Time stamps (R496) -/

/-- A reading of a domain's free-running counter: a free value (DESIGN CHOICE, assumption 8). -/
def Device.stamp (s : Device) (domain : Nat) : DWord := Config.freeCounter domain s.fresh

/-! ## Named tokens (R381 to R383) -/

/-- A step token's state, counted so that the default 0 stands for one less than the first step. -/
def Device.tokenStep (s : Device) (tok : Nat) : Int := Tab.get 0 s.stepTokens tok + (s.job.firstStep : Int) - 1

/-- Post a token (R382, R383). -/
def Device.post (s : Device) (tok : Nat) : Device :=
  if tok < 0xF000 then
    if s.tokenStep tok = (s.job.step : Int) then s.bumpPower 10 1
    else { s with stepTokens := Tab.set 0 s.stepTokens tok ((s.job.step : Int) - s.job.firstStep + 1) }
  else if tok < 0xFFFF then { s with streamTokens := Tab.set 0 s.streamTokens tok (Tab.get 0 s.streamTokens tok + 1) }
  else s

/-- A wait on a token with a lag is satisfied (R381 to R383). -/
def Device.tokenMet (s : Device) (tok lag : Nat) : Bool :=
  if tok < 0xF000 then decide ((s.job.step : Int) - lag ≤ s.tokenStep tok)
  else if tok < 0xFFFF then decide (0 < Tab.get 0 s.streamTokens tok)
  else true

/-- A satisfied wait on a stream token takes one count (R383). -/
def Device.takeToken (s : Device) (tok : Nat) : Device :=
  if 0xF000 ≤ tok ∧ tok < 0xFFFF then
    { s with streamTokens := Tab.set 0 s.streamTokens tok (Tab.get 0 s.streamTokens tok - 1) }
  else s

/-! ## Flows and sending (R412 to R418) -/

/-- The key of a flow toward a peer: pair 0 to 7, 8 for the management port, 10 for the address MP1 answers at in Standoff; 9
stands for a role no pair has. -/
def flowKey (pair flow peer : Nat) : Nat := (pair * 4096 + flow) * 1024 + peer
def keyPair (k : Nat) : Nat := k / 1024 / 4096
def keyFlow (k : Nat) : Nat := k / 1024 % 4096
def keyPeer (k : Nat) : Nat := k % 1024

/-- The class of a flow (R416): 0 management, 1 ingest, 2 carousel, 3 reduction, 4 stage, 5 reserved. -/
def flowClass (flow : Nat) : Nat :=
  if flow < 64 then 0 else if flow < 192 then 1 else if flow < 256 then 2 else if flow < 384 then 3
  else if flow < 400 then 4 else 5

/-- The pair that has a role (R412). -/
def Device.pairOf (s : Device) (role : Nat) : Option Nat :=
  match s.hamper with
  | some h => h.roles.idxOf? role
  | none => none

def Device.roleOf (s : Device) (pair : Nat) : Nat :=
  match s.hamper with
  | some h => nth 9 h.roles pair
  | none => 9

def Device.findPeer (s : Device) (role index : Nat) : Option Peer :=
  match s.hamper with
  | some h => h.peers.find? (fun p => p.role == role && p.index == index)
  | none => none

def Device.sideUp (s : Device) (pair side : Nat) : Bool :=
  if 8 ≤ pair then decide (pair ≠ 9) && (s.port 16).inUse else (s.port (pair + 8 * side)).inUse

/-- A side of the flow's pair is in use here and, as far as its HELLOs say, at the peer (R413, R421). -/
def Device.sideOpen (s : Device) (k side : Nat) : Bool :=
  s.sideUp (keyPair k) side && !bit (Tab.get 0 s.net.peersDown (keyPair k * 1024 + keyPeer k)) side

/-- The side that carries a message (R413): the class's side when both are in use, else the side in use, if any. -/
def Device.sideFor (s : Device) (k prefer : Nat) : Option Nat :=
  if s.sideOpen k (prefer % 2) then some (prefer % 2)
  else if s.sideOpen k ((prefer + 1) % 2) then some ((prefer + 1) % 2)
  else none

/-- The side a class prefers for a message of a flow (R413); `hint` carries the P-die of a bundle. -/
def preferSide (flow seq hint : Nat) : Nat :=
  match flowClass flow with
  | 2 => if flow % 4 < 2 then 0 else 1
  | 3 => hint
  | _ => seq % 2

def Device.portOf (pair side : Nat) : Nat := if 8 ≤ pair then 16 else pair + 8 * side

/-- The port that would carry a message is paused, which delays the message (R411). -/
def Device.pausedFor (s : Device) (k prefer : Nat) : Bool :=
  match s.sideFor k prefer with
  | some side => (s.port (Device.portOf (keyPair k) side)).paused
  | none => false

/-- The address of the flow's peer on a side (R412): the peer table's, or the last sender's where the table has none. -/
def Device.peerAddr (s : Device) (k side : Nat) : BitVec 128 :=
  match s.findPeer (if 8 ≤ keyPair k then 8 else s.roleOf (keyPair k)) (keyPeer k) with
  | some p => if side = 0 then p.side0 else p.side1
  | none => (s.flow k).src

/-- Hand a frame to its port, if any side of the pair is in use; its flow keeps it either way (DESIGN CHOICE, assumption 73). A
paused port sends nothing (R411). -/
def Device.emit (s : Device) (k : Nat) (f : Frame) (prefer : Nat) : Device :=
  match s.sideFor k prefer with
  | none => s
  | some side =>
    let port := Device.portOf (keyPair k) side
    if (s.port port).paused then s
    else
    let f := { f with port := port, dst := s.peerAddr k side }
    (({ s with net := { s.net with sent := s.net.sent ++ [f] } }).bumpPort port 0 1).bumpPort port 2 1

/-- The bytes a flow may still send: its latest grant, or 64 KiB before the first on management and ingest (R418). -/
def Flow.credit (f : Flow) (flow : Nat) : Nat := f.window.getD (if flowClass flow ≤ 1 then 65536 else 0)
def Flow.inFlight (f : Flow) : Nat := (f.unacked.map (fun x => x.payload.length)).foldl (· + ·) 0
/-- The bytes granted to the peer (R418). -/
def Flow.granted (f : Flow) (flow : Nat) : Nat := f.rxGrant.getD (if flowClass flow ≤ 1 then 65536 else 0)

/-- Payload bytes a port's resequencing buffer holds (R413). -/
def Device.seqHeld (s : Device) (port : Nat) : Nat :=
  (s.net.flows.map (fun e =>
    ((e.2.buffer.filter (fun x => x.2.port == port)).map (fun x => x.2.payload.length)).foldl (· + ·) 0)).foldl (· + ·) 0

/-- The grant a message or an ACK carries, in units of 4 KiB: what the flow is granted, and no more than what has come while a
resequencing buffer of 4 MiB on its pair is full (R413, R418) (DEDUCED, assumption 74). -/
def Device.grantNow (s : Device) (k : Nat) : Nat :=
  let f := s.flow k
  let full := [0, 1].any (fun side => decide (0x400000 ≤ s.seqHeld (Device.portOf (keyPair k) side)))
  let g := f.granted (keyFlow k) / 4096
  if full then min g (ceilDiv ((f.buffer.map (fun x => x.2.payload.length)).foldl (· + ·) 0) 4096) else g

/-- Frame bytes unacknowledged on a port (R420): 102 bytes of framing beside the payload. -/
def Device.portInFlight (s : Device) (port : Nat) : Nat :=
  (s.net.flows.map (fun e =>
    ((e.2.unacked.filter (fun x => x.port == port)).map (fun x => x.payload.length + 102)).foldl (· + ·) 0)).foldl (· + ·) 0

/-- The messages that wait on a flow go out, in order, while credit and the port's 2 MiB limit allow (R418, R420). -/
def Device.drain (s : Device) (k : Nat) : Nat → Device
  | 0 => s
  | n + 1 =>
    let f := s.flow k
    match f.waiting with
    | [] => s
    | m :: rest =>
      let port := Device.portOf (keyPair k) (preferSide (keyFlow k) m.seq.toNat m.port)
      if f.held || s.pausedFor k (preferSide (keyFlow k) m.seq.toNat (port / 8)) then s
      else if f.inFlight + m.payload.length ≤ f.credit (keyFlow k) ∧
          s.portInFlight port + m.payload.length + 102 ≤ 0x200000 then
        let m := { m with ackSeq := f.rxDue, grant := s.grantNow k, port := port }
        let s := s.modFlow k (fun f => { f with waiting := rest, unacked := f.unacked ++ [m] })
        (s.emit k m (preferSide (keyFlow k) m.seq.toNat (port / 8))).drain k n
      else s

/-- Send a message on a flow: it takes the flow's next sequence and goes out when it holds credit (R414, R418)
(DESIGN CHOICE, assumption 73). -/
def Device.send (s : Device) (k kind : Nat) (last : Bool) (handle sb hint : Nat) (payload : List Byte) : Device :=
  let f := s.flow k
  let fr : Frame := ⟨hint, 0, kind, keyFlow k, f.txNext, 0, 0, false, false, last, false, handle, sb,
    if s.hasJob then s.job.epoch else 0, payload⟩
  let s := s.modFlow k (fun f => { f with txNext := f.txNext + 1, waiting := f.waiting ++ [fr] })
  s.drain k ((s.flow k).waiting.length)

/-- Send an ACK of a flow (R413, R419), on the side that last received one of its messages: never numbered, and the count of CE
marks starts again (DEDUCED, assumption 74). On a paused port it stays due. -/
def Device.sendAck (s : Device) (k : Nat) (hold retx : Bool) (code : Nat) : Device :=
  let f := s.flow k
  let fr : Frame := ⟨0, 0, 0x3F, keyFlow k, 0, f.rxDue, s.grantNow k, false, retx, false, hold, 0, 0,
    if s.hasJob then s.job.epoch else 0, leBytes 4 f.ceSeen ++ leBytes 2 code ++ [0, 0]⟩
  if s.pausedFor k f.rxSide then s.modFlow k (fun f => { f with toAck := max 1 f.toAck })
  else (s.modFlow k (fun f => { f with ceSeen := 0, toAck := 0 })).emit k fr f.rxSide

/-- Set the credit granted on a flow; a change of 64 KiB or more is announced (R418), and so is the first credit of a flow that
had none (DESIGN CHOICE, assumption 12). -/
def Device.grantFlow (s : Device) (k bytes : Nat) : Device :=
  let old := (s.flow k).granted (keyFlow k)
  let s := s.modFlow k (fun f => { f with rxGrant := some bytes })
  if 65536 ≤ bytes - old ∨ 65536 ≤ old - bytes ∨ (old = 0 ∧ bytes ≠ 0) then s.sendAck k false false 0 else s

/-- Split data into messages of at most 8,192 bytes, each behind a header computed from its offset (R345, R358, R434,
R454). -/
def fragments (hdr : Nat → List Byte) : Nat → Nat → List Byte → List (List Byte)
  | 0, _, _ => []
  | n + 1, off, l =>
    (hdr off ++ l.take 8192) :: (if l.length ≤ 8192 then [] else fragments hdr n (off + 8192) (l.drop 8192))

/-- Send a list of payloads on a flow, the last with LAST set. -/
def Device.sendAll (s : Device) (k kind handle : Nat) : List (List Byte) → Device
  | [] => s
  | [p] => s.send k kind true handle 0 0 p
  | p :: t => (s.send k kind false handle 0 0 p).sendAll k kind handle t

/-- The flows on which the module starts management messages and reports (R429, R430): flow 0 to host peer 0 of pair host
A, and to the hamper's report address on the management port, which alone carries them in Standoff (R425, R476). -/
def Device.reportFlows (s : Device) : List Nat :=
  (match s.pairOf 0 with
   | some pair => if (s.findPeer 0 0).isSome && !s.standoff then [flowKey pair 0 0] else []
   | none => []) ++
  (match s.hamper with
   | some h => if h.report.isSome then [flowKey 8 0 1023] else []
   | none => [])

/-- Send on every report flow whose pair has a side in use. -/
def Device.sendReports (s : Device) (kind : Nat) (payload : List Byte) : Device :=
  s.reportFlows.foldl (fun s k =>
    let s := match s.hamper with
      | some h => if keyPair k = 8 then s.modFlow k (fun f => { f with src := h.report.getD 0 }) else s
      | none => s
    if s.sideUp (keyPair k) 0 || s.sideUp (keyPair k) 1 then s.send k kind false 0 0 0 payload else s) s

/-- ATTEND_REQ goes out with its cause while a request is pending (R432). -/
def Device.sendAttend (s : Device) : Device :=
  if s.panel.pending then s.sendReports 0x40 (BitVec.ofNat 8 s.panel.cause :: List.replicate 7 0) else s

/-! ## The error log (R492 to R499) -/

/-- What a rule writes: code, severity, data path, control path, position, tag and values (width, value), the domain that
stamps it, and the key of R498: 0 a new entry, 1 code and data path, 2 the position too (DESIGN CHOICE, assumption 32). -/
structure Rec where
  code : Nat
  severity : Nat
  dp : Nat
  ctl : Nat
  posKind : Nat
  pos : Nat
  tag : Nat
  vals : List (Nat × Nat)
  domain : Nat
  key : Nat
  deriving DecidableEq, Repr

/-- Data paths (R493). -/
def dpCluster (g unit ctx slot : Nat) : Nat :=
  0x10000000 + dOf g * 2 ^ 24 + qOf g * 2 ^ 22 + cOf g * 2 ^ 16 + unit * 2 ^ 12 + ctx * 2 ^ 8 + slot
def dpQuad (d q ctl : Nat) : Nat := 0x20000000 + d * 2 ^ 24 + q * 2 ^ 22 + ctl * 2 ^ 8
def dpDie (d unit index : Nat) : Nat := 0x30000000 + d * 2 ^ 24 + unit * 2 ^ 8 + index
def dpPort (port flow : Nat) : Nat := 0x40000000 + port * 2 ^ 16 + flow
def dpPdie (p unit index : Nat) : Nat := 0x50000000 + p * 2 ^ 24 + unit * 2 ^ 8 + index
def dpMem (tier channel dev : Nat) : Nat := 0x60000000 + tier * 2 ^ 12 + channel * 2 ^ 4 + dev
def dpMod (item : Nat) : Nat := 0x70000000 + item

/-- Control paths (R494). -/
def ctlStripe (t : Nat) : Nat := 0x4000 + t
def ctlMp (m : Nat) : Nat := 0x8000 + m
def ctlDie (d : Nat) : Nat := 0xC000 + d
def Device.ctlPort (s : Device) (port : Nat) : Nat :=
  if port = 16 then ctlMp s.primary else ctlMp (port / 8)

/-- The processor that writes a record about a message (R494, R502): of the management port, during Standoff, the one it is
addressed to. -/
def Device.writerOf (s : Device) (m : Msg) : Nat := if m.port = 16 ∧ s.standoff then (if m.mp1 then 1 else 0) else s.primary

/-- Values packed one after another (R495). -/
def packVals (l : List (Nat × Nat)) : List Byte := l.flatMap (fun v => leBytes v.1 v.2)

/-- A record with the usual severity and no position (kind 0). -/
def Rec.plain (code dp ctl domain : Nat) : Rec := ⟨code, Code.severity code, dp, ctl, 0, 0, 0, [], domain, 0⟩

/-- A record about a cluster, stamped by its die's fabric. -/
def Rec.ofCluster (code g unit ctx slot : Nat) : Rec :=
  Rec.plain code (dpCluster g unit ctx slot) (ctlStripe (stripeOf g)) (dOf g)

/-- Bytes 0 to 31 of an entry (R492). -/
def LogEntry.record (e : LogEntry) : List Byte :=
  leBytes 2 (Code.wire e.code) ++
  [BitVec.ofNat 8 e.severity,
   BitVec.ofNat 8 ((if e.decided then 1 else 0) + (if e.saturated then 2 else 0) + (if e.restored then 4 else 0) +
     (if e.bySecondary then 8 else 0) + 16 * e.posKind)] ++
  leBytes 4 e.dataPath.toNat ++ leBytes 2 e.controlPath.toNat ++ leBytes 2 e.count ++ leBytes 8 e.position.toNat ++
  leBytes 2 e.tag ++ sub e.values 0 6 ++ leBytes 4 (e.domain * 2 ^ 28 + bits e.first.toNat 37 10)

/-- The 64 bytes of an entry (R497). -/
def LogEntry.bytes (e : LogEntry) : List Byte :=
  e.record ++ leBytes 4 e.seq ++ leBytes 4 0 ++ leBytes 8 e.first.toNat ++ leBytes 8 e.lastAt.toNat ++ sub e.values 6 8

/-- Change the last entry that meets a test; none when no entry does. -/
def bumpLast (p : LogEntry → Bool) (f : LogEntry → LogEntry) : List LogEntry → Option (List LogEntry)
  | [] => none
  | e :: t =>
    match bumpLast p f t with
    | some t' => some (e :: t')
    | none => if p e then some (f e :: t) else none

/-- Drop the first entry that meets a test; none when no entry does. -/
def dropFirst (p : LogEntry → Bool) : List LogEntry → Option (List LogEntry)
  | [] => none
  | e :: t => if p e then some t else (dropFirst p t).map (e :: ·)

/-- The log with room for one more entry, if R499 finds any. -/
def logRoom (l : List LogEntry) : Option (List LogEntry) :=
  if l.length < 4096 then some l
  else
    match dropFirst (fun e => e.severity == 0) l with
    | some l => some l
    | none => dropFirst (fun e => e.decided || (e.severity == 2 && e.restored)) l

/-- One more occurrence of an entry (R498). -/
def LogEntry.again (now : DWord) (e : LogEntry) : LogEntry :=
  { e with count := min 65535 (e.count + 1), saturated := e.saturated || decide (65535 ≤ e.count + 1), lastAt := now }

/-- An entry is the one a record falls on (R498) (DEDUCED, assumption 70). -/
def Rec.same (r : Rec) (e : LogEntry) : Bool :=
  e.code == r.code && e.dataPath == BitVec.ofNat 32 r.dp && (r.key != 2 || e.position == BitVec.ofNat 64 r.pos)

/-- Enter a record as a new entry (R499); a held or failed record is reported at once (R430) (DESIGN CHOICE, assumption 64). -/
def Device.logNew (s : Device) (r : Rec) : Device :=
  let now := s.stamp r.domain
  let s := { s with fresh := s.fresh + 1 }
  match logRoom s.log.entries with
  | none => { s with log := { s.log with lost := min 0xFFFFFFFF (s.log.lost + 1) } }
  | some l =>
    let e : LogEntry := ⟨r.code, r.severity, false, false, false, false, r.posKind, BitVec.ofNat 32 r.dp,
      BitVec.ofNat 16 r.ctl, 1, BitVec.ofNat 64 r.pos, r.tag, packVals r.vals, r.domain, now, now, s.log.nextSeq,
      decide (r.severity ≠ 0)⟩
    let s := { s with log := { s.log with entries := l ++ [e], nextSeq := s.log.nextSeq + 1, changed := true } }
    if r.severity = 0 then s else s.sendReports 0x08 e.record

/-- Write a record: another occurrence of an entry where its rule merges, else a new entry (R498) (DEDUCED, assumption 70). -/
def Device.log1 (s : Device) (r : Rec) : Device :=
  if r.key = 0 then s.logNew r
  else
    match bumpLast (fun e => r.same e && !e.decided && !e.restored) (LogEntry.again (s.stamp r.domain)) s.log.entries with
    | some l => { s with fresh := s.fresh + 1, log := { s.log with entries := l, changed := true } }
    | none => s.logNew r

/-- Write a record in a processor's own log: during Standoff the secondary keeps one of its own, flagged, whose sequence
numbers it gets when Standoff ends (R502). -/
def Device.logAs (s : Device) (p : Nat) (r : Rec) : Device :=
  if !s.standoff || p = s.primary then s.log1 r
  else
    let now := s.stamp r.domain
    let own := if r.key = 0 then none
      else bumpLast (fun e => r.same e && !e.decided) (LogEntry.again now) s.log.standoffLog
    match own with
    | some l => { s with fresh := s.fresh + 1, log := { s.log with standoffLog := l, changed := true } }
    | none =>
      let e : LogEntry := ⟨r.code, r.severity, false, false, false, true, r.posKind, BitVec.ofNat 32 r.dp,
        BitVec.ofNat 16 r.ctl, 1, BitVec.ofNat 64 r.pos, r.tag, packVals r.vals, r.domain, now, now, 0,
        decide (r.severity ≠ 0)⟩
      let s := { s with fresh := s.fresh + 1, log := { s.log with
        standoffLog := s.log.standoffLog ++ [e], changed := true } }
      if r.severity = 0 then s else s.sendReports 0x08 e.record

/-! ## Holds (R491, R498, R507) -/

def Device.isHeld (s : Device) (site : Site) : Bool := s.log.holds.any (fun h => h.site == site)

/-- A unit stops until a decision: the record of severity held is written, or reopened when the unit stops again for the
same cause after a RETRY (R498). -/
def Device.hold (s : Device) (r : Rec) (site : Site) : Device :=
  let h : Hold := ⟨r.code, BitVec.ofNat 32 r.dp, BitVec.ofNat 64 r.pos, r.tag, site⟩
  let again := s.log.retried.contains h
  let s := { s with log := { s.log with
    holds := s.log.holds ++ [h]
    retried := s.log.retried.filter (fun x => x.site != site) } }
  let r2 := { r with severity := 1, key := 2 }
  if again then
    match bumpLast (fun e => r2.same e && e.decided && !e.restored)
        (fun e => { LogEntry.again (s.stamp r.domain) e with decided := false }) s.log.entries with
    | some l => { s with fresh := s.fresh + 1, log := { s.log with entries := l, changed := true } }
    | none => s.logNew r2
  else s.logNew { r2 with key := 0 }

/-- A hold ends (R500): the newest matching entry is marked decided. -/
def Device.unhold (s : Device) (h : Hold) : Device :=
  let holds := s.log.holds.erase h
  match bumpLast (fun e => e.code == h.code && e.dataPath == h.dataPath && e.position == h.position && !e.decided &&
      !e.restored && e.severity == 1) (fun e => { e with decided := true }) s.log.entries with
  | some l => { s with log := { s.log with holds := holds, entries := l, changed := true } }
  | none => { s with log := { s.log with holds := holds } }

/-- An access at run time to an address with no memory behind it, or a write to a protected region (R33, R40): the access
is not performed and the consumer holds (DESIGN CHOICE, assumption 29). -/
def Device.unbacked (s : Device) (a : Nat) (prot : Bool) (dp ctl domain : Nat) (site : Site) : Device :=
  s.hold ⟨Code.memAddressUnbacked, 1, dp, ctl, 1, a, if prot then 31 else 0, [], domain, 2⟩ site

/-! ## Items and issues (R121, R146, R384) -/

/-- A pass of the context stands at the issue port and waits there for its memory (R51, R114). -/
def Device.passStalled (s : Device) (g k : Nat) (h : Hold) : Bool :=
  (h.code == Code.memHbmUncorrectable || h.code == Code.memLpUncorrectable) &&
    (s.cluster g).issuing.any (fun p => p.ctx == k && h.site == .array g (p.shape - 2))

/-- Codes of the holds of a context of a cluster: its own, its vector unit's, that of a pass of it which waits for its memory, and
those of its quadrant's context. -/
def Device.ctxHolds (s : Device) (g k : Nat) : List Nat :=
  (s.log.holds.filter (fun h => h.site == .context g k || h.site == .vector g k || s.passStalled g k h ||
    h.site == .tableStart (dOf g) (qOf g) k || h.site == .walkStats (dOf g) (qOf g) k)).map (·.code)

def Item.id : Item → Nat
  | .table t => t.item
  | .walk w => w.item
  | .rows r => r.item

/-- An item leaves its context; a play without items gives way to the other. -/
def Device.dropItem (s : Device) (g k id : Nat) : Device :=
  s.modCtx g k (fun c =>
    let items := c.items.filter (fun i => i.id != id)
    let other := c.other.filter (fun i => i.id != id)
    if items.isEmpty ∧ ¬other.isEmpty then { c with items := other, other := [], resident := 1 - c.resident }
    else { c with items := items, other := other })


/-- An issued item is complete: its members drop it and its token is posted (R121, R213, R384). -/
def Device.endIssue (s : Device) (d q : Nat) (i : Issue) : Device :=
  let s := i.members.foldl (fun s c => s.dropItem (gOf d q c) i.ctx i.id) s
  (s.modQuad d q (fun x => { x with issues := x.issues.filter (fun y => y.id != i.id) })).post i.token

/-- A part of the module waits because the training step is suspended (R366, R369, R387). -/
def Device.stepOp (s : Device) : Option Op := s.ops.find? (fun o => o.handle / 2 ^ 24 == 1)
def Device.stepSuspended (s : Device) : Bool :=
  match s.stepOp with
  | some o => o.state != 0
  | none => false

/-- The job runs and its step may start work. -/
def Device.running (s : Device) : Bool := decide (s.job.state = 6) && !s.stepSuspended && !s.isHeld .job

end Sys2Proof.Machine
end

