-- ==== Sys2Proof/Machine/Operands.lean ====
section
/-! DEFINITION. The operand forms: loop tables and their walk, window descriptors, vector pass and field descriptors, and
the addresses of every element (R122 to R141, R154, R180 to R191, R195, R514). -/

namespace Sys2Proof.Machine

/-! ## Loop tables (R122, R124) -/

/-- A level record. -/
structure Level where
  record : Nat
  bound : Nat
  kind : Nat
  order : Nat
  reg : Nat
  regOn : Bool
  member : Bool
  step : Nat
  sA : Int
  sB : Int
  sC : Int
  sO : Int
  deriving DecidableEq, Repr

/-- A loop table. -/
structure LoopTable where
  number : Nat
  shape : Nat
  trap : Bool
  rounding : Nat
  fmtA : Nat
  fmtB : Nat
  fmtO : Nat
  form : Nat
  aLocal : Bool
  bLocal : Bool
  reuseA : Nat
  reuseB : Nat
  reuseC : Nat
  replay : Bool
  cPresent : Bool
  slotBase : Nat
  slotCount : Nat
  declared : Nat
  mask : Nat
  rows : Nat
  cols : Nat
  red : Nat
  tensor : Nat
  baseA : Nat
  baseB : Nat
  baseC : Nat
  baseO : Nat
  scaleA : Int
  scaleB : Int
  energy : Nat
  entry : Nat
  pitchA : Nat
  pitchB : Nat
  pitchO : Nat
  levels : List Level
  deriving DecidableEq, Repr

def levelOf (t : List Byte) (l : Nat) : Level :=
  let o := 64 + 32 * l
  ⟨l, fld t o 4, fbits t (o + 4) 1 1 0, fld t (o + 5) 1, fbits t (o + 6) 1 5 0, bit (fld t (o + 6) 1) 7,
   bit (fld t (o + 7) 1) 0, fld t (o + 8) 4, sfld t (o + 12), sfld t (o + 16), sfld t (o + 20), sfld t (o + 24)⟩

/-- Read a table's fields; the levels are the used ones, outermost first. -/
def tableOf (t : List Byte) : LoopTable where
  number := fbits t 0 2 11 0
  shape := fbits t 3 1 1 0
  trap := bit (fld t 3 1) 2
  rounding := fbits t 3 1 4 3
  fmtA := fbits t 4 1 3 0
  fmtB := fbits t 4 1 7 4
  fmtO := fbits t 5 1 3 0
  form := fbits t 5 1 5 4
  aLocal := bit (fld t 5 1) 6
  bLocal := bit (fld t 5 1) 7
  reuseA := fbits t 6 1 1 0
  reuseB := fbits t 6 1 3 2
  reuseC := fbits t 6 1 5 4
  replay := bit (fld t 6 1) 6
  cPresent := bit (fld t 6 1) 7
  slotBase := fbits t 7 1 2 0
  slotCount := fbits t 7 1 5 3 + 1
  declared := fbits t 8 1 3 0
  mask := fld t 60 4 + fbits t 8 1 7 4 * 2 ^ 32
  rows := fld t 9 1
  cols := fld t 10 2
  red := fld t 12 2
  tensor := fld t 14 2
  baseA := fld t 16 6
  baseB := fld t 22 6
  baseC := fld t 28 6
  baseO := fld t 34 6
  scaleA := sfld t 40
  scaleB := sfld t 44
  energy := fld t 48 4
  entry := fld t 52 2
  pitchA := fld t 54 2
  pitchB := fld t 56 2
  pitchO := fld t 58 2
  levels := (List.range 6).filterMap (fun o =>
    ((List.range 6).map (levelOf t)).find? (fun v => v.order == o))

def Device.tableBytes (s : Device) (d i : Nat) : List Byte := elemAt (s.sec 0x10 d 255 255) 256 i
def Device.table (s : Device) (d i : Nat) : LoopTable := tableOf (s.tableBytes d i)

/-- Members of a mask, ascending (R121). -/
def maskMembers (mask : Nat) : List Nat := (List.range 36).filter (fun c => bit mask c)
/-- A member's rank: the mask bits set below its own (R121). -/
def rankIn (mask c : Nat) : Nat := ((List.range c).filter (fun i => bit mask i)).length

/-- Shapes (R90): rows, columns, latency. -/
def shapeRows (sh : Nat) : Nat := if sh = 0 then 32 else if sh = 1 then 8 else 16
def shapeCols (sh : Nat) : Nat := if sh = 1 then 256 else 64
/-- The cell index of position (i, j) (R90). -/
def cellIndex (sh i j : Nat) : Nat :=
  if sh = 0 then 64 * i + j
  else if sh = 1 then 64 * (8 * (j / 64) + i) + j % 64
  else 1024 * (sh - 2) + 64 * i + j
/-- The address of an accumulator value (R39). -/
def accAddr (g slot cell : Nat) : Nat := clusterWindow g + 0x320000 + slot * 0x2000 + 4 * cell

/-- Products per cell per issue cycle (R68, R92); a Triple-BF16 index takes three cycles. -/
def perCycle (fmt : Nat) : Nat :=
  match fmtGroup fmt with
  | 2 => 2
  | 3 => 2
  | 4 => 4
  | 5 => 2
  | _ => 1
/-- Issue cycles of a pass (R92, R112). -/
def issueCycles (fmt k : Nat) : Nat :=
  if k = 0 then 1 else if fmtGroup fmt = 6 then 3 * k else ceilDiv k (perCycle fmt)

/-! ### Positions (R126 to R129) -/

/-- The levels a member iterates, outermost first. -/
def LoopTable.loops (t : LoopTable) : List Level := t.levels.filter (fun l => !l.member)

def prodBounds (l : List Level) : Nat := (l.map (·.bound)).foldl (· * ·) 1

/-- Points of the nest a member walks. -/
def LoopTable.points (t : LoopTable) : Nat := prodBounds t.loops

/-- The level indices at a walk position: the innermost level varies fastest. -/
def digits : List Level → Nat → List (Level × Nat)
  | [], _ => []
  | l :: t, p => (l, p / prodBounds t % l.bound) :: digits t p

/-- The indices at a point, the member level at the member's rank. -/
def LoopTable.at (t : LoopTable) (rank p : Nat) : List (Level × Nat) :=
  digits t.loops p ++ (t.levels.filter (·.member)).map (fun l => (l, rank))

def sumOver (f : Level → Int) (pt : List (Level × Nat)) : Int :=
  (pt.map (fun e => (e.2 : Int) * f e.1)).foldl (· + ·) 0

/-- The position of a kind at a point (R126). -/
def posOf (kind : Nat) (pt : List (Level × Nat)) : Nat :=
  ((pt.filter (fun e => e.1.kind == kind)).map (fun e => e.2 * e.1.step)).foldl (· + ·) 0

def LoopTable.tile (t : LoopTable) (kind : Nat) : Nat :=
  if kind = 0 then t.rows else if kind = 1 then t.cols else t.red

/-- The coverage of a kind (R126). -/
def LoopTable.coverage (t : LoopTable) (kind : Nat) : Nat :=
  t.tile kind * prodBounds (t.levels.filter (fun l => l.kind == kind))

/-- The register a kind's length comes from, if any (R128). -/
def LoopTable.lenReg (t : LoopTable) (kind : Nat) : Option Nat :=
  (t.levels.find? (fun l => l.kind == kind && l.regOn)).map (·.reg)

/-- The G offset of a point in elements of the output tensor (R141). -/
def gOffset (pt : List (Level × Nat)) : Nat := posOf 3 pt

/-- R131: the outermost K level with a bound above 1, by order. -/
def LoopTable.kOut (t : LoopTable) : Option Nat :=
  (t.loops.find? (fun l => l.kind == 2 && decide (1 < l.bound))).map (·.order)

def LoopTable.innerSet (t : LoopTable) : List Level :=
  match t.kOut with
  | none => []
  | some o => t.loops.filter (fun l => l.kind != 2 && decide (o < l.order))

def LoopTable.outerSet (t : LoopTable) : List Level :=
  match t.kOut with
  | none => t.loops.filter (fun l => l.kind != 2)
  | some o => t.loops.filter (fun l => l.kind != 2 && decide (l.order < o))

/-- The live count of R131. -/
def LoopTable.liveCount (t : LoopTable) : Nat := prodBounds t.innerSet

def mixed (ls : List Level) (pt : List (Level × Nat)) : Nat :=
  ls.foldl (fun a l => a * l.bound + ((pt.find? (fun e => e.1.record == l.record)).map (·.2)).getD 0) 0

/-- The slot of a point (R129, R131). -/
def LoopTable.slotAt (t : LoopTable) (pt : List (Level × Nat)) : Nat :=
  t.slotBase + (mixed t.outerSet pt * t.liveCount + mixed t.innerSet pt) % t.slotCount

/-! ### Windowed tables (R179 to R191) -/

structure Axis where
  size : Nat
  k : Nat
  stride : Nat
  dil : Nat
  padLo : Nat
  padHi : Nat
  deriving DecidableEq, Repr

structure Window where
  table : Nat
  dims : Nat
  layout : Nat
  planarOut : Bool
  cg : Nat
  pitch : Nat
  pad : Nat
  x : Axis
  y : Axis
  z : Axis
  deriving DecidableEq, Repr

def axisOf (w : List Byte) (o : Nat) : Axis :=
  ⟨fld w o 4, fld w (o + 4) 2, fld w (o + 6) 2, fld w (o + 8) 2, fld w (o + 10) 2, fld w (o + 12) 2⟩

def windowOf (w : List Byte) : Window :=
  ⟨fbits w 0 2 11 0, fbits w 3 1 1 0, fbits w 3 1 3 2, bit (fld w 3 1) 4, fld w 4 2, 64 * fld w 8 4, fld w 12 4,
   axisOf w 16, axisOf w 30, axisOf w 44⟩

def Device.windowBytes (s : Device) (d : Nat) : List (List Byte) :=
  let l := s.sec 0x11 d 255 255
  (List.range (l.length / 64)).map (elemAt l 64)

/-- The window descriptor of a table, if the image carries one (R179). -/
def Device.window (s : Device) (d i : Nat) : Option Window :=
  ((s.windowBytes d).map windowOf).find? (fun w => w.table == i)

/-- The numerator of R182; negative when there is no output position. -/
def Axis.num (a : Axis) : Int := (a.size : Int) + a.padLo + a.padHi - a.dil * ((a.k : Int) - 1) - 1
def Axis.out (a : Axis) : Nat := if a.num < 0 then 0 else (a.num / (a.stride : Int)).toNat + 1
def Window.pOut (w : Window) : Nat := w.x.out * w.y.out * w.z.out
def Window.taps (w : Window) : Nat := w.x.k * w.y.k * w.z.k
def Window.block (w : Window) : Nat := if w.layout = 1 then 16 else if w.layout = 2 then 32 else 1

/-- The offset of an element from its group's base, or none for a tap outside the input (R185, R188). -/
def Window.offset (w : Window) (eb p k : Nat) : Option Nat :=
  let ci := k / w.taps
  let t := k % w.taps
  let c (a : Axis) (o tap : Nat) : Int := (o : Int) * a.stride - a.padLo + tap * a.dil
  let ix := c w.x (p % w.x.out) (t % w.x.k)
  let iy := c w.y (p / w.x.out % w.y.out) (t / w.x.k % w.y.k)
  let iz := c w.z (p / (w.x.out * w.y.out)) (t / (w.x.k * w.y.k))
  if ix < 0 ∨ (w.x.size : Int) ≤ ix ∨ iy < 0 ∨ (w.y.size : Int) ≤ iy ∨ iz < 0 ∨ (w.z.size : Int) ≤ iz then none
  else
    let sp := (iz.toNat * w.y.size + iy.toNat) * w.x.size + ix.toNat
    if w.layout = 0 then some (ci * w.pitch + sp * eb)
    else some (ci / w.block * w.pitch + (sp * w.block + ci % w.block) * eb)

/-- The effective lengths of a table (R128, R186). -/
def effLen (t : LoopTable) (w : Option Window) (regs : Tab Word) (kind : Nat) : Nat :=
  let base := match t.lenReg kind with
    | some r => (Tab.get 0 regs r).toNat
    | none => t.coverage kind
  match w with
  | some w => if kind = 0 then min w.pOut base else base
  | none => base

/-! ### The pass at a point (R129) -/

/-- What R129 computes at a point. -/
structure PointPass where
  pt : List (Level × Nat)
  m : Nat
  n : Nat
  k : Nat
  len : Nat
  rows : Nat
  cols : Nat
  init : Bool
  readout : Bool
  slot : Nat
  masked : Bool
  deriving DecidableEq, Repr

/-- The pass of a point, or none when the point is skipped. -/
def LoopTable.passAt (t : LoopTable) (lenM lenN lenK rank p : Nat) : Option PointPass :=
  let pt := t.at rank p
  let m := posOf 0 pt
  let n := posOf 1 pt
  let k := posOf 2 pt
  if lenM ≤ m ∨ lenN ≤ n then none
  else if (lenK = 0 ∧ k ≠ 0) ∨ (lenK ≠ 0 ∧ lenK ≤ k) then none
  else
    let len := if lenK = 0 then 0 else min t.red (lenK - k)
    let rows := min t.rows (lenM - m)
    let cols := min t.cols (lenN - n)
    some ⟨pt, m, n, k, len, rows, cols, decide (k = 0), decide (lenK = 0) || decide (lenK ≤ k + t.red), t.slotAt pt,
      decide (rows < t.rows) || decide (cols < t.cols) || decide (len < t.red)⟩

/-- The next unskipped point from `p` on, and the number of points skipped; `none` at the end of the nest. -/
def LoopTable.nextPoint (t : LoopTable) (lenM lenN lenK rank : Nat) : Nat → Nat → Nat → Option Nat × Nat
  | 0, _, sk => (none, sk)
  | f + 1, p, sk =>
    if t.points ≤ p then (none, sk)
    else if (t.passAt lenM lenN lenK rank p).isSome then (some p, sk)
    else t.nextPoint lenM lenN lenK rank f (p + 1) (sk + 1)

/-! ### Addresses (R134, R135, R514) -/

def addInt (a : Nat) (i : Int) : Nat := ((a : Int) + i).toNat

/-- The base of an operand for a member (R123). -/
def localBase (loc : Bool) (g base : Nat) : Nat := if loc then clusterWindow g + base else base

/-- The bit offset of reduction index `t` within a row or column: whole bytes, or the packed blocks of R62. -/
def elemBit (fmt t : Nat) : Nat :=
  if fmtMX fmt then 8 * (t / 32 * mxBlockBytes fmt) + fmtBits fmt * (t % 32) else t * fmtBits fmt

/-- Read `w` bits at a bit offset. -/
def Device.readBits (s : Device) (a bo w : Nat) : Nat :=
  (s.readNat (a + bo / 8) ((bo % 8 + w + 7) / 8) / 2 ^ (bo % 8)) % 2 ^ w

/-- An operand element with its scale byte: the run starts at `a`, `t` indices along it; the scale array lies at
base + scale offset (R135). -/
def Device.readElem (s : Device) (fmt base : Nat) (scale : Int) (a t : Nat) : Elem :=
  let w := fmtBits fmt
  if fmtMX fmt then
    let block : Int := ((a : Int) - base) / mxBlockBytes fmt + (t / 32 : Nat)
    ⟨s.readBits a (elemBit fmt t) w, s.readNat (addInt base (scale + block)) 1⟩
  else ⟨s.readBits a (elemBit fmt t) w, 0⟩

/-- Bytes of an element as the edges hold it: Triple-BF16 carries three parts (R96, R136). -/
def edgeBits (fmt : Nat) : Nat := if fmt = 0xB then 48 else fmtBits fmt

/-- The row pitch of an input-bank frame (R136) (DESIGN CHOICE, assumption 21). -/
def framePitch (fmt red : Nat) : Nat :=
  roundUp (ceilDiv (red * edgeBits fmt) 8 + (if fmtMX fmt then ceilDiv red 32 else 0)) 64

/-- Frames of a table: offset of the first, size and number (R106, R136). -/
def LoopTable.frames (t : LoopTable) : Nat × Nat × Nat :=
  let size := t.rows * framePitch t.fmtA t.red
  if t.shape ≤ 1 then (0, size, 131072 / max size 1) else (65536 * (t.shape - 2), size, 65536 / max size 1)

/-- Bytes a weight block occupies in the queue (R138). -/
def weightBytes (fmt len cols : Nat) : Nat := ceilDiv (len * cols * edgeBits fmt) 8

/-- Element bytes of an output format of whole bytes. -/
def outBytes (fmt : Nat) : Nat := fmtBits fmt / 8

/-- The furthest byte an operand of R134 reaches beyond its base over the full coverage: rows of `pitch` bytes of which
`run` bytes are used, with the strides a level adds. -/
def rangeOver (t : LoopTable) (f : Level → Int) (rows pitch run : Nat) : Int × Int :=
  let ext := t.levels.map (fun l => ((l.bound : Int) - 1) * f l)
  ((ext.map (min 0)).foldl (· + ·) 0, (ext.map (max 0)).foldl (· + ·) 0 + (rows - 1 : Int) * pitch + run)

/-- Bytes of a run of `n` elements of a format, in whole blocks for Microscaling. -/
def runBytes (fmt n : Nat) : Nat := if fmtMX fmt then ceilDiv n 32 * mxBlockBytes fmt else ceilDiv (n * fmtBits fmt) 8

/-- The range of O or C without its scale array, relative to its base (R143 step 8). A Microscaling operand lies as R514 says in
either layout of R190, which moves elements of whole bytes (DESIGN CHOICE, assumption 22). -/
def LoopTable.outRange (t : LoopTable) (w : Option Window) (isC : Bool) : Int × Int :=
  let f : Level → Int := fun l => if isC then l.sC else l.sO
  match w with
  | some v =>
    if v.planarOut ∧ fmtMX t.fmtO = false then rangeOver t f (t.coverage 1) (64 * t.pitchO) (t.coverage 0 * outBytes t.fmtO)
    else rangeOver t f t.rows (64 * t.pitchO) (runBytes t.fmtO t.cols)
  | none => rangeOver t f t.rows (64 * t.pitchO) (runBytes t.fmtO t.cols)

/-- Elements of the output tensor a table covers: one more than the greatest index of R141. -/
def LoopTable.elements (t : LoopTable) : Nat :=
  ((t.levels.filter (fun l => l.kind == 3)).map (fun l => (l.bound - 1) * l.step)).foldl (· + ·) 0 +
    t.coverage 0 * t.coverage 1

/-- The start of a Microscaling output's scale array, and its bytes (R514). -/
def LoopTable.scaleArray (t : LoopTable) (base : Nat) (isC : Bool) : Nat :=
  base + roundUp ((t.outRange none isC).2).toNat 64

/-! ## Vector pass descriptors (R154) -/

structure VPass where
  entry : Nat
  fmtI : Nat
  fmtO : Nat
  rounding : Nat
  trap : Bool
  cPresent : Bool
  rows : Nat
  len : Nat
  tensor : Nat
  baseI : Nat
  baseO : Nat
  baseC : Nat
  energy : Nat
  deriving DecidableEq, Repr

def vpassOf (v : List Byte) : VPass :=
  ⟨fbits v 0 2 10 0, fbits v 2 1 3 0, fbits v 2 1 7 4, fbits v 3 1 1 0, bit (fld v 3 1) 2, bit (fld v 3 1) 3,
   fbits v 4 4 23 0, fbits v 8 2 12 0, fld v 10 2, fld v 12 6, fld v 18 6, fld v 24 6, fld v 30 2⟩

def Device.vpass (s : Device) (d q i : Nat) : VPass := vpassOf (elemAt (s.sec 0x1B d q 255) 32 i)

/-- The row pitch of an operand of a vector pass (R154). -/
def VPass.pitch (v : VPass) (fmt : Nat) : Nat := roundUp (runBytes fmt v.len) 64

/-! ## Field descriptors (R195) -/

structure FieldDesc where
  kind : Nat
  dims : Nat
  fmt : Nat
  rounding : Nat
  c : Nat
  x : Nat
  y : Nat
  z : Nat
  bx : Nat
  bb : Nat
  bz : Nat
  ow : Nat
  oh : Nat
  boxes : Nat
  pad : Nat
  baseI : Nat
  baseO : Nat
  baseB : Nat
  energy : Nat
  pitchI : Nat
  pitchO : Nat
  tensor : Nat
  deriving DecidableEq, Repr

def fieldOf (f : List Byte) : FieldDesc :=
  ⟨fbits f 0 1 1 0, fbits f 0 1 3 2, fbits f 1 1 3 0, fbits f 2 1 1 0, fld f 4 4, fld f 8 4, fld f 12 4, fld f 16 4,
   fld f 20 1, fld f 21 1, fld f 22 1, fld f 20 2, fld f 22 2, fld f 24 4, fld f 28 4, fld f 32 6, fld f 38 6,
   fld f 44 6, fld f 50 2, 64 * fld f 52 4, 64 * fld f 56 4, fld f 60 2⟩

def Device.fieldDesc (s : Device) (d q i : Nat) : FieldDesc := fieldOf (elemAt (s.sec 0x1C d q 255) 64 i)

/-- Rows of a field descriptor (R196, R197). -/
def FieldDesc.rows (f : FieldDesc) : Nat :=
  if f.kind = 2 then f.boxes * f.c * f.oh
  else if f.kind = 0 then f.c * f.bx * f.bb * f.bz * (f.y / f.bb) * (f.z / f.bz)
  else f.c * f.y * f.z

/-- Rows of a vector pass or field descriptor item (R155, R194). -/
def Device.itemRows (s : Device) (d q : Nat) (r : RowRun) : Nat :=
  if r.field then (s.fieldDesc d q r.index).rows else (s.vpass d q r.index).rows

def Device.itemRowEnergy (s : Device) (d q : Nat) (r : RowRun) : Nat :=
  if r.field then (s.fieldDesc d q r.index).energy else (s.vpass d q r.index).energy

/-! ## Page geometry (R204, R205) -/

structure Geometry where
  layers : Nat
  groups : Nat
  fmt : Nat
  width : Nat
  nCap : Nat
  homePitch : Nat
  visitPitch : Nat
  homeBase : Nat
  bufBase : Nat
  bufSlots : Nat
  deriving DecidableEq, Repr

def geometryOf (l : List Byte) : Geometry :=
  ⟨fld l 0 1, fbits l 1 1 3 0, fbits l 2 1 3 0, fld l 3 1, fld l 4 4, 64 * fld l 8 4, 64 * fld l 12 4, fld l 16 6,
   fld l 22 6, fld l 28 2⟩

def Device.geometry (s : Device) (d : Nat) : Geometry := geometryOf (s.sec 0x12 d 255 255)

def Geometry.eb (y : Geometry) : Nat := outBytes y.fmt
/-- The stretch length T (R204). -/
def Geometry.stretch (y : Geometry) (ring : Nat) : Nat := y.nCap / (2 * max 1 ring)
/-- Bytes of a record (R205). -/
def Geometry.recBytes (y : Geometry) : Nat := 32 * y.width * y.eb

/-! ## Walk records (R214, R215) -/

structure WalkRec where
  number : Nat
  kind : Nat
  causal : Bool
  segment : Bool
  trap : Bool
  rounding : Nat
  fmt : Nat
  fmtO : Nat
  layer : Nat
  group : Nat
  heads : Nat
  scale : Word
  window : Nat
  reg : Nat
  mask : Nat
  forward : Nat
  first : Nat
  count : Nat
  baseQ : Nat
  baseO : Nat
  baseS : Nat
  basedO : Nat
  baseD : Nat
  baseM : Nat
  baseQT : Nat
  basedOT : Nat
  work : Nat
  closing : Nat
  energy : Nat
  phase : Nat
  stride : Nat
  deriving DecidableEq, Repr

def walkOf (r : List Byte) : WalkRec :=
  ⟨fbits r 0 2 9 0, fbits r 3 1 1 0, bit (fld r 3 1) 2, bit (fld r 3 1) 3, bit (fld r 3 1) 4, fbits r 3 1 6 5,
   fbits r 4 1 3 0, fbits r 4 1 7 4, fld r 5 1, fbits r 6 1 3 0, fld r 7 1, BitVec.ofNat 32 (fld r 8 4), fld r 12 4,
   fbits r 16 1 5 0, fld r 20 4 + fbits r 17 1 3 0 * 2 ^ 32, fld r 18 2, fld r 24 4, fld r 28 4, fld r 32 6, fld r 38 6,
   fld r 44 6, fld r 50 6, fld r 56 6, fld r 62 6, fld r 68 6, fld r 74 6, fld r 80 4, fld r 84 2, fld r 86 2, fld r 88 1,
   fld r 89 1⟩

def Device.walkRec (s : Device) (d i : Nat) : WalkRec := walkOf (elemAt (s.sec 0x13 d 255 255) 128 i)

/-! ## Tensor scale exponents (R311) -/

/-- The current scale exponent of a tensor in a die's table. -/
def Device.expo (s : Device) (d tensor : Nat) : Int := Tab.get 0 (s.die d).expo tensor

/-- The reduction plan holds a tensor: its tensor records name the identifier (R313). -/
def Device.planTensors (s : Device) : List (List Byte) :=
  let l := s.sec 0x05 255 255 255
  (List.range (fld l 2 2)).map (fun i => sub l (64 + 256 * fld l 24 1 + 64 * i) 64)

end Sys2Proof.Machine
end

