-- ==== Sys2Proof/Machine/Array.lean ====
section
/-! DEFINITION. The outer-product array and the edges that feed it (R90 to R118, R134 to R139): passes, issue cycles,
readouts, shapes, frames, the weight queue and multicast deliveries. -/

namespace Sys2Proof.Machine

/-! ## Passes and where they stand -/

def Pass.half (p : Pass) : Nat := p.shape - 2
/-- The array shape a pass shape belongs to: 0 crown, 1 brim, 2 split (R111). -/
def wholeShape (sh : Nat) : Nat := min sh 2

/-- The passes in flight: not completed, or not read out (R111). -/
def Cluster.inFlight (c : Cluster) : List Pass := c.issuing ++ c.draining.filter (!·.drained) ++ c.readouts
def firstOfHalf (l : List Pass) (half : Nat) : Option Pass := l.find? (fun p => p.half == half)
def dropPass (l : List Pass) (id : Nat) : List Pass := l.filter (fun p => p.id != id)
def putPass (l : List Pass) (p : Pass) : List Pass := l.map (fun x => if x.id = p.id then p else x)

/-- A held array (R113 to R115): outside split shape any hold stops it, in split shape only its half's. -/
def Device.arrayHeld (s : Device) (g half : Nat) : Bool :=
  if (s.cluster g).shape = 2 then s.isHeld (.array g half) else s.isHeld (.array g 0) || s.isHeld (.array g 1)

/-- The item of a context that an issue number names. -/
def itemIsTable (item : Nat) : Item → Option TableRun
  | .table t => if t.item = item then some t else none
  | _ => none

def findTable (l : List Item) (item : Nat) : Option TableRun := l.findSome? (itemIsTable item)

def updTable (l : List Item) (item : Nat) (f : TableRun → TableRun) : List Item :=
  l.map (fun i => match i with
    | .table t => if t.item = item then .table (f t) else .table t
    | i => i)

def Device.modTable (s : Device) (g k item : Nat) (f : TableRun → TableRun) : Device :=
  s.modCtx g k (fun c => { c with items := updTable c.items item f, other := updTable c.other item f })

def updWalk (l : List Item) (item : Nat) (f : WalkRun → WalkRun) : List Item :=
  l.map (fun i => match i with
    | .walk w => if w.item = item then .walk (f w) else .walk w
    | i => i)

def Device.modWalk (s : Device) (g k item : Nat) (f : WalkRun → WalkRun) : Device :=
  s.modCtx g k (fun c => { c with items := updWalk c.items item f, other := updWalk c.other item f })

def findWalk (l : List Item) (item : Nat) : Option WalkRun :=
  l.findSome? (fun i => match i with
    | .walk w => if w.item = item then some w else none
    | _ => none)

/-- A group of a walk, changed where it is the one named. -/
def WalkRun.modGroup (r : WalkRun) (id : Nat) (f : WGroup → WGroup) : WalkRun :=
  { r with groups := r.groups.map (fun x => if x.id = id then f x else x) }

/-- A table's points are all started. -/
def TableRun.done (t : TableRun) (tab : LoopTable) : Bool := decide (tab.points ≤ t.pos)

/-- A member's walk is over: its last group is folded or written and its last closing row has ended (R213, R218). -/
def Cluster.walkOver (c : Cluster) (r : WalkRun) : Bool :=
  r.emitted && r.groups.isEmpty && r.closing.isEmpty &&
    (c.invocation.toList ++ c.stopped).all (fun v => v.kind != 2 || v.item != r.item)

/-- The item a context stands at: a table with a pass still to start, a walk that is not over (R218), rows still to be granted.
-/
def Device.headItem (s : Device) (g k : Nat) : Option Item :=
  (s.ctx g k).items.find? (fun i => match i with
    | .table t => !t.done (s.table (dOf g) t.num)
    | .walk w => !(s.cluster g).walkOver w
    | .rows r => decide (r.granted < s.itemRows (dOf g) (qOf g) r))

/-- The table a context stands at. -/
def Device.headTable (s : Device) (g k : Nat) : Option (TableRun × LoopTable) :=
  match s.headItem g k with
  | some (.table t) => some (t, s.table (dOf g) t.num)
  | _ => none

/-- The pass of a table run at a point. -/
def TableRun.passAt (t : TableRun) (tab : LoopTable) (p : Nat) : Option PointPass :=
  tab.passAt t.lenM t.lenN t.lenK t.rank p

/-- The next unskipped point from `p` on. -/
def TableRun.nextFrom (t : TableRun) (tab : LoopTable) (p : Nat) : Option Nat × Nat :=
  tab.nextPoint t.lenM t.lenN t.lenK t.rank (tab.points - p) p 0

/-- The B tile of a pass (R134, R135). -/
def LoopTable.feed (tab : LoopTable) (g : Nat) (pp : PointPass) : Feed :=
  let base := localBase tab.bLocal g tab.baseB
  ⟨addInt base (sumOver (·.sB) pp.pt), 64 * tab.pitchB, tab.fmtB, base, tab.scaleB, pp.len, pp.cols⟩

/-- Two B tiles are one to a replay: address, K and columns (R138). -/
def Feed.same (a b : Feed) : Bool := a.addr == b.addr && a.len == b.len && a.cols == b.cols

/-- Bytes a B tile occupies in the queue (R138). -/
def Feed.size (f : Feed) : Nat := weightBytes f.fmt f.len f.cols

/-- The name of a pass's A tile within its issue: its address, or for a windowed table its positions (R136, R191). A later issue
loads its tiles again (DEDUCED, assumption 21), and a streamed A is loaded afresh for every pass. -/
def frameKey (tab : LoopTable) (w : Option Window) (item g p : Nat) (pp : PointPass) : List Nat :=
  (match w with
   | some _ => [item, 1, pp.m, pp.k] ++ (pp.pt.filter (fun e => e.1.kind == 3)).map (·.2)
   | none => [item, 0, addInt (localBase tab.aLocal g tab.baseA) (sumOver (·.sA) pp.pt)]) ++
    (if tab.reuseA = 2 then [p] else [])

/-! ## Loading frames (R136, R185, R191) -/

/-- The edge bits of an operand element: Triple-BF16 splits into hi, mid, lo (R66). -/
def edgeValue (fmt bits : Nat) : Nat :=
  if fmt = 0xB then
    let t := tripleSplit (BitVec.ofNat 32 bits)
    t.1 + 65536 * t.2.1 + 65536 * 65536 * t.2.2
  else bits

/-- The bytes of one row of a frame: elements packed, then scale bytes, then zeros (DESIGN CHOICE, assumption 21). -/
def frameRow (fmt red : Nat) (es : List Elem) : List Byte :=
  let w := edgeBits fmt
  let body := ceilDiv (red * w) 8
  let bytes := leBytes body (packBits w (es.map (fun e => edgeValue fmt e.bits)))
  let scales := if fmtMX fmt then
      (List.range (ceilDiv red 32)).map (fun b => BitVec.ofNat 8 (nth ⟨0, 0⟩ es (32 * b)).scale) else []
  let l := bytes ++ scales
  l ++ List.replicate (framePitch fmt red - l.length) 0

/-- The elements of a frame row and the memory addresses read for them; a pad element reads none. -/
def Device.rowElems (s : Device) (g : Nat) (tab : LoopTable) (w : Option Window) (pp : PointPass) (r : Nat) :
    List (Elem × Option Nat) :=
  let base := localBase tab.aLocal g tab.baseA
  let sa := sumOver (·.sA) pp.pt
  (List.range pp.len).map (fun t =>
    match w with
    | some v =>
      match v.offset (outBytes tab.fmtA) (pp.m + r) (pp.k + t) with
      | some o =>
        let a := addInt base sa + o
        (⟨s.readNat a (outBytes tab.fmtA), 0⟩, some a)
      | none => (⟨v.pad, 0⟩, none)
    | none =>
      let a := addInt base sa + 64 * tab.pitchA * r
      (s.readElem tab.fmtA base tab.scaleA a t, some (a + elemBit tab.fmtA t / 8)))

/-- The frame of a pass, if one is loaded with its A tile, over at least its rows and reduction indices. -/
def Cluster.frameOf (c : Cluster) (key : List Nat) (rows len : Nat) : Option BankFrame :=
  c.frames.find? (fun b => b.key == key && decide (rows ≤ b.rows) && decide (len ≤ b.len))

/-- The keys of the coming passes whose frames are loaded, up to the first pass without one. -/
def Device.frameAhead (s : Device) (g : Nat) (t : TableRun) (tab : LoopTable) (w : Option Window) :
    Nat → Nat → List (List Nat) → Option (Nat × PointPass × List (List Nat))
  | 0, _, _ => none
  | f + 1, p, seen =>
    match t.nextFrom tab p with
    | (some p, _) =>
      match t.passAt tab p with
      | some pp =>
        let key := frameKey tab w t.item g p pp
        if pp.len = 0 then s.frameAhead g t tab w f (p + 1) seen
        else if ((s.cluster g).frameOf key pp.rows pp.len).isSome then s.frameAhead g t tab w f (p + 1) (key :: seen)
        else some (p, pp, seen)
      | none => none
    | (none, _) => none

/-- The frame offset to load into (R136): none of its bytes belongs to a frame that an issued pass still reads or a
nearer pass needs; the least recently used first. -/
def Cluster.freeFrame (c : Cluster) (first size count : Nat) (keep : List (List Nat)) : Option Nat :=
  let busy (off : Nat) : Bool :=
    c.issuing.any (fun p => overlap off size p.frame (max 1 (p.rows * p.pitch))) ||
      c.frames.any (fun b => overlap off size b.off b.bytes && keep.contains b.key)
  let age (off : Nat) : Nat :=
    ((List.range c.frames.length).filter (fun i =>
      overlap off size (nth ⟨0, 0, [], 0, 0, false⟩ c.frames i).off (nth ⟨0, 0, [], 0, 0, false⟩ c.frames i).bytes)).foldl
        (fun a i => max a (i + 1)) 0
  ((List.range count).map (fun i => first + i * size)).foldl (fun best off =>
    if busy off then best
    else match best with
      | none => some off
      | some o => if age off < age o then some off else some o) none

/-- Lines of 64 bytes among the addresses of a frame (R191). -/
def lineCount (as : List Nat) : Nat := ((as.map (· / 64)).eraseDups).length

/-- A frame takes its place in the bank's directory; what it overlaps is gone (R136). -/
def Device.addFrame (s : Device) (g : Nat) (b : BankFrame) : Device :=
  s.modCluster g (fun c => { c with frames := c.frames.filter (fun x => !overlap b.off b.bytes x.off x.bytes) ++ [b] })

/-- Load a frame for the first coming pass of a table that lacks one (R136, R191). A line that holds no data it can use, since a
word of it was found uncorrectable, is not loaded (R51). -/
def Device.loadTableFrame (s : Device) (g k : Nat) (t : TableRun) (tab : LoopTable) : Device :=
  let w := s.window (dOf g) t.num
  let c := s.cluster g
  let (first, size, count) := tab.frames
  match s.frameAhead g t tab w (4 * count + 1024) t.pos [] with
  | none => s
  | some (p, pp, seen) =>
    match c.freeFrame first size count seen with
    | none => s
    | some off =>
      let rows := (List.range pp.rows).map (fun r => s.rowElems g tab w pp r)
      let as := rows.flatMap (fun r => r.filterMap (·.2))
      if as.any (fun a => s.readWaits a 1 || !s.sound a 1) then s
      else
      match as.find? (fun a => !s.backed a 1) with
      | some a => s.unbacked a false (dpCluster g 2 k 0xFF) (ctlStripe (stripeOf g)) (dOf g) (.context g k)
      | none =>
        let pitch := framePitch tab.fmtA tab.red
        let base := clusterWindow g + 0x300000 + off
        let s := (List.range pp.rows).foldl (fun s r =>
          s.write (base + r * pitch) (frameRow tab.fmtA tab.red ((nth [] rows r).map (·.1)))) s
        let s := (s.addFrame g ⟨off, size, frameKey tab w t.item g p pp, pp.rows, pp.len, true⟩).bumpLoop g 4 1
        match w with
        | none => s
        | some v =>
          let pads := (rows.flatMap (fun r => r.filter (fun e => e.2.isNone))).length
          let blocksOf (r : List (Elem × Option Nat)) : Nat :=
            (((List.range r.length).filterMap (fun i =>
              if (nth (⟨0, 0⟩, none) r i).2.isSome then some ((pp.k + i) / v.taps / v.block) else none)).eraseDups).length
          let steps := if v.layout = 0 then 0 else (rows.map blocksOf).foldl (· + ·) 0
          (((s.bumpField g 0 1).bumpField g 1 pads).bumpField g 2 (lineCount as)).bumpField g 3 steps

/-! ## The weight queue (R107, R108, R137, R138) -/

/-- Bytes of the queue, or of a half of it (R107). -/
def queueCap (shape : Nat) : Nat := if 2 ≤ shape then 32768 else 65536

/-- Bytes a half of the queue holds: what has arrived and has not left, and the held block (R108). -/
def Cluster.queueUsed (c : Cluster) (half : Nat) : Nat :=
  ((c.queue.filter (fun b => b.half == half)).map (fun b => b.bytes - b.used)).foldl (· + ·) 0 +
    (match Tab.get none c.held half with | some b => b.feed.size | none => 0)

/-- The queue of a half, or the whole queue, has this many bytes free. -/
def Cluster.queueFree (c : Cluster) (half shape : Nat) : Nat := queueCap shape - c.queueUsed half

/-- The weight elements of one reduction index of a B tile. -/
def Device.feedSlice (s : Device) (f : Feed) (t : Nat) : List Elem :=
  (List.range f.cols).map (fun c =>
    let e := s.readElem f.fmt f.base f.scale (f.addr + f.pitch * c) t
    ⟨edgeValue f.fmt e.bits, e.scale⟩)

/-- What a context fetches next into the queue: the pass it is for, its B tile, the half, the shape, and whether the pass has
already started. -/
structure Fetch where
  item : Nat
  point : Nat
  half : Nat
  shape : Nat
  feed : Feed
  started : Bool
  deriving DecidableEq, Repr

def WBlock.of (b : WBlock) (k : Nat) (f : Fetch) : Bool := b.ctx == k && b.item == f.item && b.point == f.point

/-- The block a pass that has started still waits for bytes of. -/
def Cluster.startedFetch (c : Cluster) (k : Nat) : Option Fetch :=
  c.issuing.findSome? (fun p =>
    if p.ctx = k ∧ p.source ≠ 2 then
      (c.queue.find? (fun b => b.ctx == k && b.item == p.item && b.point == p.point && decide (b.bytes < b.feed.size))).map
        (fun b => ⟨b.item, b.point, b.half, p.shape, b.feed, true⟩)
    else none)

/-- The B tile the pass at the issue port leaves held, or else the held block (R108, R138). -/
def Cluster.heldAhead (c : Cluster) (half : Nat) : Option Feed :=
  match firstOfHalf c.issuing half with
  | some p =>
    if p.source = 0 then none
    else if p.source = 2 then (Tab.get none c.held half).map (·.feed)
    else (c.queue.find? (fun b => b.ctx == p.ctx && b.item == p.item && b.point == p.point)).map (·.feed)
  | none => (Tab.get none c.held half).map (·.feed)

/-- The first coming pass of a table whose B tile is not wholly in the queue; consecutive passes on one tile replay it. -/
def Cluster.tableFetch (c : Cluster) (g k : Nat) (t : TableRun) (tab : LoopTable) : Nat → Nat → Option Feed → Option Fetch
  | 0, _, _ => none
  | n + 1, p, prev =>
    match t.nextFrom tab p with
    | (some p, _) =>
      match t.passAt tab p with
      | some pp =>
        let f := tab.feed g pp
        if pp.len = 0 ∨ (tab.replay ∧ prev.any (fun x => x.same f)) then c.tableFetch g k t tab n (p + 1) prev
        else
          let x : Fetch := ⟨t.item, p, tab.shape - 2, tab.shape, f, false⟩
          if c.queue.any (fun b => b.of k x && decide (f.size ≤ b.bytes)) then
            c.tableFetch g k t tab n (p + 1) (if tab.replay then some f else none)
          else some x
      | none => none
    | (none, _) => none

/-- The queue takes this many more of `n` bytes of a fetch. A pass that has not started is fetched only when the whole of its
tile fits, so that what is fetched ahead never keeps out the pass at the issue port (DESIGN CHOICE, assumption 81). -/
def Cluster.fetchRoom (c : Cluster) (k : Nat) (f : Fetch) (n : Nat) : Nat :=
  let got := match c.queue.find? (fun b => b.of k f) with | some b => b.bytes | none => 0
  let free := c.queueFree f.half f.shape
  if f.started ∨ f.feed.size - got ≤ free then min n (min free (f.feed.size - got)) else 0

/-- Make room for the pass at the issue port: what has been fetched ahead for others in its half is dropped, to be fetched again,
when no byte is free (DESIGN CHOICE, assumption 81). -/
def Cluster.makeRoom (c : Cluster) (k : Nat) (f : Fetch) : Cluster :=
  if f.started ∧ c.queueFree f.half f.shape = 0 then
    { c with queue := c.queue.filter (fun b => b.half != f.half ||
        c.issuing.any (fun p => p.ctx == b.ctx && p.item == b.item && p.point == b.point)) }
  else c

/-- Deliver up to `n` bytes of a fetch into the queue: slices are complete as their bytes arrive (R107). -/
def Device.deliver (s : Device) (g k : Nat) (f : Fetch) (n : Nat) : Device :=
  let s := s.modCluster g (fun c => c.makeRoom k f)
  let c := s.cluster g
  let full := f.feed.size
  let cur := c.queue.find? (fun b => b.of k f)
  let b := cur.getD ⟨k, f.item, f.point, f.half, f.feed, 0, 0, []⟩
  let bytes := b.bytes + c.fetchRoom k f n
  let have' := if full ≤ bytes then f.feed.len else bytes * f.feed.len / max full 1
  match (List.range f.feed.cols).find? (fun c => !s.backed (f.feed.addr + f.feed.pitch * c) (runBytes f.feed.fmt f.feed.len)) with
  | some c => s.unbacked (f.feed.addr + f.feed.pitch * c) false (dpCluster g 2 k 0xFF) (ctlStripe (stripeOf g)) (dOf g)
      (.context g k)
  | none =>
    let new := (List.range (have' - b.slices.length)).map (fun i => s.feedSlice f.feed (b.slices.length + i))
    let b := { b with bytes := bytes, slices := b.slices ++ new }
    s.modCluster g (fun c => { c with
      queue := if cur.isSome then c.queue.map (fun x => if x.of k f then b else x) else c.queue ++ [b] })

/-- The tile of a fetch can be read now: no part of it waits, and no word of it was found uncorrectable (R51, R54). -/
def Device.feedOpen (s : Device) (f : Feed) : Bool :=
  (List.range f.cols).all (fun c => !s.readWaits (f.addr + f.pitch * c) 1 &&
    s.sound (f.addr + f.pitch * c) (runBytes f.fmt f.len))

/-- The queue takes bytes only for the shape in force, or the one being entered (R111). -/
def Cluster.shapeOpen (c : Cluster) (shape : Nat) : Bool := c.target.getD c.shape == wholeShape shape

/-! ## Issue (R92, R93, R95, R99 to R101) -/

/-- The reduction indices of an issue cycle, and for Triple-BF16 which third of the six products (R67, R92)
(DEDUCED, assumption 20). -/
def cycleIndices (fmt len c : Nat) : List Nat :=
  if fmtGroup fmt = 6 then (if c / 3 < len then [c / 3] else [])
  else (List.range (perCycle fmt)).filterMap (fun i =>
    let t := c * perCycle fmt + i
    if t < len then some t else none)

/-- The value of an edge element (R61). -/
def edgeVal (fmt : Nat) (e : Elem) : FVal := valueOf fmt e.bits e.scale 0

/-- The products a pair of edge elements adds in one cycle, in order (R67, R69) (DEDUCED, assumption 20). -/
def pairProducts (fmtA fmtB phase : Nat) (a b : Elem) : List FVal :=
  if fmtGroup fmtA = 6 then
    let part (x : Elem) (i : Nat) : FVal := bf16.decode (x.bits / 65536 ^ i % 65536)
    let hi := (part a 0).mul (part b 0)
    let special := match part a 0, part b 0 with
      | .fin _ _ _, .fin _ _ _ => false
      | _, _ => true
    if special then (if phase = 2 then [hi] else [])
    else if phase = 0 then [(part a 2).mul (part b 0), (part a 0).mul (part b 2)]
    else if phase = 1 then [(part a 1).mul (part b 1), (part a 1).mul (part b 0)]
    else [(part a 0).mul (part b 1), hi]
  else [(edgeVal fmtA a).mul (edgeVal fmtB b)]

/-- What adding one product did: the value, whether it became a NaN, whether it overflowed (R71, R72). -/
structure AccStep where
  acc : Word
  nan : Nat
  ovf : Bool
  wraps : Nat
  deriving DecidableEq, Repr

/-- acc = round_ne(acc + product) (R69); INT8 adds modulo 2^32 and counts wraps (R63) (DEDUCED, assumption 19). -/
def accAdd (int8 : Bool) (x : AccStep) (p : FVal) : AccStep :=
  if int8 then
    let prod : Int := match p with | .fin s m _ => signed s m | _ => 0
    let sum := x.acc.toInt + prod
    let wrapped := decide (sum < -2147483648) || decide (2147483647 < sum)
    { x with acc := BitVec.ofInt 32 sum, wraps := x.wraps + (if wrapped then 1 else 0) }
  else if isNan32 x.acc then x
  else
    let (w, ovf) := round32 ((dec32 x.acc).add p)
    { x with acc := w, nan := x.nan + (if isNan32 w then 1 else 0), ovf := x.ovf || ovf }

/-- An element of the pass's A tile, from the input bank. -/
def Device.bankElem (s : Device) (g : Nat) (p : Pass) (r t : Nat) : Elem :=
  let w := edgeBits p.fmtA
  let row := clusterWindow g + 0x300000 + p.frame + r * p.pitch
  ⟨s.readBits row (t * w) w,
   if fmtMX p.fmtA then s.readNat (row + ceilDiv (p.red * w) 8 + t / 32) 1 else 0⟩

/-- The weight block a pass reads: its own in the queue, or the held block (R108). -/
def Cluster.blockOf (c : Cluster) (p : Pass) : Option WBlock :=
  if p.source = 2 then Tab.get none c.held p.half
  else c.queue.find? (fun b => b.ctx == p.ctx && b.item == p.item && b.point == p.point)

/-- The new accumulator values of an issue cycle over the active cells, in row order. -/
def Device.cycleCells (s : Device) (g : Nat) (p : Pass) (slices : List (List Elem)) : List (Nat × AccStep) :=
  let ks := cycleIndices p.fmtA p.len p.issued
  (List.range p.rows).flatMap (fun i =>
    let as := ks.map (fun t => s.bankElem g p i t)
    (List.range p.cols).map (fun j =>
      let a := accAddr g p.slot (cellIndex p.shape i j)
      let start : Word := if p.init ∧ p.issued = 0 then 0 else BitVec.ofNat 32 (s.readNat a 4)
      let prods := (List.range ks.length).flatMap (fun i =>
        pairProducts p.fmtA p.fmtB (p.issued % 3) (nth ⟨0, 0⟩ as i)
          (nth ⟨0, 0⟩ (nth [] slices (nth 0 ks i)) j))
      (a, prods.foldl (accAdd (decide (fmtGroup p.fmtA = 5))) ⟨start, 0, false, 0⟩)))

/-- A record naming a pass's cluster, slot and table (R72, R103, R113) (DESIGN CHOICE, assumption 32). -/
def passRec (code g : Nat) (p : Pass) : Rec :=
  { Rec.ofCluster code g 0 p.ctx p.slot with posKind := 4, pos := p.table + 0xFF0000 }

/-- The next issue cycle of a pass may go (R100, R101): weights present, and on the first cycle no readout of its slot. -/
def Device.issueReady (s : Device) (g : Nat) (p : Pass) : Bool :=
  let c := s.cluster g
  !s.arrayHeld g p.half && !p.faulted && c.target.isNone && (s.die (dOf g)).power != 2 &&
    (p.issued != 0 || !c.readouts.any (fun r => r.slot == p.slot)) &&
    (p.len == 0 ||
      (match c.blockOf p with
       | some b => (cycleIndices p.fmtA p.len p.issued).all (fun t => decide (t < b.slices.length))
       | none => false))

/-- The reduction indices a pass has used after `issued` cycles. -/
def Pass.indicesUsed (p : Pass) : Nat :=
  min p.len (if fmtGroup p.fmtA = 6 then p.issued / 3 else p.issued * perCycle p.fmtA)

/-- The queue after an issue cycle: streamed bytes leave as they are used, and after the last one a block that is to be held
stays (R108). -/
def Cluster.consume (c : Cluster) (p : Pass) (last : Bool) : Cluster :=
  let mine (b : WBlock) : Bool := b.ctx == p.ctx && b.item == p.item && b.point == p.point
  if p.source = 2 then c
  else if last then
    { c with
      held := if p.source = 1 then Tab.set none c.held p.half (c.queue.find? mine) else c.held
      queue := c.queue.filter (fun b => !mine b) }
  else if p.source = 0 then
    { c with queue := c.queue.map (fun b =>
        if mine b then { b with used := weightBytes b.feed.fmt p.indicesUsed b.feed.cols } else b) }
  else c

/-- One issue cycle of the pass at the issue port (R92, R93, R95). The waits before it count by their cause: weight bytes, input
tokens, and the readout of its slot (R100, R101). -/
def Device.issueCycle (s : Device) (g half weightWait inputWait slotWait : Nat) : Device :=
  match firstOfHalf (s.cluster g).issuing half with
  | none => s
  | some p =>
    if !s.issueReady g p then s
    else
      let slices := match (s.cluster g).blockOf p with | some b => b.slices | none => []
      let cells := s.cycleCells g p slices
      let s := cells.foldl (fun s e => s.writeNat e.1 4 e.2.acc.toNat) s
      let nans := (cells.map (·.2.nan)).foldl (· + ·) 0
      let ovf := cells.any (·.2.ovf)
      let s := (((s.bumpArray g 0 (if p.len = 0 then 0 else 1)).bumpArray g 1 weightWait).bumpArray g 2 inputWait).bumpArray
        g 5 nans
      let s := (s.bumpArray g 7 ((cells.map (·.2.wraps)).foldl (· + ·) 0)).bumpArray g 3 slotWait
      let s := if ovf && !p.overflowed then s.log1 (passRec Code.arrAccInf g p) else s
      let p := { p with issued := p.issued + 1, nan := p.nan || decide (nans ≠ 0), overflowed := p.overflowed || ovf }
      let last := decide (issueCycles p.fmtA p.len ≤ p.issued)
      s.modCluster g (fun c =>
        let c := c.consume p last
        if last then
          { c with issuing := dropPass c.issuing p.id, draining := c.draining ++ [p],
                   readouts := if p.readout = 0 then c.readouts else c.readouts ++ [p] }
        else { c with issuing := putPass c.issuing p })

/-- ARRAY_ISSUE_CYCLE (R101). -/
def execArrayIssueCycle (g half weightWait : Nat) (wait : EdgeWait) (s : State) : Host.Outcome State Fault Refusal :=
  .next (s.onDev (fun d => d.issueCycle g half weightWait wait.input wait.slot))

/-! ## Completion and readout (R98, R109, R110) -/

/-- The trap of a pass, and the tensor its record names: a walk's output has none (R72, R214). -/
def Device.passTrap (s : Device) (g : Nat) (p : Pass) : Bool × Nat :=
  if p.walk then ((s.walkRec (dOf g) p.table).trap, 0xFFFF)
  else let t := s.table (dOf g) p.table; (t.trap, t.tensor)

/-- A descriptor of a walk is complete: it is counted, and the first NaN of a trapping record holds the context (R239, R242). -/
def Device.descDone (s : Device) (g k item : Nat) (e : Desc) : Device :=
  let s := (s.bumpAtt g 0 1).bumpAtt g 1 (if e.isPartial then 1 else 0)
  match findWalk ((s.ctx g k).items ++ (s.ctx g k).other) item with
  | some r =>
    if r.nan && (s.walkRec (dOf g) r.num).trap then
      (s.modWalk g k item (fun r => { r with nan := false })).hold
        { Rec.ofCluster Code.arrNanTrap g 3 k 0xFF with posKind := 4, pos := r.num + 0xFF0000, vals := [(2, 0xFFFF)] }
        (.context g k)
    else s
  | none => s

/-- The gradient passes of a pair and block: two gradients, one slot for each 64 dimensions, chunk by chunk (R235). -/
def WGroup.gradPasses (x : WGroup) (width : Nat) : Nat := ceilDiv x.rows 64 * (2 * (width / 64))

/-- A pass of a walk has ended: in kinds 0 and 1 the last score pass of a page completes its descriptor, but for the group's
last, which the fold completes; in kind 2 the last gradient pass completes it (R223, R235, R239). -/
def Device.endWalkPass (s : Device) (g : Nat) (p : Pass) : Device :=
  let s := s.modWalk g p.ctx p.item (fun r => { (r.modGroup p.group (fun x =>
    if 2 ≤ p.stage then { x with ended := x.ended + 1 } else x)) with nan := r.nan || p.nan })
  match findWalk ((s.ctx g p.ctx).items ++ (s.ctx g p.ctx).other) p.item with
  | none => s
  | some r =>
    match r.groups.find? (fun x => x.id == p.group) with
    | none => s
    | some x =>
      let w := s.walkRec (dOf g) p.table
      if w.kind = 2 then
        if 3 ≤ p.stage ∧ x.gradPasses (s.geometry (dOf g)).width ≤ x.ended then
          match x.descs with
          | e :: _ => (s.modWalk g p.ctx p.item (fun r => { r with groups := r.groups.filter (fun y => y.id != x.id) })).descDone
              g p.ctx p.item e
          | [] => s
        else s
      else if p.stage = w.kind ∧ p.part % 2 = 1 then
        match x.descs[p.part / 2]? with
        | some e => if e.lastOfGroup then s else s.descDone g p.ctx p.item e
        | none => s
      else s

/-- A pass that has both completed and been read out, its epilogue rows run, ends; a trapping pass that produced a NaN holds
its context (R72). -/
def Device.endPass (s : Device) (g : Nat) (p : Pass) : Device :=
  let c := s.cluster g
  if (c.draining ++ c.readouts ++ c.issuing).any (fun x => x.id == p.id) then s
  else if p.walk then s.endWalkPass g p
  else
    let s := s.modTable g p.ctx p.item (fun t => { t with outstanding := t.outstanding - 1 })
    let (trap, tensor) := s.passTrap g p
    if trap && p.nan && !p.faulted then s.hold { passRec Code.arrNanTrap g p with vals := [(2, tensor)] } (.context g p.ctx)
    else s

/-- Rows of a pass still wait for their invocation, or run. -/
def Cluster.rowsOpen (c : Cluster) (id : Nat) : Bool :=
  c.epilogue.any (fun r => r.pass.id == id) ||
    (c.invocation.toList ++ c.stopped).any (fun v => v.pass.any (fun p => p.id == id))

/-- A pass whose epilogue rows still run stays among the draining passes until the last of them has (R72). -/
def Device.settlePass (s : Device) (g : Nat) (p : Pass) : Device :=
  let c := s.cluster g
  if p.readout = 3 ∧ p.row = p.rows ∧ ¬c.readouts.any (fun x => x.id == p.id) ∧ ¬c.rowsOpen p.id ∧ p.drained then
    (s.modCluster g (fun c => { c with draining := dropPass c.draining p.id })).endPass g p
  else s

/-- PASS_COMPLETE (R98). -/
def Device.passComplete (s : Device) (g half : Nat) : Device :=
  match (s.cluster g).draining.find? (fun p => p.half == half && !p.drained) with
  | none => s
  | some p =>
    let s := if p.len = 0 then
        (s.bumpArray g 8 1).log1 { passRec Code.arrEmptyReduction g { p with slot := 0xFF } with key := 2 } else s
    if p.readout = 3 then
      let p := { p with drained := true }
      (s.modCluster g (fun c => { c with draining := putPass c.draining p })).settlePass g p
    else (s.modCluster g (fun c => { c with draining := dropPass c.draining p.id })).endPass g p

def execPassComplete (g half : Nat) (s : State) : Host.Outcome State Fault Refusal :=
  .next (s.onDev (fun d => d.passComplete g half))

/-- The value of an accumulator cell of a pass. -/
def Device.accVal (s : Device) (g : Nat) (p : Pass) (i j : Nat) : Word :=
  BitVec.ofNat 32 (s.readNat (accAddr g p.slot (cellIndex p.shape i j)) 4)

/-- The stochastic bits of an output element (R84, R86). -/
def Device.uBits (s : Device) (mode tensor e : Nat) : Nat :=
  if mode = 2 then roundBits s.job.keyRound s.job.step tensor e else 0

/-- The address of output element (r, c) of a tile (R134, R190). -/
def outAddr (tab : LoopTable) (w : Option Window) (base m r c : Nat) : Nat :=
  let eb := outBytes tab.fmtO
  match w with
  | some v => if v.planarOut then base + c * 64 * tab.pitchO + r * eb else base + 64 * tab.pitchO * r + c * eb
  | none => base + 64 * tab.pitchO * r + c * eb

/-- The element index of R141. -/
def elemIndex (tab : LoopTable) (gOff m n r c : Nat) : Nat := gOff + (m + r) * tab.coverage 1 + n + c

/-- Count saturations of a tensor on a die (R65, R311). -/
def Device.countSat (s : Device) (d tensor n : Nat) : Device :=
  if n = 0 then s else s.modDie d (fun x => { x with satCount := Tab.set 0 x.satCount tensor (Tab.get 0 x.satCount tensor + n) })

/-- Add a partial into a gradient element in memory by R65: the bytes to write, and the saturations it counts. -/
def Device.gradAdd (s : Device) (d tensor a : Nat) (v : Word) : List Byte × Nat :=
  let q := grad16 (s.readNat a 2)
  let r := convertAdd v q.1 (s.expo d tensor)
  (leBytes 2 (wrapInt 16 r.1), (if q.2 then 1 else 0) + (if r.2 then 1 else 0))

/-- A Microscaling block of output values: the element bytes, the scale byte, saturations and NaNs (R79, R168). Lanes
that are not valid are `none`; their fields are zero. -/
def mxBlock (fmt mode : Nat) (u : Nat → Nat) (vs : List (Option Word)) : List Byte × Byte × Nat × Nat :=
  let scale := mxScale fmt (vs.filterMap id)
  let cs := (List.range 32).map (fun i =>
    match nth none vs i with
    | some v => mxElem fmt mode (u i) scale v
    | none => ⟨0, false, false⟩)
  (leBytes (mxBlockBytes fmt) (packBits (fmtBits fmt) (cs.map (·.enc))), BitVec.ofNat 8 scale,
   (cs.filter (·.sat)).length, (cs.filter (·.nan)).length)

/-- What an output row writes: byte runs, saturations, NaNs, and saturations of the tensor. -/
structure RowOut where
  runs : List (Nat × List Byte)
  sat : Nat
  nan : Nat
  tensorSat : Nat
  deriving DecidableEq, Repr

/-- A row of converted or raw output (R110, R140): `vs` are the valid columns' values from column `c0`. Microscaling blocks and
their scale bytes lie as R514 says under the planar layout too, whose address in R190 is of elements of whole bytes
(DESIGN CHOICE, assumption 22). -/
def Device.rowOut (s : Device) (g : Nat) (tab : LoopTable) (p : Pass) (form r c0 : Nat) (vs : List (Option Word)) :
    RowOut :=
  let w := s.window (dOf g) p.table
  let u (c : Nat) : Nat := s.uBits tab.rounding tab.tensor (elemIndex tab p.gOff p.m p.n r c)
  if fmtMX tab.fmtO ∧ form ≠ 1 then
    (List.range (ceilDiv vs.length 32)).foldl (fun o b =>
      let part := (vs.drop (32 * b)).take 32
      if part.all (·.isNone) then o
      else
        let c := c0 + 32 * b
        let (bytes, scale, sat, nan) := mxBlock tab.fmtO tab.rounding (fun i => u (c + i)) part
        { o with
          runs := o.runs ++ [(p.addrO + 64 * tab.pitchO * r + c / 32 * mxBlockBytes tab.fmtO, bytes),
            (tab.scaleArray (localBase false g tab.baseO) false + elemIndex tab p.gOff p.m p.n r c / 32, [scale])]
          sat := o.sat + sat, nan := o.nan + nan }) ⟨[], 0, 0, 0⟩
  else
    (List.range vs.length).foldl (fun o i =>
      match nth none vs i with
      | none => o
      | some v =>
        let c := c0 + i
        let a := outAddr tab w p.addrO p.m r c
        if form = 1 ∨ tab.fmtO = 0xD then
          { o with runs := o.runs ++ [(a, leBytes 4 v.toNat)], nan := o.nan + (if form ≠ 1 ∧ isNan32 v ∧ tab.fmtO = 0 then 1 else 0) }
        else if tab.fmtO = 0xC then
          let (b, sat) := s.gradAdd (dOf g) tab.tensor a v
          { o with runs := o.runs ++ [(a, b)], tensorSat := o.tensorSat + sat, nan := o.nan + (if isNan32 v then 1 else 0) }
        else
          let k := convertBare tab.fmtO tab.rounding (u c) v
          { o with runs := o.runs ++ [(a, leBytes (outBytes tab.fmtO) k.enc)], sat := o.sat + (if k.sat then 1 else 0),
                   nan := o.nan + (if k.nan then 1 else 0) }) ⟨[], 0, 0, 0⟩

/-- The rows of a gradient tile of a kind-2 walk: 64 dimensions of the pair's keys, in FP32, the first page's rows from `addrO` on
and the second's from `addrC` on (R215, R235). -/
def Device.gradRows (s : Device) (g : Nat) (p : Pass) : List (Nat × List Byte) :=
  let width := (s.geometry (dOf g)).width
  (List.range p.rows).map (fun r =>
    ((if r < 16 then p.addrO else p.addrC) + r % 16 * width * 4,
     (List.range p.cols).flatMap (fun j => leBytes 4 (s.accVal g p r j).toNat)))

/-- What the readout of a pass writes when its last row has been emitted and no word of it was faulted: the whole tile, or what
the rows of its epilogue have stored so far (R113) (DEDUCED, assumption 23). -/
def Device.tileOut (s : Device) (g : Nat) (p : Pass) : RowOut :=
  if p.readout = 5 ∨ p.faulted then ⟨[], 0, 0, 0⟩
  else if p.readout = 3 then ⟨((s.cluster g).outbuf.filter (fun e => e.1 == p.id)).map (·.2), 0, 0, 0⟩
  else if p.walk then ⟨s.gradRows g p, 0, 0, 0⟩
  else
    let tab := s.table (dOf g) p.table
    let outs := (List.range p.rows).map (fun r =>
      s.rowOut g tab p p.readout r 0 ((List.range p.cols).map (fun c => some (s.accVal g p r c))))
    ⟨outs.flatMap (·.runs), (outs.map (·.sat)).foldl (· + ·) 0, (outs.map (·.nan)).foldl (· + ·) 0,
     (outs.map (·.tensorSat)).foldl (· + ·) 0⟩

/-- The readout of a pass ends: its tile is written, and the saturations and NaNs of its conversion are counted (R72, R77). -/
def Device.endReadout (s : Device) (g : Nat) (p : Pass) (o : RowOut) : Device :=
  let s := o.runs.foldl (fun s e => s.write e.1 e.2) s
  let s := ((s.bumpArray g 6 o.sat).bumpArray g 5 (if p.readout = 2 then o.nan else 0)).countSat (dOf g) (s.passTrap g p).2 o.tensorSat
  let p := { p with nan := p.nan || (p.readout != 1 && decide (o.nan ≠ 0)),
                    drained := (s.cluster g).draining.any (fun x => x.id == p.id && x.drained) }
  let s := s.modCluster g (fun c => { c with
    outbuf := c.outbuf.filter (fun e => e.1 != p.id)
    readouts := dropPass c.readouts p.id, draining := putPass c.draining p })
  if p.readout = 3 then s.settlePass g p else s.endPass g p

/-- Units of 64 values in a context's epilogue queue (R153). -/
def Cluster.queueUnits (c : Cluster) (k : Nat) : Nat :=
  ((c.epilogue.filter (fun r => r.pass.ctx == k)).map (fun r => if r.pass.shape = 1 then 4 else 1)).foldl (· + ·) 0

/-- READOUT_ROW (R109): the next row of the half's first readout; the last row ends the readout (DEDUCED, assumption 23). A tile
that would reach an address without memory holds its context and is not written; a later READOUT_ROW, after a RETRY, tries again
(R33). A row of a walk's pass may go to the softmax pipe instead (R229); its wait is one for the fold (R242). -/
def Device.readoutRow (s : Device) (g half waited : Nat) : Device :=
  let c := s.cluster g
  match firstOfHalf c.readouts half with
  | none => s
  | some p =>
    let units := if p.shape = 1 then 4 else 1
    let last := decide (p.rows ≤ p.row + 1)
    let o := if last then s.tileOut g p else ⟨[], 0, 0, 0⟩
    if p.readout = 3 ∧ 64 < c.queueUnits p.ctx + units then s
    else if o.runs.any (fun e => s.writeWaits e.1 e.2.length) then s
    else if let some e := o.runs.find? (fun e => !s.writable e.1 e.2.length) then
      if s.isHeld (.context g p.ctx) then s
      else s.unbacked e.1 (s.backed e.1 e.2.length) (dpCluster g 2 p.ctx 0xFF) (ctlStripe (stripeOf g)) (dOf g) (.context g p.ctx)
    else
      let s := if p.readout = 5 then s.bumpAtt g 3 waited
        else (s.bumpArray g 3 waited).bumpVec g 3 (if p.readout = 3 then waited else 0)
      let vals := (List.range p.cols).map (fun j => s.accVal g p p.row j)
      let s := if p.faulted then s
        else if p.readout = 3 then s.modCluster g (fun c => { c with epilogue := c.epilogue ++ [⟨p, p.row, vals⟩] })
        else if p.readout = 5 then
          s.modCluster g (fun c => { c with pipe := c.pipe ++ [⟨p.item, p.group, p.stage, p.part, p.row, vals⟩] })
        else s
      let p := { p with row := p.row + 1 }
      if last then s.endReadout g p o else s.modCluster g (fun c => { c with readouts := putPass c.readouts p })

def execReadoutRow (g half waited : Nat) (s : State) : Host.Outcome State Fault Refusal :=
  .next (s.onDev (fun d => d.readoutRow g half waited))

/-! ## Changing shape (R111) -/

/-- The shape the item a context stands at needs, if it needs the array. -/
def Device.headShape (s : Device) (g k : Nat) : Option Nat :=
  match s.headItem g k with
  | some (.table t) => some (wholeShape (s.table (dOf g) t.num).shape)
  | some (.walk w) => some (if (s.walkRec (dOf g) w.num).kind = 2 then 0 else 1)
  | _ => none

/-- A walk whose held block has gone streams and holds again at its next pass (R111, R138). -/
def Item.requeue : Item → Item
  | .walk w => .walk { w with requeue := true }
  | i => i

/-- The weight queue forgets every block, so each context fetches again from its next pass (R111). -/
def Device.dropQueue (s : Device) (g : Nat) : Device :=
  let s := s.modCluster g (fun c => { c with queue := [], held := [] })
  (List.range 4).foldl (fun s k => s.modCtx g k (fun c => { c with
    items := c.items.map Item.requeue, other := c.other.map Item.requeue })) s

/-- SHAPE_CHANGE (R111): nothing in flight, no half held, and a head item needs another shape. -/
def Device.shapeChange (s : Device) (g : Nat) : Device :=
  let c := s.cluster g
  match ((List.range 4).filterMap (s.headShape g)).find? (fun sh => sh != c.shape) with
  | none => s
  | some sh =>
    if c.inFlight.isEmpty && c.target.isNone && !s.isHeld (.array g 0) && !s.isHeld (.array g 1) then
      ((s.dropQueue g).modCluster g (fun c => { c with target := some sh })).bumpArray g 4 1
    else s

def execShapeChange (g : Nat) (s : State) : Host.Outcome State Fault Refusal :=
  .next (s.onDev (fun d => d.shapeChange g))

/-- SHAPE_RECONFIG_DONE (R111). -/
def Device.shapeDone (s : Device) (g : Nat) : Device :=
  match (s.cluster g).target with
  | none => s
  | some sh => s.modCluster g (fun c => { c with shape := sh, target := none })

def execShapeReconfigDone (g : Nat) (s : State) : Host.Outcome State Fault Refusal :=
  .next (s.onDev (fun d => d.shapeDone g))

/-! ## Starting a pass (R103, R108, R138) -/

/-- The pass a table run starts next, with its weight source; `frame` is where its A tile lies. -/
def Device.makePass (s : Device) (g k : Nat) (t : TableRun) (tab : LoopTable) (p : Nat) (pp : PointPass) (frame : Nat) :
    Pass :=
  let c := s.cluster g
  let held := (Tab.get none c.held (tab.shape - 2)).any (fun b => b.feed.same (tab.feed g pp))
  let so := sumOver (·.sO) pp.pt
  let sc := sumOver (·.sC) pp.pt
  let w := s.window (dOf g) t.num
  let planar := match w with | some v => v.planarOut | none => false
  let off := if planar && !fmtMX tab.fmtO then pp.n * 64 * tab.pitchO + pp.m * outBytes tab.fmtO else 0
  { id := c.nextPass, ctx := k, play := s.playIn g k, item := t.item, table := t.num, point := p,
    shape := tab.shape, fmtA := tab.fmtA, fmtB := tab.fmtB, k0 := pp.k, len := pp.len, rows := pp.rows, cols := pp.cols,
    slot := pp.slot, init := pp.init, readout := if pp.readout then tab.form + 1 else 0,
    source := if tab.replay ∧ pp.len ≠ 0 then (if held then 2 else 1) else 0,
    frame := frame, pitch := framePitch tab.fmtA tab.red, red := tab.red, fmtO := tab.fmtO,
    walk := false, stage := 0, group := 0, part := 0, m := pp.m, n := pp.n, gOff := gOffset pp.pt,
    addrO := addInt tab.baseO so + off, addrC := addInt tab.baseC sc + off,
    issued := 0, row := 0, nan := false, overflowed := false, faulted := false, drained := false }

/-- The slot tag of a pass shape (R103): 1 crown, 2 brim, 3 half 0, 4 half 1. -/
def shapeTag (sh : Nat) : Nat := sh + 1

/-- Readout bytes a pass takes from the 32 KiB write buffer (R386): none without readout, with an epilogue or to the pipe. -/
def Pass.bufferBytes (p : Pass) : Nat :=
  if p.readout = 0 ∨ p.readout = 3 ∨ p.readout = 5 then 0 else roundUp (ceilDiv (p.rows * p.cols * fmtBits p.fmtO) 8) 64

def Cluster.bufferUsed (c : Cluster) : Nat := ((c.issuing ++ c.readouts).map Pass.bufferBytes).foldl (· + ·) 0

/-- A pass takes the issue port: its frame becomes the most recently used, its slot takes its tag, and unless it replays, the held
block goes and its own block is to be fetched (R103, R108, R136, R138). -/
def Cluster.enter (c : Cluster) (p : Pass) (key : List Nat) (feed : Feed) : Cluster :=
  let mine (b : WBlock) : Bool := b.ctx == p.ctx && b.item == p.item && b.point == p.point
  { c with
    nextPass := c.nextPass + 1
    issuing := c.issuing ++ [p]
    frames := (c.frames.filter (fun b => b.key != key)) ++
      ((c.frames.filter (fun b => b.key == key)).map (fun b => { b with fresh := false }))
    slotTags := if p.init then Tab.set 0 c.slotTags p.slot (shapeTag p.shape) else c.slotTags
    held := if p.source = 2 ∨ p.len = 0 then c.held else Tab.set none c.held p.half none
    queue := if p.source = 2 ∨ p.len = 0 then c.queue.filter (fun b => !mine b)
      else if c.queue.any mine then c.queue
      else c.queue ++ [⟨p.ctx, p.item, p.point, p.half, feed, 0, 0, []⟩] }

/-- Start a pass of a table: the walk moves on, and what R148 counts is counted (R129). -/
def Device.startPass (s : Device) (g k : Nat) (t : TableRun) (tab : LoopTable) (p : Pass) (pp : PointPass)
    (key : List Nat) : Device :=
  let hit := (s.cluster g).frameOf key pp.rows pp.len |>.any (fun b => !b.fresh)
  let s := s.modCluster g (fun c => c.enter p key (tab.feed g pp))
  let nx := t.nextFrom tab (p.point + 1)
  let s := s.modTable g k t.item (fun t => { t with pos := nx.1.getD tab.points, outstanding := t.outstanding + 1 })
  (((s.bumpLoop g 2 nx.2).bumpLoop g 3 (if pp.masked then 1 else 0)).bumpLoop g 5 (if hit then 1 else 0)).bumpLoop g 6
    (if p.source = 2 then 1 else 0)

end Sys2Proof.Machine
end

