-- ==== Sys2Proof/Machine/Special.lean ====
section
/-! DEFINITION. The six functions of the special-function unit (R163): the exact result, correctly rounded. RCP and RSQ
are computed in exact integers; EXP, LOG, TANH and ERF to about 2^-240 in 256-bit fixed point, which DEDUCED (assumption 7)
decides every rounding to FP32. -/

namespace Sys2Proof.Machine

/-- The fixed point: values are multiples of 2^-256. -/
def fxOne : Int := 2 ^ 256
/-- ln 2, in fixed point. -/
def fxLn2 : Int := 0xb17217f7d1cf79abc9e3b39803f2f6af40f343267298b62d8a0d175b8baafa2b
/-- 2 divided by the square root of pi, in fixed point. -/
def fxTwoOverRootPi : Int := 0x120dd750429b6d11ae3a914fed7fd8688281341d7587cea2e7342b06199cc4161

def fxMul (a b : Int) : Int := (a * b) / fxOne

/-- A finite value in fixed point; exact, since FP32 reaches 2^-149. -/
def FVal.fx : FVal → Int
  | .fin s m e => signed s (m * 2 ^ (e + 256).toNat)
  | _ => 0

/-- A fixed-point result that is not exact: a bit below it is set, so that no rounding sees a tie. -/
def fxInexact (x : Int) : FVal := .fin (decide (x < 0)) (2 * x.natAbs + 1) (-257)

/-- The exponential series from term `k`, `n` terms on. -/
def fxExpSeries : Nat → Nat → Int → Int → Int
  | 0, _, _, _ => 0
  | n + 1, k, term, x =>
    let term := fxMul term x / (k : Int)
    term + fxExpSeries n (k + 1) term x

/-- e^x for x in fixed point, as a fixed-point number and a power of two. -/
def fxExp (x : Int) : Int × Int :=
  let k := (2 * x + fxLn2) / (2 * fxLn2)
  (fxOne + fxExpSeries 64 1 fxOne (x - k * fxLn2), k)

/-- The odd series s + s^3/3 + ..., `n` terms. -/
def fxAtanhSeries : Nat → Nat → Int → Int → Int
  | 0, _, _, _ => 0
  | n + 1, k, pow, s2 => pow / (k : Int) + fxAtanhSeries n (k + 2) (fxMul pow s2) s2

/-- ln of a positive finite value. -/
def fxLog (m : Nat) (e : Int) : Int :=
  let lg := Nat.log2 m
  let x : Int := m * 2 ^ (256 - lg)
  let s := ((x - fxOne) * fxOne) / (x + fxOne)
  2 * fxAtanhSeries 90 1 s (fxMul s s) + (e + lg) * fxLn2

/-- The series of erf: term k is (-1)^k x^(2k+1) / k!, divided by 2k+1. -/
def fxErfSeries : Nat → Nat → Int → Int → Int
  | 0, _, _, _ => 0
  | n + 1, k, term, x2 =>
    term / ((2 * k + 1 : Nat) : Int) + fxErfSeries n (k + 1) (-(fxMul term x2 / ((k + 1 : Nat) : Int))) x2

/-- The integer square root by bits: the largest r with r^2 * m at most `t`. -/
def rootBits (m t : Nat) : Nat → Nat → Nat
  | 0, r => r
  | i + 1, r => rootBits m t i (if (r + 2 ^ i) * (r + 2 ^ i) * m ≤ t then r + 2 ^ i else r)

def f32One : FVal := .fin false 1 0

def sfuExp (v : FVal) : FVal :=
  match v with
  | .nan => .nan
  | .inf s => if s then .fin false 0 0 else .inf false
  | .fin s m e =>
    if m = 0 then f32One
    else if 128 * 2 ^ 256 ≤ (FVal.fin s m e).fx then .inf false
    else if (FVal.fin s m e).fx ≤ -(128 * 2 ^ 256) then .fin false 0 0
    else
      let r := fxExp (FVal.fin s m e).fx
      (fxInexact r.1).scale r.2

def sfuLog (v : FVal) : FVal :=
  match v with
  | .nan => .nan
  | .inf s => if s then .nan else .inf false
  | .fin s m e =>
    if m = 0 then .inf true
    else if s then .nan
    else if FVal.cmp (.fin s m e) f32One = 0 then .fin false 0 0
    else fxInexact (fxLog m e)

def sfuRcp (v : FVal) : FVal :=
  match v with
  | .nan => .nan
  | .inf s => .fin s 0 0
  | .fin s m e =>
    if m = 0 then .inf s
    else .fin s (2 * (2 ^ 80 / m) + (if 2 ^ 80 % m = 0 then 0 else 1)) (-81 - e)

def sfuRsq (v : FVal) : FVal :=
  match v with
  | .nan => .nan
  | .inf s => if s then .nan else .fin false 0 0
  | .fin s m e =>
    if m = 0 then .inf s
    else if s then .nan
    else
      let odd := decide (e % 2 ≠ 0)
      let m := if odd then 2 * m else m
      let e := if odd then e - 1 else e
      let r := rootBits m (2 ^ 160) 81 0
      .fin false (2 * r + (if r * r * m = 2 ^ 160 then 0 else 1)) (-81 - e / 2)

def sfuTanh (v : FVal) : FVal :=
  match v with
  | .nan => .nan
  | .inf s => .fin s 1 0
  | .fin s m e =>
    if m = 0 then .fin s 0 0
    else if 32 * 2 ^ 256 ≤ (FVal.fin false m e).fx then .fin s 1 0
    else
      let r := fxExp (2 * (FVal.fin false m e).fx)
      let y := r.1 * 2 ^ r.2.toNat
      let t := fxInexact (((y - fxOne) * fxOne) / (y + fxOne))
      if s then t.neg else t

def sfuErf (v : FVal) : FVal :=
  match v with
  | .nan => .nan
  | .inf s => .fin s 1 0
  | .fin s m e =>
    if m = 0 then .fin s 0 0
    else if 6 * 2 ^ 256 ≤ (FVal.fin false m e).fx then .fin s 1 0
    else
      let x := (FVal.fin false m e).fx
      let t := fxInexact (fxMul fxTwoOverRootPi (fxErfSeries 220 0 x (fxMul x x)))
      if s then t.neg else t

end Sys2Proof.Machine
end

