-- ==== Sys2Proof/Machine/Vector.lean ====
section
/-! DEFINITION. The vector unit: invocations, instruction words and the effect of every instruction (R150 to R175). -/

namespace Sys2Proof.Machine

/-! ## Instruction words (R158, R159) -/

/-- The 64-bit word of the general layout. -/
def vword (op : Nat) (f : VFields) : Nat :=
  op * 2 ^ 56 + f.vd.toNat * 2 ^ 51 + f.va.toNat * 2 ^ 46 + f.vb.toNat * 2 ^ 41 + f.vc.toNat * 2 ^ 36 +
    f.pg.toNat * 2 ^ 33 + (if f.zm then 2 ^ 32 else 0) + f.imm.toNat

/-- Word `i` of a context's program store; beyond the section it is zero, a NOP (R150) (DESIGN CHOICE, assumption 25). -/
def Device.progWord (s : Device) (g k i : Nat) : Nat := fld (s.sec 0x18 (dOf g) (qOf g) k) (8 * i) 8

/-- The invocation running on a cluster's vector unit, if its context does not hold. -/
def Device.inv (s : Device) (g : Nat) : Option Invocation :=
  match (s.cluster g).invocation with
  | some v => if s.isHeld (.vector g v.ctx) || decide (8192 ≤ v.executed) then none else some v
  | none => none

/-- The invocation, when the word it stands at is the given one (R160). -/
def Device.invAt (s : Device) (g w : Nat) : Option Invocation :=
  match s.inv g with
  | some v => if s.progWord g v.ctx v.pc = w then some v else none
  | none => none

/-! ## Registers -/

def Invocation.reg (v : Invocation) (r : BitVec 5) : Lanes := Tab.get Lanes.zero v.regs r.toNat
/-- Predicate p0 reads all ones (R150). -/
def Invocation.pred (v : Invocation) (p : Nat) : BitVec 64 :=
  if p % 8 = 0 then BitVec.allOnes 64 else Tab.get 0 v.preds (p % 8)

def lane (l : Lanes) (i : Nat) : Word := (l[i]?).getD 0
def mkLanes (f : Nat → Word) : Lanes := Vector.ofFn (fun i => f i.val)

/-- Write lanes under the governing predicate (R158): inactive lanes keep their value, or take +0. -/
def Invocation.setReg (v : Invocation) (f : VFields) (val : Nat → Word) : Invocation :=
  let old := v.reg f.vd
  let act := v.pred f.pg.toNat
  { v with regs :=
            Tab.set Lanes.zero v.regs f.vd.toNat
              (mkLanes (fun i => if act.getLsbD i then val i else if f.zm then 0 else lane old i)) }

/-- Write a predicate whole; p0 cannot be written (R150). -/
def Invocation.setPredAll (v : Invocation) (p : Nat) (b : BitVec 64) : Invocation :=
  if p % 8 = 0 then v else { v with preds := Tab.set 0 v.preds (p % 8) b }

/-- Write a predicate under the governing predicate (R158). -/
def Invocation.setPred (v : Invocation) (f : VFields) (p : Nat) (val : Nat → Bool) : Invocation :=
  let act := v.pred f.pg.toNat
  let old := v.pred p
  v.setPredAll p (BitVec.ofBoolListLE ((List.range 64).map (fun i =>
    if act.getLsbD i then val i else if f.zm then false else old.getLsbD i)) |>.setWidth 64)

/-! ## Advancing -/

/-- The instruction is done: the pc moves on, and its cycles are counted (R159, R177). -/
def Device.retireTo (s : Device) (g : Nat) (v : Invocation) (pc cycles sfu : Nat) : Device :=
  ((s.modCluster g (fun c => { c with invocation := some { v with pc := pc, executed := v.executed + 1 } })).bumpVec
    g 0 cycles).bumpVec g 1 sfu

def Device.retire (s : Device) (g : Nat) (v : Invocation) (cycles : Nat) : Device := s.retireTo g v (v.pc + 1) cycles 0

/-- An instruction that only changes the invocation's registers. -/
def Device.vreg (s : Device) (g op : Nat) (f : VFields) (cycles : Nat) (h : Invocation → Invocation) : Device :=
  match s.invAt g (vword op f) with
  | some v => s.retire g (h v) cycles
  | none => s

/-- Lane-wise operations of two and of one source. -/
def Device.vlane2 (s : Device) (g op : Nat) (f : VFields) (h : Word → Word → Word) : Device :=
  s.vreg g op f 1 (fun v => v.setReg f (fun i => h (lane (v.reg f.va) i) (lane (v.reg f.vb) i)))
def Device.vlane1 (s : Device) (g op : Nat) (f : VFields) (h : Word → Word) : Device :=
  s.vreg g op f 1 (fun v => v.setReg f (fun i => h (lane (v.reg f.va) i)))

/-- Lanes active under pg, in order. -/
def Invocation.active (v : Invocation) (f : VFields) : List Nat :=
  (List.range 64).filter (fun i => (v.pred f.pg.toNat).getLsbD i)

/-! ## Starting and ending (R153, R156) -/

/-- The start of an invocation: registers and predicates read as zero (R151). -/
def newInv (k kind item index rho n r cols segs entry : Nat) (pass : Option Pass) (row : List Word) (expo : Int) :
    Invocation :=
  ⟨k, kind, item, index, entry, 0, rho, n, r, cols, segs, 0, 0, 0, none, pass, row, [], [], false, expo, [], []⟩

/-- The row number of an epilogue row (R152). -/
def epiRho (tab : LoopTable) (gOff m r : Nat) : Nat := (gOff + (m + r) * tab.coverage 1) / max 1 (tab.coverage 1)

/-- An item may still give rows to the vector unit: a table with an epilogue, a forward walk, a vector pass or a crop. -/
def Device.rowsPending (s : Device) (g : Nat) : Item → Bool
  | .table t => let tab := s.table (dOf g) t.num; tab.form == 2 && !(t.done tab && decide (t.outstanding = 0))
  | .walk w => (s.walkRec (dOf g) w.num).kind == 0 && !(s.cluster g).walkOver w
  | .rows r => (!r.field || (s.fieldDesc (dOf g) (qOf g) r.index).kind == 2) && decide (r.next < s.itemRows (dOf g) (qOf g) r)

/-- The item of a context whose rows may run: every row of an earlier item of the play runs before any of a later one (R156). -/
def Device.rowItem (s : Device) (g k : Nat) : Option Item := (s.ctx g k).items.find? (s.rowsPending g)

/-- Nothing of an item is outstanding. -/
def Device.itemFinished (s : Device) (g : Nat) (i : Item) : Bool :=
  match i with
  | .table t => t.done (s.table (dOf g) t.num) && decide (t.outstanding = 0)
  | .walk w => (s.cluster g).walkOver w
  | .rows r => decide (s.itemRows (dOf g) (qOf g) r ≤ r.next)

/-- The vector pass or crop row a context would run next (R155, R156). -/
def Device.nextRow (s : Device) (g k : Nat) : Option RowRun :=
  match s.rowItem g k with
  | some (.rows r) => if r.next < r.granted ∧ ¬ s.isHeld (.vector g k) ∧ ¬ s.isHeld (.context g k) then some r else none
  | _ => none

def updRows (l : List Item) (item : Nat) (f : RowRun → RowRun) : List Item :=
  l.map (fun i => match i with
    | .rows r => if r.item = item then .rows (f r) else .rows r
    | i => i)

def Device.modRows (s : Device) (g k item : Nat) (f : RowRun → RowRun) : Device :=
  s.modCtx g k (fun c => { c with items := updRows c.items item f, other := updRows c.other item f })

/-- A vector pass or field descriptor whose rows have all run completes and posts its token (R155, R194, R384); a NaN
trap holds only what follows it (R72). -/
def Device.settleRows (s : Device) (g k item : Nat) : Device :=
  match (s.quad (dOf g) (qOf g)).issues.find? (fun i => i.id == item && decide (3 ≤ i.kind)),
      ((s.ctx g k).items ++ (s.ctx g k).other).find? (fun i => i.id == item) with
  | some i, some (.rows r) =>
    if s.itemRows (dOf g) (qOf g) r ≤ r.next then
      s.endIssue (dOf g) (qOf g) i
    else s
  | _, _ => s

/-- Contexts in rotation after the one last served (R156). -/
def Cluster.rotation (c : Cluster) : List Nat := (List.range 4).map (fun i => (c.lastVec + 1 + i) % 4)

/-- The first epilogue row whose context does not hold and whose item's rows are due (R156, R174). -/
def Device.firstEpi (s : Device) (g : Nat) : Option EpiRow :=
  (s.cluster g).epilogue.find? (fun r => !s.isHeld (.vector g r.pass.ctx) &&
    (s.rowItem g r.pass.ctx).all (fun i => i.id == r.pass.item))

/-- The first closing row of a walk that waits in a context (R230). -/
def Device.nextClosing (s : Device) (g k : Nat) : Option (WalkRun × Nat) :=
  match s.rowItem g k with
  | some (.walk w) => if s.isHeld (.vector g k) then none else (w.closing.head?).map (fun r => (w, r))
  | _ => none

/-! ## Reading row data (R153, R154, R167) -/

/-- Lane values of a row as IN delivers them: FP32 and INT32 unchanged (R153, R167), others converted under R74; an INT16 value
of −32,768 counts a saturation (R64). -/
def lanesOf (fmt : Nat) (expo : Int) (vals : List (Nat × Nat)) : List Word :=
  vals.map (fun e =>
    if fmt = 0 ∨ fmt = 0xD then BitVec.ofNat 32 e.1 else enc32 (valueOf fmt e.1 e.2 expo))

/-- Lane values of a C row, converted under R74 to FP32 (R159). -/
def lanesOfC (fmt : Nat) (expo : Int) (vals : List (Nat × Nat)) : List Word :=
  vals.map (fun e => enc32 (valueOf fmt e.1 e.2 expo))

def sat16 (fmt : Nat) (vals : List (Nat × Nat)) : Nat :=
  if fmt = 0xC then (vals.filter (fun e => e.1 % 65536 == 0x8000)).length else 0

/-- `n` elements of whole bytes at an address. -/
def Device.readRow (s : Device) (fmt a n : Nat) : List (Nat × Nat) :=
  (List.range n).map (fun i => (s.readNat (a + i * outBytes fmt) (outBytes fmt), 0))

/-- The exponent a vector pass reads its INT16 input with (R154). -/
def Device.vpassExpo (s : Device) (d : Nat) (v : VPass) : Int :=
  if s.planTensors.any (fun t => fld t 0 2 == v.tensor) then s.expo d v.tensor else 0

/-- Elements of a table's C at row `r` of a tile whose C part starts at `addrC`, from column `c0` on, `n` of them, with their
address (R134, R139, R190, R514) (DEDUCED, assumption 22). -/
def Device.cElems (s : Device) (g : Nat) (p : Pass) (r c0 n : Nat) : List (Nat × Nat) × Nat :=
  let tab := s.table (dOf g) p.table
  if fmtMX tab.fmtO then
    let a := p.addrC + 64 * tab.pitchO * r
    let e := elemIndex tab p.gOff p.m p.n r c0
    let sc := tab.scaleArray tab.baseC true
    ((List.range n).map (fun i =>
      (s.readBits (a + (c0 + i) / 32 * mxBlockBytes tab.fmtO) (fmtBits tab.fmtO * ((c0 + i) % 32)) (fmtBits tab.fmtO),
       s.readNat (sc + (e + i) / 32) 1)), a)
  else
    let at' (i : Nat) : Nat := outAddr tab (s.window (dOf g) p.table) p.addrC p.m r (c0 + i)
    ((List.range n).map (fun i => (s.readNat (at' i) (outBytes tab.fmtO), 0)), at' 0)

/-- A C row as an invocation finds it: its format, exponent, elements from column `c0` on, `n` of them, and the address they are
read from now, or none where they lie in the side buffer. -/
structure CRow where
  fmt : Nat
  expo : Int
  vals : List (Nat × Nat)
  addr : Option Nat
  deriving DecidableEq, Repr

/-- The C row of an invocation at columns `c0` on, `n` of them; none while its multicast delivery has not come (R137, R139,
R154). -/
def Device.cRow (s : Device) (g : Nat) (v : Invocation) (c0 n : Nat) : Option CRow :=
  match v.pass with
  | some p =>
    let tab := s.table (dOf g) p.table
    let expo := s.expo (dOf g) tab.tensor
    if tab.reuseC = 1 then
      ((s.cluster g).sides.find? (fun x => x.ctx == p.ctx && x.item == p.item && x.point == p.point)).map (fun x =>
        ⟨tab.fmtO, expo, ((nth [] x.rows v.r).drop c0).take n, none⟩)
    else
      let (vals, a) := s.cElems g p v.r c0 n
      some ⟨tab.fmtO, expo, vals, some a⟩
  | none =>
    let d := s.vpass (dOf g) (qOf g) v.index
    let a := d.baseC + v.rho * d.pitch d.fmtI + c0 * outBytes d.fmtI
    some ⟨d.fmtI, v.expo, s.readRow d.fmtI a n, some a⟩

/-- The trap and the tensor an invocation's outputs belong to (R168). -/
def Device.invTrap (s : Device) (g : Nat) (v : Invocation) : Bool × Nat :=
  match v.kind, v.pass with
  | 0, some p => let t := s.table (dOf g) p.table; (t.trap, t.tensor)
  | 1, _ => let d := s.vpass (dOf g) (qOf g) v.index; (d.trap, d.tensor)
  | _, _ => (bit (fld (elemAt (s.sec 0x13 (dOf g) 255 255) 128 v.index) 3 1) 4, 0)

/-- An invocation takes the vector unit; the scratch words of its row are kept until it ends (R151, R175). -/
def Device.beginInv (s : Device) (g : Nat) (v : Invocation) : Device :=
  let sc := (s.cluster g).scratch
  let key := s.playIn g v.ctx * 4096 + 4 * (v.rho % 1024)
  s.modCluster g (fun c => { c with
    invocation := some { v with entry := (List.range 4).map (fun i => Tab.get 0 sc (key + i)) } })

/-- VECTOR_INVOCATION_START for an epilogue row or a vector-pass row (R152 to R156). -/
def Device.startEpi (s : Device) (g : Nat) (r : EpiRow) : Device :=
  let tab := s.table (dOf g) r.pass.table
  (s.modCluster g (fun c => { c with epilogue := c.epilogue.erase r })).beginInv g
    (newInv r.pass.ctx 0 r.pass.item r.pass.table (epiRho tab r.pass.gOff r.pass.m r.r) r.pass.n r.r r.pass.cols
      (if r.pass.shape = 1 then 4 else 1) tab.entry (some r.pass) r.values 0)

/-- A row of a vector pass has no tile; SYS selector 3 gives its ρ (DESIGN CHOICE, assumption 82). -/
def Device.startRow (s : Device) (g k : Nat) (r : RowRun) : Device :=
  let d := s.vpass (dOf g) (qOf g) r.index
  (s.modCluster g (fun c => { c with lastVec := k })).beginInv g
    (newInv k 1 r.item r.index r.next 0 r.next d.len (ceilDiv d.len 64) d.entry none [] r.expo)

/-- The invocation ends (R159): its row is finished, and a trapping pass or group that wrote a NaN holds (R168). A trapping walk
holds when the last closing row of a block has ended (R239). -/
def Device.endInv (s : Device) (g : Nat) (v : Invocation) : Device :=
  let s := (s.modCluster g (fun c => { c with invocation := none })).bumpVec g 2 1
  let (trap, tensor) := s.invTrap g v
  let nanRec : Rec := { Rec.ofCluster Code.arrNanTrap g 1 v.ctx 0xFF with posKind := 4, pos := v.index + 0xFF0000,
                                                                          vals := [(2, if v.kind = 2 then 0xFFFF else tensor)] }
  match v.kind with
  | 0 =>
    match v.pass with
    | some p =>
      let s := s.modCluster g (fun c => { c with
        draining := c.draining.map (fun x => if x.id = p.id then { x with nan := x.nan || v.nan } else x)
        readouts := c.readouts.map (fun x => if x.id = p.id then { x with nan := x.nan || v.nan } else x)
        sides := if v.r + 1 = p.rows then
            c.sides.filter (fun x => !(x.ctx == p.ctx && x.item == p.item && x.point == p.point)) else c.sides })
      match (s.cluster g).draining.find? (fun x => x.id == p.id) with
      | some x => s.settlePass g x
      | none => s
    | none => s
  | 1 =>
    match (s.ctx g v.ctx).items.findSome? (fun i => match i with
        | .rows r => if r.item == v.item then some r else none
        | _ => none) with
    | some r =>
      let nan := r.nan || v.nan
      let last := decide (r.next + 1 = r.granted)
      let s := s.modRows g v.ctx r.item (fun r => { r with next := r.next + 1, nan := nan && !last })
      (if nan && last && trap then s.hold nanRec (.context g v.ctx) else s).settleRows g v.ctx r.item
    | none => s
  | _ =>
    let s := s.modWalk g v.ctx v.item (fun r => { r with nan := r.nan || v.nan })
    match findWalk ((s.ctx g v.ctx).items ++ (s.ctx g v.ctx).other) v.item with
    | some r =>
      if r.closing.isEmpty && r.nan && trap then
        (s.modWalk g v.ctx v.item (fun r => { r with nan := false })).hold nanRec (.context g v.ctx)
      else s
    | none => s

/-! ## Control -/

def Device.vNop (s : Device) (g : Nat) (f : VFields) : Device := s.vreg g 0x00 f 1 id

/-- END takes no cycle (R159). -/
def Device.vEnd (s : Device) (g : Nat) (f : VFields) : Device :=
  match s.invAt g (vword 0x01 f) with
  | some v => s.endInv g v
  | none => s

def target (f : VFields) : Nat := f.imm.toNat % 2048

def Device.vJmp (s : Device) (g : Nat) (f : VFields) : Device :=
  match s.invAt g (vword 0x02 f) with
  | some v => s.retireTo g v (target f) 2 0
  | none => s

/-- Does any lane active under pg hold in the tested predicate? -/
def Invocation.anyTrue (v : Invocation) (f : VFields) : Bool :=
  ((v.pred f.pg.toNat) &&& (v.pred f.va.toNat)) != 0

def Device.vBranch (s : Device) (g op : Nat) (f : VFields) (onTrue : Bool) : Device :=
  match s.invAt g (vword op f) with
  | some v => if v.anyTrue f = onTrue then s.retireTo g v (target f) 2 0 else s.retireTo g v (v.pc + 1) 1 0
  | none => s

/-! ## Row input and output (R167 to R170) -/

/-- Valid lanes of a segment: columns below the row's active columns (R167). -/
def Invocation.valid (v : Invocation) (seg i : Nat) : Bool := decide (seg < v.segs ∧ 64 * seg + i < v.cols)

/-- The row data of the invocation's next segment: values in hand for an epilogue or closing row, else the address of the
segment in the vector pass's input (R154, R167). -/
def Device.segData (s : Device) (g : Nat) (v : Invocation) : Nat × Nat × Nat :=
  let d := s.vpass (dOf g) (qOf g) v.index
  (d.fmtI, d.baseI + v.rho * d.pitch d.fmtI + 64 * v.segIn * outBytes d.fmtI, min 64 (v.cols - 64 * v.segIn))

/-- IN (R167): it waits until its data is present. -/
def Device.vIn (s : Device) (g : Nat) (f : VFields) : Device :=
  match s.invAt g (vword 0x08 f) with
  | none => s
  | some v =>
    let seg := v.segIn
    let (fmt, a, n) := s.segData g v
    let bytes := n * outBytes fmt
    let load := decide (v.kind = 1) && decide (n ≠ 0)
    if load && (s.readWaits a bytes || !s.sound a bytes) then s
    else if load && !s.backed a bytes then
      s.unbacked a false (dpCluster g 1 v.ctx 0xFF) (ctlStripe (stripeOf g)) (dOf g) (.vector g v.ctx)
    else
      let raw := if load then s.readRow fmt a n else []
      let l := if v.kind = 1 then lanesOf fmt v.expo raw else v.row.drop (64 * seg)
      let x := v.setReg f (fun i => if v.valid seg i then nth 0 l i else 0)
      (s.retire g { x.setPred f (f.va.toNat % 8) (v.valid seg) with segIn := seg + 1, segCur := seg } 1).bumpArray g 6
        (sat16 fmt raw)

/-- INC (R167). Before any IN it reads the columns of segment 0 (DESIGN CHOICE, assumption 82). -/
def Device.vInc (s : Device) (g : Nat) (f : VFields) : Device :=
  match s.invAt g (vword 0x09 f) with
  | none => s
  | some v =>
    let n := min 64 (v.cols - 64 * v.segCur)
    match s.cRow g v (64 * v.segCur) n with
    | none => s
    | some c =>
      match c.addr.filter (fun a => decide (n ≠ 0) && (s.readWaits a 1 || !s.sound a (runBytes c.fmt n))),
          c.addr.filter (fun a => decide (n ≠ 0) && !s.backed a 1) with
      | some _, _ => s
      | none, some a => s.unbacked a false (dpCluster g 1 v.ctx 0xFF) (ctlStripe (stripeOf g)) (dOf g) (.vector g v.ctx)
      | none, none =>
        let l := lanesOfC c.fmt c.expo c.vals
        (s.retire g (v.setReg f (fun i => if v.valid v.segCur i then nth 0 l i else 0)) 1).bumpArray g 6 (sat16 c.fmt c.vals)

/-- What an OUT writes: lanes active under pg whose column is valid (R168). -/
def Invocation.outLanes (v : Invocation) (f : VFields) (seg : Nat) : List (Option Word) :=
  (List.range (min 64 (v.cols - 64 * seg))).map (fun i =>
    if v.valid seg i ∧ (v.pred f.pg.toNat).getLsbD i then some (lane (v.reg f.va) i) else none)

/-- The output segment of a vector pass (R154, R168). -/
def Device.vpassOut (s : Device) (g : Nat) (d : VPass) (rho c0 : Nat) (vs : List (Option Word)) : RowOut :=
  let row := d.baseO + rho * d.pitch d.fmtO
  let u (c : Nat) : Nat := s.uBits d.rounding d.tensor (rho * d.len + c)
  if fmtMX d.fmtO then
    (List.range (ceilDiv vs.length 32)).foldl (fun o b =>
      let part := (vs.drop (32 * b)).take 32
      if part.all (·.isNone) then o
      else
        let c := c0 + 32 * b
        let (bytes, scale, sat, nan) := mxBlock d.fmtO d.rounding (fun i => u (c + i)) part
        { o with
          runs := o.runs ++ [(row + c / 32 * mxBlockBytes d.fmtO, bytes),
            (d.baseO + d.rows * d.pitch d.fmtO + rho * ceilDiv d.len 32 + c / 32, [scale])]
          sat := o.sat + sat, nan := o.nan + nan }) ⟨[], 0, 0, 0⟩
  else
    (List.range vs.length).foldl (fun o i =>
      match nth none vs i with
      | none => o
      | some v =>
        let a := row + (c0 + i) * outBytes d.fmtO
        if d.fmtO = 0 ∨ d.fmtO = 0xD then
          { o with runs := o.runs ++ [(a, leBytes 4 v.toNat)], nan := o.nan + (if d.fmtO = 0 ∧ isNan32 v then 1 else 0) }
        else if d.fmtO = 0xC then
          let (b, sat) := s.gradAdd (dOf g) d.tensor a v
          { o with runs := o.runs ++ [(a, b)], tensorSat := o.tensorSat + sat, nan := o.nan + (if isNan32 v then 1 else 0) }
        else
          let k := convertBare d.fmtO d.rounding (u (c0 + i)) v
          { o with runs := o.runs ++ [(a, leBytes (outBytes d.fmtO) k.enc)], sat := o.sat + (if k.sat then 1 else 0),
                   nan := o.nan + (if k.nan then 1 else 0) }) ⟨[], 0, 0, 0⟩

/-- The output row of a walk's closing invocation (R215, R230). -/
def Device.closingOut (s : Device) (g : Nat) (rec : List Byte) (rho c0 : Nat) (vs : List (Option Word)) : RowOut :=
  let fmt := fbits rec 4 1 7 4
  let w := fld (s.sec 0x12 (dOf g) 255 255) 3 1
  let mode := fbits rec 3 1 6 5
  let row := fld rec 38 6 + rho * roundUp (w * outBytes fmt) 64
  (List.range vs.length).foldl (fun o i =>
    match nth none vs i with
    | none => o
    | some v =>
      let k := convertBare fmt mode (s.uBits mode 0 (rho * w + c0 + i)) v
      { o with runs := o.runs ++ [(row + (c0 + i) * outBytes fmt, leBytes (outBytes fmt) k.enc)],
               sat := o.sat + (if k.sat then 1 else 0), nan := o.nan + (if k.nan then 1 else 0) }) ⟨[], 0, 0, 0⟩

/-- OUT (R168); `waited` counts its cycles before the tile-store port (R177). Words of an epilogue whose tile is still being
read out wait, so that none of a faulted tile is written (R113). -/
def Device.vOut (s : Device) (g : Nat) (f : VFields) (waited : Nat) : Device :=
  match s.invAt g (vword 0x0A f) with
  | none => s
  | some v =>
    let vs := if v.segOut < v.segs then v.outLanes f v.segOut else []
    let o := match v.kind, v.pass with
      | 0, some p => s.rowOut g (s.table (dOf g) p.table) p 3 v.r (64 * v.segOut) vs
      | 1, _ => s.vpassOut g (s.vpass (dOf g) (qOf g) v.index) v.rho (64 * v.segOut) vs
      | _, _ => s.closingOut g (elemAt (s.sec 0x13 (dOf g) 255 255) 128 v.index) v.rho (64 * v.segOut) vs
    if o.runs.any (fun e => s.writeWaits e.1 e.2.length) then s
    else
    match o.runs.find? (fun e => !s.writable e.1 e.2.length) with
    | some e => s.unbacked e.1 (s.backed e.1 e.2.length) (dpCluster g 1 v.ctx 0xFF) (ctlStripe (stripeOf g)) (dOf g)
        (.vector g v.ctx)
    | none =>
      let late := match v.kind, v.pass with
        | 0, some p => (s.cluster g).readouts.any (fun x => x.id == p.id)
        | _, _ => false
      let id := match v.pass with | some p => p.id | none => 0
      let bad := match v.pass with | some p => (s.cluster g).draining.any (fun x => x.id == p.id && x.faulted) | none => false
      let s := s.bumpVec g 4 waited
      let undo := if v.kind = 1 then o.runs.map (fun e => (e.1, s.read e.1 e.2.length)) else []
      let s := if bad then s
        else if late then s.modCluster g (fun c => { c with outbuf := c.outbuf ++ o.runs.map (fun e => (id, e)) })
        else o.runs.foldl (fun s e => s.write e.1 e.2) s
      let s := ((s.bumpArray g 6 o.sat).bumpArray g 5 o.nan).countSat (dOf g) (s.invTrap g v).2 o.tensorSat
      s.retire g { v with segOut := v.segOut + 1, nan := v.nan || decide (o.nan ≠ 0), undo := undo.reverse ++ v.undo } 1

/-- OUTR (R169): an address that is not backed holds the context, and RETRY repeats the write. -/
def Device.vOutr (s : Device) (g : Nat) (f : VFields) (waited : Nat) : Device :=
  match s.invAt g (vword 0x0C f) with
  | none => s
  | some v =>
    let i := f.imm.toNat
    let width := if bits i 1 0 = 0 then 4 else 2
    let x := lane (v.reg f.va) 0
    if !(v.pred f.pg.toNat).getLsbD 0 then s.retire g v 1
    else
      match v.rowBase with
      | none => s.retire g v 1
      | some base =>
        let a := base + v.rho * bits i 17 10 + bits i 9 2
        if s.writeWaits a width then s
        else if !s.writable a width then
          s.unbacked a (s.backed a width) (dpCluster g 1 v.ctx 0xFF) (ctlStripe (stripeOf g)) (dOf g) (.vector g v.ctx)
        else
          let nan := decide (width = 4) && isNan32 x
          (((s.writeNat a width x.toNat).bumpArray g 5 (if nan then 1 else 0)).bumpVec g 4 waited).retire g
            { v with nan := v.nan || nan, undo := (a, s.read a width) :: v.undo } 1

/-- ROWBASE (R158, R169): opcode 0x0D and a 48-bit base. -/
def Device.vRowbase (s : Device) (g : Nat) (base : BitVec 48) : Device :=
  match s.invAt g (0x0D * 2 ^ 56 + base.toNat) with
  | some v => s.retire g { v with rowBase := some base.toNat } 1
  | none => s

/-- SYS (R159): the selected row quantity. -/
def Invocation.sys (v : Invocation) (sel i : Nat) : Word :=
  BitVec.ofNat 32 (match sel with
    | 0 => i
    | 1 => v.rho
    | 2 => v.n + 64 * v.segCur + i
    | 3 => v.r
    | 4 => v.segCur
    | _ => v.n + 64 * v.segCur)

/-- The scratch bank is the play's (R151, R362): word `i` of the row's entry (R152) (DEDUCED, assumption 24). -/
def Device.scratchKey (s : Device) (g : Nat) (v : Invocation) (i : Nat) : Nat :=
  s.playIn g v.ctx * 4096 + 4 * (v.rho % 1024) + i

def Device.vLdr (s : Device) (g : Nat) (f : VFields) : Device :=
  s.vreg g 0x0F f 1 (fun v =>
    let x := Tab.get 0 (s.cluster g).scratch (s.scratchKey g v (f.imm.toNat % 4))
    { v with regs := Tab.set Lanes.zero v.regs f.vd.toNat (mkLanes (fun _ => x)) })

def Device.vStr (s : Device) (g : Nat) (f : VFields) : Device :=
  match s.invAt g (vword 0x10 f) with
  | none => s
  | some v =>
    let s := if (v.pred f.pg.toNat).getLsbD 0 then
        s.modCluster g (fun c => { c with
          scratch := Tab.set 0 c.scratch (s.scratchKey g v (f.imm.toNat % 4)) (lane (v.reg f.va) 0) })
      else s
    s.retire g v 1

/-- PSYS (R159): first column tile, last column tile, last segment. -/
def Device.psysCond (s : Device) (g : Nat) (v : Invocation) (c : Nat) : Bool :=
  match c with
  | 0 => decide (v.n = 0)
  | 1 =>
    match v.pass with
    | some p =>
      match findTable ((s.ctx g v.ctx).items ++ (s.ctx g v.ctx).other) p.item with
      | some t => decide (t.lenN ≤ v.n + (s.table (dOf g) p.table).cols)
      | none => true
    | none => true
  | _ => decide (v.segCur + 1 = v.segs)

def Device.vPsys (s : Device) (g : Nat) (f : VFields) : Device :=
  s.vreg g 0x75 f 1 (fun v => v.setPredAll (f.vd.toNat % 8)
    (if s.psysCond g v (f.imm.toNat % 4) then BitVec.allOnes 64 else 0))

/-! ## Arithmetic (R161 to R166) -/

def fMin (a b : Word) : Word :=
  match (dec32 a).cmp (dec32 b) with
  | 2 => nan32
  | 0 => if (dec32 a).isNeg then a else b
  | c => if c < 0 then a else b
def fMax (a b : Word) : Word :=
  match (dec32 a).cmp (dec32 b) with
  | 2 => nan32
  | 0 => if (dec32 a).isNeg then b else a
  | c => if c < 0 then b else a
def fAbs (a : Word) : Word := if isNan32 a then nan32 else a &&& 0x7FFFFFFF
def fNeg (a : Word) : Word := if isNan32 a then nan32 else a ^^^ 0x80000000

/-- The FCMP conditions of R162; 5 is GTN. -/
def fCond (c : Nat) (a b : Word) : Bool :=
  let r := (dec32 a).cmp (dec32 b)
  match c with
  | 0 => decide (r = 0)
  | 1 => decide (r = -1)
  | 2 => decide (r = -1 ∨ r = 0)
  | 3 => decide (r = 2)
  | 4 => decide (r ≠ 0)
  | _ => if r = 2 then isNan32 a && !isNan32 b else decide (r = 1)

def iCond (c : Nat) (a b : Word) : Bool :=
  match c with
  | 0 => decide (a = b)
  | 1 => decide (a.toInt < b.toInt)
  | 2 => decide (a.toInt ≤ b.toInt)
  | _ => decide (a.toNat < b.toNat)

def Device.vSfu (s : Device) (g op : Nat) (f : VFields) (h : FVal → FVal) : Device :=
  match s.invAt g (vword op f) with
  | some v => s.retireTo g (v.setReg f (fun i => enc32 (h (dec32 (lane (v.reg f.va) i))))) (v.pc + 1) 2 2
  | none => s

/-- FTOI (R161): the integer, and whether a saturation or a NaN is counted. -/
def fToI (a : Word) : Word × Bool × Bool :=
  match dec32 a with
  | .nan => (0, false, true)
  | .inf s => (if s then 0x80000000 else 0x7FFFFFFF, true, false)
  | v =>
    let i := v.toIntNE
    if i > 2147483647 then (0x7FFFFFFF, true, false)
    else if i < -2147483648 then (0x80000000, true, false)
    else (BitVec.ofInt 32 i, false, false)

/-- An instruction whose lanes may count saturations and NaNs: active lanes only. -/
def Device.vCounted (s : Device) (g op : Nat) (f : VFields) (h : Word → Word × Bool × Bool) : Device :=
  match s.invAt g (vword op f) with
  | none => s
  | some v =>
    let rs := (v.active f).map (fun i => h (lane (v.reg f.va) i))
    let s := (s.bumpArray g 6 (rs.filter (·.2.1)).length).bumpArray g 5 (rs.filter (·.2.2)).length
    s.retire g (v.setReg f (fun i => (h (lane (v.reg f.va) i)).1)) 1

/-- CVT (R166): the encoding in the low bits. The NaN counter counts a NaN converted to INT8 (R77). -/
def cvtLane (f : VFields) (a : Word) : Word × Bool × Bool :=
  let fmt := bits f.imm.toNat 3 0
  let c := convertBare fmt (bits f.imm.toNat 5 4) 0 a
  (BitVec.ofNat 32 c.enc, c.sat, c.nan && decide (fmt = 0xA))

/-- CVTF (R166). -/
def cvtfLane (f : VFields) (a : Word) : Word × Bool × Bool :=
  let fmt := bits f.imm.toNat 3 0
  let x := a.toNat % 2 ^ fmtBits fmt
  (enc32 (valueOf fmt x 0 0), decide (fmt = 0xC ∧ x = 0x8000), false)

/-- A fixed tree of six levels; absent lanes pass the other member up (R164). -/
def treeStep (h : Word → Word → Word) : List (Option Word) → List (Option Word)
  | a :: b :: t => (match a, b with
      | some x, some y => some (h x y)
      | some x, none => some x
      | none, y => y) :: treeStep h t
  | l => l

def treeReduce (h : Word → Word → Word) (l : List (Option Word)) : Option Word :=
  nth none ((List.range 6).foldl (fun l _ => treeStep h l) l) 0

def Device.vReduce (s : Device) (g op : Nat) (f : VFields) (h : Word → Word → Word) (empty : Word) : Device :=
  s.vreg g op f 6 (fun v =>
    let l := (List.range 64).map (fun i =>
      if (v.pred f.pg.toNat).getLsbD i then some (lane (v.reg f.va) i) else none)
    let r := (treeReduce h l).getD empty
    v.setReg f (fun _ => r))

/-- The lowest active lane holding the greatest value in the order of GTN (R165). -/
def argMax (get : Nat → Word) : List Nat → Option Nat → Option Nat
  | [], b => b
  | i :: t, none => argMax get t (some i)
  | i :: t, some b => argMax get t (if fCond 5 (get i) (get b) then some i else some b)

def Device.vArgmax (s : Device) (g : Nat) (f : VFields) : Device :=
  s.vreg g 0x63 f 6 (fun v =>
    let r : Word := match argMax (lane (v.reg f.va)) (v.active f) none with
      | some i => BitVec.ofNat 32 i
      | none => 0xFFFFFFFF
    v.setReg f (fun _ => r))

def Device.vPred2 (s : Device) (g op : Nat) (f : VFields) (h : BitVec 64 → BitVec 64 → BitVec 64) : Device :=
  s.vreg g op f 1 (fun v => v.setPredAll (f.vd.toNat % 8) (h (v.pred f.va.toNat) (v.pred f.vb.toNat)))

/-- The lanes below a count (R159 PFIRST). -/
def lanesBelow (n : Nat) : BitVec 64 := BitVec.ofNat 64 (2 ^ n - 1)

/-! ## The instructions -/

def execVNop (g : Nat) (f : VFields) (s : State) : Host.Outcome State Fault Refusal :=
  .next (s.onDev (fun d => d.vNop g f))
def execVEnd (g : Nat) (f : VFields) (s : State) : Host.Outcome State Fault Refusal :=
  .next (s.onDev (fun d => d.vEnd g f))
def execJmp (g : Nat) (f : VFields) (s : State) : Host.Outcome State Fault Refusal :=
  .next (s.onDev (fun d => d.vJmp g f))
def execJany (g : Nat) (f : VFields) (s : State) : Host.Outcome State Fault Refusal :=
  .next (s.onDev (fun d => d.vBranch g 0x03 f true))
def execJnone (g : Nat) (f : VFields) (s : State) : Host.Outcome State Fault Refusal :=
  .next (s.onDev (fun d => d.vBranch g 0x04 f false))
def execVIn (g : Nat) (f : VFields) (s : State) : Host.Outcome State Fault Refusal :=
  .next (s.onDev (fun d => d.vIn g f))
def execInc (g : Nat) (f : VFields) (s : State) : Host.Outcome State Fault Refusal :=
  .next (s.onDev (fun d => d.vInc g f))
def execVOut (g : Nat) (f : OutFields) (s : State) : Host.Outcome State Fault Refusal :=
  .next (s.onDev (fun d => d.vOut g f.word f.waited))
def execOutr (g : Nat) (f : OutFields) (s : State) : Host.Outcome State Fault Refusal :=
  .next (s.onDev (fun d => d.vOutr g f.word f.waited))
def execRowbase (g : Nat) (base : BitVec 48) (s : State) : Host.Outcome State Fault Refusal :=
  .next (s.onDev (fun d => d.vRowbase g base))
def execSys (g : Nat) (f : VFields) (s : State) : Host.Outcome State Fault Refusal :=
  .next (s.onDev (fun d => d.vreg g 0x0E f 1 (fun v => v.setReg f (v.sys (f.imm.toNat % 16)))))
def execLdr (g : Nat) (f : VFields) (s : State) : Host.Outcome State Fault Refusal :=
  .next (s.onDev (fun d => d.vLdr g f))
def execStr (g : Nat) (f : VFields) (s : State) : Host.Outcome State Fault Refusal :=
  .next (s.onDev (fun d => d.vStr g f))
def execMov (g : Nat) (f : VFields) (s : State) : Host.Outcome State Fault Refusal :=
  .next (s.onDev (fun d => d.vlane1 g 0x11 f id))
def execMovi (g : Nat) (f : VFields) (s : State) : Host.Outcome State Fault Refusal :=
  .next (s.onDev (fun d => d.vlane1 g 0x12 f (fun _ => f.imm)))
def execSel (g : Nat) (f : VFields) (s : State) : Host.Outcome State Fault Refusal :=
  .next (s.onDev (fun d => d.vreg g 0x13 f 1 (fun v => v.setReg f (fun i =>
    if (v.pred f.vc.toNat).getLsbD i then lane (v.reg f.va) i else lane (v.reg f.vb) i))))
def execFadd (g : Nat) (f : VFields) (s : State) : Host.Outcome State Fault Refusal :=
  .next (s.onDev (fun d => d.vlane2 g 0x20 f fAdd))
def execFsub (g : Nat) (f : VFields) (s : State) : Host.Outcome State Fault Refusal :=
  .next (s.onDev (fun d => d.vlane2 g 0x21 f fSub))
def execFmul (g : Nat) (f : VFields) (s : State) : Host.Outcome State Fault Refusal :=
  .next (s.onDev (fun d => d.vlane2 g 0x22 f fMul))
def execFfma (g : Nat) (f : VFields) (s : State) : Host.Outcome State Fault Refusal :=
  .next (s.onDev (fun d => d.vreg g 0x23 f 1 (fun v => v.setReg f (fun i =>
    fFma (lane (v.reg f.va) i) (lane (v.reg f.vb) i) (lane (v.reg f.vc) i)))))
def execFmin (g : Nat) (f : VFields) (s : State) : Host.Outcome State Fault Refusal :=
  .next (s.onDev (fun d => d.vlane2 g 0x24 f fMin))
def execFmax (g : Nat) (f : VFields) (s : State) : Host.Outcome State Fault Refusal :=
  .next (s.onDev (fun d => d.vlane2 g 0x25 f fMax))
def execFaddi (g : Nat) (f : VFields) (s : State) : Host.Outcome State Fault Refusal :=
  .next (s.onDev (fun d => d.vlane1 g 0x26 f (fun a => fAdd a f.imm)))
def execFmuli (g : Nat) (f : VFields) (s : State) : Host.Outcome State Fault Refusal :=
  .next (s.onDev (fun d => d.vlane1 g 0x27 f (fun a => fMul a f.imm)))
def execFabs (g : Nat) (f : VFields) (s : State) : Host.Outcome State Fault Refusal :=
  .next (s.onDev (fun d => d.vlane1 g 0x28 f fAbs))
def execFneg (g : Nat) (f : VFields) (s : State) : Host.Outcome State Fault Refusal :=
  .next (s.onDev (fun d => d.vlane1 g 0x29 f fNeg))
def execFcmp (g : Nat) (f : VFields) (s : State) : Host.Outcome State Fault Refusal :=
  .next (s.onDev (fun d => d.vreg g 0x2A f 1 (fun v => v.setPred f (f.vd.toNat % 8) (fun i =>
    fCond (f.imm.toNat % 8) (lane (v.reg f.va) i) (lane (v.reg f.vb) i)))))
def execVExp (g : Nat) (f : VFields) (s : State) : Host.Outcome State Fault Refusal :=
  .next (s.onDev (fun d => d.vSfu g 0x30 f sfuExp))
def execVLog (g : Nat) (f : VFields) (s : State) : Host.Outcome State Fault Refusal :=
  .next (s.onDev (fun d => d.vSfu g 0x31 f sfuLog))
def execRcp (g : Nat) (f : VFields) (s : State) : Host.Outcome State Fault Refusal :=
  .next (s.onDev (fun d => d.vSfu g 0x32 f sfuRcp))
def execRsq (g : Nat) (f : VFields) (s : State) : Host.Outcome State Fault Refusal :=
  .next (s.onDev (fun d => d.vSfu g 0x33 f sfuRsq))
def execTanh (g : Nat) (f : VFields) (s : State) : Host.Outcome State Fault Refusal :=
  .next (s.onDev (fun d => d.vSfu g 0x34 f sfuTanh))
def execErf (g : Nat) (f : VFields) (s : State) : Host.Outcome State Fault Refusal :=
  .next (s.onDev (fun d => d.vSfu g 0x35 f sfuErf))
def execIadd (g : Nat) (f : VFields) (s : State) : Host.Outcome State Fault Refusal :=
  .next (s.onDev (fun d => d.vlane2 g 0x40 f (· + ·)))
def execIsub (g : Nat) (f : VFields) (s : State) : Host.Outcome State Fault Refusal :=
  .next (s.onDev (fun d => d.vlane2 g 0x41 f (· - ·)))
def execImul (g : Nat) (f : VFields) (s : State) : Host.Outcome State Fault Refusal :=
  .next (s.onDev (fun d => d.vlane2 g 0x42 f (· * ·)))
def execIand (g : Nat) (f : VFields) (s : State) : Host.Outcome State Fault Refusal :=
  .next (s.onDev (fun d => d.vlane2 g 0x43 f (· &&& ·)))
def execIor (g : Nat) (f : VFields) (s : State) : Host.Outcome State Fault Refusal :=
  .next (s.onDev (fun d => d.vlane2 g 0x44 f (· ||| ·)))
def execIxor (g : Nat) (f : VFields) (s : State) : Host.Outcome State Fault Refusal :=
  .next (s.onDev (fun d => d.vlane2 g 0x45 f (· ^^^ ·)))
def execIshl (g : Nat) (f : VFields) (s : State) : Host.Outcome State Fault Refusal :=
  .next (s.onDev (fun d => d.vlane1 g 0x46 f (fun a => a <<< (f.imm.toNat % 32))))
def execIshr (g : Nat) (f : VFields) (s : State) : Host.Outcome State Fault Refusal :=
  .next (s.onDev (fun d => d.vlane1 g 0x47 f (fun a => a >>> (f.imm.toNat % 32))))
def execIsra (g : Nat) (f : VFields) (s : State) : Host.Outcome State Fault Refusal :=
  .next (s.onDev (fun d => d.vlane1 g 0x48 f (fun a => a.sshiftRight (f.imm.toNat % 32))))
def execIaddi (g : Nat) (f : VFields) (s : State) : Host.Outcome State Fault Refusal :=
  .next (s.onDev (fun d => d.vlane1 g 0x49 f (fun a => a + f.imm)))
def execIcmp (g : Nat) (f : VFields) (s : State) : Host.Outcome State Fault Refusal :=
  .next (s.onDev (fun d => d.vreg g 0x4A f 1 (fun v => v.setPred f (f.vd.toNat % 8) (fun i =>
    iCond (f.imm.toNat % 4) (lane (v.reg f.va) i) (lane (v.reg f.vb) i)))))
def execImin (g : Nat) (f : VFields) (s : State) : Host.Outcome State Fault Refusal :=
  .next (s.onDev (fun d => d.vlane2 g 0x4B f (fun a b => if a.toInt ≤ b.toInt then a else b)))
def execImax (g : Nat) (f : VFields) (s : State) : Host.Outcome State Fault Refusal :=
  .next (s.onDev (fun d => d.vlane2 g 0x4C f (fun a b => if b.toInt ≤ a.toInt then a else b)))
def execItof (g : Nat) (f : VFields) (s : State) : Host.Outcome State Fault Refusal :=
  .next (s.onDev (fun d => d.vlane1 g 0x4E f (fun a => enc32 (FVal.ofInt a.toInt 0))))
def execFtoi (g : Nat) (f : VFields) (s : State) : Host.Outcome State Fault Refusal :=
  .next (s.onDev (fun d => d.vCounted g 0x4F f fToI))
def execCvt (g : Nat) (f : VFields) (s : State) : Host.Outcome State Fault Refusal :=
  .next (s.onDev (fun d => d.vCounted g 0x50 f (cvtLane f)))
def execCvtf (g : Nat) (f : VFields) (s : State) : Host.Outcome State Fault Refusal :=
  .next (s.onDev (fun d => d.vCounted g 0x51 f (cvtfLane f)))
def execRsum (g : Nat) (f : VFields) (s : State) : Host.Outcome State Fault Refusal :=
  .next (s.onDev (fun d => d.vReduce g 0x60 f fAdd 0))
def execRmax (g : Nat) (f : VFields) (s : State) : Host.Outcome State Fault Refusal :=
  .next (s.onDev (fun d => d.vReduce g 0x61 f fMax 0xFF800000))
def execRmin (g : Nat) (f : VFields) (s : State) : Host.Outcome State Fault Refusal :=
  .next (s.onDev (fun d => d.vReduce g 0x62 f fMin 0x7F800000))
def execRargmax (g : Nat) (f : VFields) (s : State) : Host.Outcome State Fault Refusal :=
  .next (s.onDev (fun d => d.vArgmax g f))
def execPand (g : Nat) (f : VFields) (s : State) : Host.Outcome State Fault Refusal :=
  .next (s.onDev (fun d => d.vPred2 g 0x70 f (· &&& ·)))
def execPor (g : Nat) (f : VFields) (s : State) : Host.Outcome State Fault Refusal :=
  .next (s.onDev (fun d => d.vPred2 g 0x71 f (· ||| ·)))
def execPxor (g : Nat) (f : VFields) (s : State) : Host.Outcome State Fault Refusal :=
  .next (s.onDev (fun d => d.vPred2 g 0x72 f (· ^^^ ·)))
def execPnot (g : Nat) (f : VFields) (s : State) : Host.Outcome State Fault Refusal :=
  .next (s.onDev (fun d => d.vreg g 0x73 f 1 (fun v => v.setPredAll (f.vd.toNat % 8) (~~~ v.pred f.va.toNat))))
def execPfirst (g : Nat) (f : VFields) (s : State) : Host.Outcome State Fault Refusal :=
  .next (s.onDev (fun d => d.vreg g 0x74 f 1 (fun v => v.setPredAll (f.vd.toNat % 8) (lanesBelow (f.imm.toNat % 128)))))
def execPsys (g : Nat) (f : VFields) (s : State) : Host.Outcome State Fault Refusal :=
  .next (s.onDev (fun d => d.vPsys g f))

/-- VEC_RUNAWAY (R174): 8,192 instructions without END; the context holds. -/
def Device.vRunaway (s : Device) (g : Nat) : Device :=
  match (s.cluster g).invocation with
  | some v =>
    if 8192 ≤ v.executed ∧ ¬ s.isHeld (.vector g v.ctx) then
      s.hold { Rec.ofCluster Code.vecRunaway g 1 v.ctx 0xFF with vals := [(4, v.rho), (2, v.pc)] } (.vector g v.ctx)
    else s
  | none => s

def execVecRunaway (g : Nat) (s : State) : Host.Outcome State Fault Refusal :=
  .next (s.onDev (fun d => d.vRunaway g))

end Sys2Proof.Machine
end

