-- ==== Sys2Proof/Machine/Field.lean ====
section
/-! DEFINITION. Field descriptors: space-to-depth, depth-to-space and crop-and-resize (R194 to R198). -/

namespace Sys2Proof.Machine

/-- The bytes of one element. -/
def FieldDesc.eb (f : FieldDesc) : Nat := outBytes f.fmt

/-- Offset of an element in a planar field (R188). -/
def planarOff (pitch eb sx sy c z y x : Nat) : Nat := c * pitch + ((z * sy + y) * sx + x) * eb

/-- The element of the shallow field and of the deep field that one output element of a regrouping row pairs (R196), as
offsets into input and output. -/
def FieldDesc.pairAt (f : FieldDesc) (row i : Nat) : Nat × Nat :=
  let dx := f.x / f.bx
  let dy := f.y / f.bb
  let dz := f.z / f.bz
  if f.kind = 0 then
    let co := row / (dz * dy)
    let z := row / dy % dz
    let y := row % dy
    let ci := co / f.bx / f.bb / f.bz
    (planarOff f.pitchI f.eb f.x f.y ci (z * f.bz + co / f.bx / f.bb % f.bz) (y * f.bb + co / f.bx % f.bb)
        (i * f.bx + co % f.bx),
     planarOff f.pitchO f.eb dx dy co z y i)
  else
    let ci := row / (f.z * f.y)
    let z := row / f.y % f.z
    let y := row % f.y
    let co := ((ci * f.bz + z % f.bz) * f.bb + y % f.bb) * f.bx + i % f.bx
    (planarOff f.pitchI f.eb dx dy co (z / f.bz) (y / f.bb) (i / f.bx),
     planarOff f.pitchO f.eb f.x f.y ci z y i)

/-- Elements of an output row of a regrouping. -/
def FieldDesc.rowLen (f : FieldDesc) : Nat := if f.kind = 0 then f.x / f.bx else f.x

/-- One row of a regrouping: bits are moved unchanged (R196). -/
def Device.regroupRow (s : Device) (f : FieldDesc) (row : Nat) : Device :=
  (List.range f.rowLen).foldl (fun s i =>
    let p := f.pairAt row i
    s.write (f.baseO + p.2) (s.read (f.baseI + p.1) f.eb)) s

/-! ## Crop-and-resize (R197, R198) -/

/-- floor of a finite value; `none` for an infinity or a NaN, whose taps lie outside every field. -/
def FVal.floor : FVal → Option Int
  | .fin s m e =>
    let i : Int := signed s m
    some (if 0 ≤ e then i * 2 ^ e.toNat else i / 2 ^ (-e).toNat)
  | _ => none

def wordOfInt (i : Int) : Word := enc32 (FVal.ofInt i 0)

/-- The sample coordinate of R197. -/
def cropCoord (a1 a2 : Word) (o n : Nat) : Word :=
  if n = 1 then fMul (fAdd a1 a2) 0x3F000000
  else fFma (wordOfInt o) (fMul (fSub a2 a1) (enc32 (sfuRcp (dec32 (wordOfInt (n - 1)))))) a1

/-- Is `x < k`, for FP32 values and an integer? -/
def ltInt (x : Word) (k : Int) : Bool := decide ((dec32 x).cmp (FVal.ofInt k 0) = -1)

/-- A box wholly outside the field (R198); the second is whether a coordinate is not finite. -/
def cropOutside (f : FieldDesc) (y1 x1 y2 x2 : Word) : Bool × Bool :=
  if isNonfinite32 y1 || isNonfinite32 x1 || isNonfinite32 y2 || isNonfinite32 x2 then (true, true)
  else
    ((ltInt x1 (-1) && ltInt x2 (-1)) || (ltInt y1 (-1) && ltInt y2 (-1)) ||
      (!ltInt x1 f.x && !ltInt x2 f.x) || (!ltInt y1 f.y && !ltInt y2 f.y), false)

/-- v(y, x) of R197, and whether it was the pad value. -/
def Device.cropTap (s : Device) (f : FieldDesc) (ch : Nat) (y x : Option Int) : Word × Bool :=
  let pad : Word := enc32 (valueOf f.fmt f.pad 0 0)
  match y, x with
  | some y, some x =>
    if y < 0 ∨ (f.y : Int) ≤ y ∨ x < 0 ∨ (f.x : Int) ≤ x then (pad, true)
    else
      (enc32 (valueOf f.fmt (s.readNat (f.baseI + planarOff f.pitchI f.eb f.x f.y ch 0 y.toNat x.toNat) f.eb) 0 0), false)
  | _, _ => (pad, true)

/-- One sample (R197), and the taps that read the pad value. -/
def Device.cropSample (s : Device) (f : FieldDesc) (ch : Nat) (sy sx : Word) : Word × Nat :=
  let iy := (dec32 sy).floor
  let ix := (dec32 sx).floor
  let fy := match iy with | some i => fSub sy (wordOfInt i) | none => nan32
  let fx := match ix with | some i => fSub sx (wordOfInt i) | none => nan32
  let iy1 := iy.map (· + 1)
  let ix1 := ix.map (· + 1)
  let a := s.cropTap f ch iy ix
  let b := s.cropTap f ch iy ix1
  let c := s.cropTap f ch iy1 ix
  let d := s.cropTap f ch iy1 ix1
  let top := fFma fx (fSub b.1 a.1) a.1
  let bot := fFma fx (fSub d.1 c.1) c.1
  (fFma fy (fSub bot top) top, ([a, b, c, d].filter (·.2)).length)

/-- The element bytes of a sample (R75 to R78), with what its conversion counts. -/
def Device.cropElem (s : Device) (f : FieldDesc) (e : Nat) (v : Word) : List Byte × Nat × Nat :=
  if f.fmt = 0 then (leBytes 4 v.toNat, 0, 0)
  else
    let k := convertBare f.fmt f.rounding (s.uBits f.rounding f.tensor e) v
    (leBytes f.eb k.enc, (if k.sat then 1 else 0), (if k.nan then 1 else 0))

/-- One row (j, ch, oy) of a crop-and-resize (R197, R198), and whether it is the first of a box that lies outside: such a box is
reported there, further ones of the same pass raise the count. -/
def Device.cropRow (s : Device) (g k : Nat) (f : FieldDesc) (row : Nat) (noted : Bool) : Device × Bool :=
  let j := row / (f.c * f.oh)
  let ch := row / f.oh % f.c
  let oy := row % f.oh
  let box (i : Nat) : Word := BitVec.ofNat 32 (s.readNat (f.baseB + 16 * j + 4 * i) 4)
  let y1 := box 0
  let x1 := box 1
  let y2 := box 2
  let x2 := box 3
  let out (ox : Nat) : Nat := f.baseO + (j * f.c + ch) * f.pitchO + (oy * f.ow + ox) * f.eb
  let (outside, nonfinite) := cropOutside f y1 x1 y2 x2
  if outside then
    let s := (List.range f.ow).foldl (fun s ox => s.write (out ox) (leBytes f.eb f.pad)) s
    if ch = 0 ∧ oy = 0 then
      ((s.bumpField g 5 1).log1 { Rec.ofCluster Code.fldBoxOutside g 1 k 0xFF with
        tag := if nonfinite then 8 else 0, vals := [(2, j)], key := if noted then 1 else 0 }, true)
    else (s, false)
  else
    let sy := cropCoord y1 y2 oy f.oh
    ((List.range f.ow).foldl (fun s ox =>
      let r := s.cropSample f ch sy (cropCoord x1 x2 ox f.ow)
      let b := s.cropElem f (((j * f.c + ch) * f.oh + oy) * f.ow + ox) r.1
      (((s.write (out ox) b.1).bumpField g 1 r.2).bumpArray g 6 b.2.1).bumpArray g 5 b.2.2) s, false)

/-- The rows of the input that a row (j, ch, oy) of a crop-and-resize reads, as byte ranges, and its box (R197). -/
def Device.cropReads (s : Device) (f : FieldDesc) (row : Nat) : List (Nat × Nat) :=
  let j := row / (f.c * f.oh)
  let box (i : Nat) : Word := BitVec.ofNat 32 (s.readNat (f.baseB + 16 * j + 4 * i) 4)
  let line (y : Int) : List (Nat × Nat) :=
    if y < 0 ∨ (f.y : Int) ≤ y then []
    else [(f.baseI + planarOff f.pitchI f.eb f.x f.y (row / f.oh % f.c) 0 y.toNat 0, f.x * f.eb)]
  (f.baseB + 16 * j, 16) ::
    (if (cropOutside f (box 0) (box 1) (box 2) (box 3)).1 then []
     else match (dec32 (cropCoord (box 0) (box 2) (row % f.oh) f.oh)).floor with
       | some y => line y ++ line (y + 1)
       | none => [])

/-- The next granted row of a crop-and-resize, which takes the vector unit (R194, R156). -/
def Device.runCropRow (s : Device) (g k : Nat) (r : RowRun) : Device :=
  let f := s.fieldDesc (dOf g) (qOf g) r.index
  if s.readWaits f.baseI 1 || s.readWaits f.baseB 1 || s.writeWaits f.baseO 1 ||
      (s.cropReads f r.next).any (fun e => !s.sound e.1 e.2) then s
  else if !s.backed f.baseI 1 || !s.writable f.baseO 1 || !s.backed f.baseB 1 then
    s.unbacked (if !s.backed f.baseI 1 then f.baseI else if !s.writable f.baseO 1 then f.baseO else f.baseB) false
      (dpCluster g 2 k 0xFF) (ctlStripe (stripeOf g)) (dOf g) (.context g k)
  else
    let (s, out) := s.cropRow g k f r.next r.outside
    let s := (s.bumpField g 6 1).modCluster g (fun c => { c with lastVec := k })
    (s.modRows g k r.item (fun r => { r with next := r.next + 1, outside := r.outside || out })).settleRows g k r.item

/-- A granted group of a regrouping runs on the address generator alone (R194): its rows from `lo`, `n` of them. -/
def Device.runRegroup (s : Device) (g k : Nat) (r : RowRun) (n : Nat) : Device :=
  let f := s.fieldDesc (dOf g) (qOf g) r.index
  if (List.range n).any (fun i => (List.range f.rowLen).any (fun j => !s.sound (f.baseI + (f.pairAt (r.next + i) j).1) f.eb)) then s
  else if !s.backed f.baseI 1 || !s.writable f.baseO 1 then
    s.unbacked (if !s.backed f.baseI 1 then f.baseI else f.baseO) false
      (dpCluster g 2 k 0xFF) (ctlStripe (stripeOf g)) (dOf g) (.context g k)
  else
    let s := (List.range n).foldl (fun s i => s.regroupRow f (r.next + i)) s
    ((s.bumpField g 6 n).modRows g k r.item (fun r =>
      { r with next := r.next + n, granted := max r.granted (r.next + n) })).settleRows g k r.item

/-! ## The vector unit's next row (R156) -/

/-- A closing row of a walk starts (R230): its O row lies transposed in the working area. -/
def Device.startClosing (s : Device) (g k : Nat) (w : WalkRun) (row : Nat) : Device :=
  let rec' := s.walkRec (dOf g) w.num
  let geo := s.geometry (dOf g)
  let oBase := clusterWindow g + rec'.work + 256 * geo.width * geo.eb
  let vals := (List.range geo.width).map (fun d => BitVec.ofNat 32 (s.readNat (oBase + (d * 256 + row % 256) * 4) 4))
  (s.modWalk g k w.item (fun x => { x with closing := x.closing.erase row })).beginInv g
    (newInv k 2 w.item w.num row 0 (row % 256) geo.width (geo.width / 64) rec'.closing none vals 0)

/-- An invocation whose context's vector unit holds leaves the unit to the other contexts (R174, R175). -/
def Device.setAside (s : Device) (g : Nat) : Device :=
  match (s.cluster g).invocation with
  | some v => if s.isHeld (.vector g v.ctx) then s.modCluster g (fun c => { c with invocation := none, stopped := c.stopped ++ [v] }) else s
  | none => s

/-- VECTOR_INVOCATION_START (R156): the free unit goes on with an invocation whose hold has ended, else takes the oldest
epilogue row, then a closing row, then the next vector or crop row of the contexts in rotation. -/
def Device.startInvocation (s : Device) (g : Nat) : Device :=
  let s := s.setAside g
  let c := s.cluster g
  if c.invocation.isSome || (s.die (dOf g)).power == 2 then s
  else
    match c.stopped.find? (fun v => !s.isHeld (.vector g v.ctx)) with
    | some v => s.modCluster g (fun c => { c with invocation := some v, stopped := c.stopped.erase v })
    | none =>
      match s.firstEpi g with
      | some r => s.startEpi g r
      | none =>
        match c.rotation.findSome? (fun k => (s.nextClosing g k).map (fun e => (k, e))) with
        | some (k, w, row) => s.startClosing g k w row
        | none =>
          match c.rotation.findSome? (fun k => (s.nextRow g k).map (fun e => (k, e))) with
          | some (k, r) => if r.field then s.runCropRow g k r else s.startRow g k r
          | none => s

def execVectorInvocationStart (g : Nat) (s : State) : Host.Outcome State Fault Refusal :=
  .next (s.onDev (fun d => d.startInvocation g))

end Sys2Proof.Machine
end

