-- ==== Sys2Proof/Machine/Attention.lean ====
section
/-! DEFINITION. Attention over paged keys and values: geometry, the page map, seals, walks and the softmax pipe
(R203 to R241). -/

namespace Sys2Proof.Machine

/-! ## Geometry (R204, R205) -/

/-- Global token of local token `u` at ring position `i` (R204). -/
def globalToken (ring t i u : Nat) : Nat := if u < t then i * t + u else (2 * ring - 1 - i) * t + (u - t)

/-- The ring position that owns a page (R211), and the page's local index there (R204); `tp` is T ÷ 16. -/
def ownerOf (ring tp p : Nat) : Nat := let k := p / max 1 tp; if k < ring then k else 2 * ring - 1 - k
def localIndex (ring tp p : Nat) : Nat :=
  let k := p / max 1 tp
  if k < ring then p - k * tp else tp + p - k * tp

/-- The visit lap of an owner's pages at a position (R221, R246). -/
def visitLap (ring i o : Nat) : Nat := min ((i + ring - o) % max 1 ring) ((o + ring - i) % max 1 ring)

def Device.pagesPer (s : Device) (d : Nat) : Nat := (s.geometry d).stretch s.ringS / 16
def Device.pageOwner (s : Device) (d p : Nat) : Nat := ownerOf s.ringS (s.pagesPer d) p
def Device.pageLap (s : Device) (d p : Nat) : Nat := visitLap s.ringS s.ringPos (s.pageOwner d p)

def Device.page (s : Device) (d p : Nat) : PageEntry := Tab.get PageEntry.zero (s.die d).pages p
/-- A whole-entry write (R210). -/
def Device.setPage (s : Device) (d p : Nat) (e : PageEntry) : Device :=
  s.modDie d (fun x => { x with pages := Tab.set PageEntry.zero x.pages p e })

/-- The home frame of a page at its owner (R205). -/
def Device.homeFrame (s : Device) (d p : Nat) : Nat :=
  let y := s.geometry d
  y.homeBase + localIndex s.ringS (s.pagesPer d) p * y.homePitch

/-- The page map at job load (R211). -/
def Device.buildMap (s : Device) (d : Nat) : Device :=
  let y := s.geometry d
  let n := y.nCap / 16
  s.modDie d (fun x => { x with pages := ((List.range n).map (fun p =>
    let o := s.pageOwner d p
    (p, (⟨if o = s.ringPos then s.homeFrame d p else 0, 0xFFFF, 0, true, 0, o, 0, 0, 0⟩ : PageEntry)))) })

/-! ## Seals (R212) -/

/-- Pages a seal descriptor names, as local pages. -/
def sealPages (b : List Byte) : List Nat := (List.range (fld b 4 4)).map (fun i => fld b 0 4 + i)

/-- An issued walk of the die still uses a page: the page lies below its N_act (DEDUCED, assumption 31). -/
def Device.pageInUse (s : Device) (d p : Nat) : Bool :=
  (List.range 4).any (fun q => (s.quad d q).issues.any (fun i => i.kind == 2 && decide (16 * p < i.lens.headD 0)))

/-- Seal one local page. -/
def Device.sealPage (s : Device) (d : Nat) (b : List Byte) (nAct lam : Nat) : Device :=
  let y := s.geometry d
  let t := y.stretch s.ringS
  let t0 := globalToken s.ringS t s.ringPos (16 * lam)
  let p := t0 / 16
  let filled := min 16 (nAct - t0)
  let e := s.page d p
  if filled = 0 then s.setPage d p { e with state := 0, filled := 0 }
  else
    let marksBase := fld b 9 6
    let marks := (List.range filled).map (fun i =>
      if marksBase = 0 then 0 else s.readNat (marksBase + 2 * (16 * lam + i)) 2)
    let frame := y.homeBase + lam * y.homePitch
    let s := s.write frame (sub (marks.flatMap (leBytes 2)) 0 64)
    s.setPage d p { e with filled := filled, segLow := marks.foldl min 0xFFFF, segHigh := marks.foldl max 0,
                           state := 1, lap := 0, slot := 0xFFFF }

def Device.sealBytes (s : Device) (d q i : Nat) : List Byte := elemAt (s.sec 0x1D d q 255) 16 i

/-- The seal has to wait for a walk that still uses one of its pages, or for a parked die that holds its marks (R54)
(DEDUCED, assumption 31). -/
def Device.sealBlocked (s : Device) (d q i : Nat) : Bool :=
  let b := s.sealBytes d q i
  let t := (s.geometry d).stretch s.ringS
  (decide (fld b 9 6 ≠ 0) && s.readWaits (fld b 9 6) 1) || (sealPages b).any (fun lam => s.pageInUse d (globalToken s.ringS t s.ringPos (16 * lam) / 16))

/-- A seal runs: its pages are sealed and its token posted (R212, R384). -/
def Device.runSeal (s : Device) (d q i token : Nat) : Device :=
  let b := s.sealBytes d q i
  let nAct := (Tab.get 0 (s.quad d q).regs (fbits b 8 1 5 0)).toNat
  ((sealPages b).foldl (fun s lam => s.sealPage d b nAct lam) s).post token

/-- SEAL_RESUME (R212): the quadrant's first waiting seal. -/
def Device.sealResume (s : Device) (d q : Nat) : Device :=
  match (s.quad d q).seals with
  | [] => s
  | (i, token) :: rest =>
    if s.dieStopped d || s.sealBlocked d q i then s else (s.modQuad d q (fun x => { x with seals := rest })).runSeal d q i token

def execSealResume (d q : Nat) (s : State) : Host.Outcome State Fault Refusal :=
  .next (s.onDev (fun v => v.sealResume d q))

/-! ## Masks and needed pages (R219 to R222) -/

/-- A query row of a block. -/
structure QRow where
  row : Nat
  token : Nat
  mark : Nat
  valid : Bool
  deriving DecidableEq, Repr

/-- The rows of a block (R215). -/
def Device.blockRows (s : Device) (d : Nat) (w : WalkRec) (nAct block : Nat) : List QRow :=
  let t := (s.geometry d).stretch s.ringS
  (List.range 256).map (fun i =>
    let r := 256 * block + i
    let u := r / max 1 w.heads
    let g := globalToken s.ringS t s.ringPos u
    ⟨r, g, if w.segment then s.readNat (w.baseM + 2 * u) 2 else 0, decide (u < 2 * t) && decide (g < nAct)⟩)

/-- R219, for a key of a page. -/
def WalkRec.sees (w : WalkRec) (nAct : Nat) (q : QRow) (page filled key mark : Nat) : Bool :=
  let t := 16 * page + key
  q.valid && decide (t < nAct) && decide (key < filled) && (!w.causal || decide (t ≤ q.token)) &&
    (!w.segment || decide (q.mark = mark)) &&
    (decide (w.window = 0) || (decide (q.token < t + w.window) && (w.causal || decide (t < q.token + w.window))))

/-- What a block's valid rows span (R220); none when it has none. -/
def Device.blockStat (s : Device) (d : Nat) (w : WalkRec) (nAct block : Nat) : Option BlockStat :=
  match (s.blockRows d w nAct block).filter (·.valid) with
  | [] => none
  | q :: t => some ⟨block, t.foldl (fun a x => min a x.token) q.token, t.foldl (fun a x => max a x.token) q.token,
      t.foldl (fun a x => min a x.mark) q.mark, t.foldl (fun a x => max a x.mark) q.mark⟩

/-- Valid rows of a block; they are its first ones, since tokens rise with the local token (R204, R215). -/
def Device.validCount (s : Device) (d : Nat) (w : WalkRec) (nAct block : Nat) : Nat :=
  ((s.blockRows d w nAct block).filter (·.valid)).length

/-- R220: the page is skipped for a block; none while the segment test is open, since the entry's marks are not yet known. -/
def WalkRec.skips (w : WalkRec) (nAct : Nat) (b : BlockStat) (p : Nat) (e : PageEntry) (known : Bool) : Option Bool :=
  if nAct ≤ 16 * p ∨ (w.causal ∧ b.thi < 16 * p) ∨
      (0 < w.window ∧ (16 * p + 15 + w.window ≤ b.tlo ∨ (¬w.causal ∧ b.thi + w.window ≤ 16 * p))) then some true
  else if !w.segment then some false
  else if known then some (decide (e.segHigh < b.mlo) || decide (b.mhi < e.segLow))
  else none

/-- Walk order (R221): ascending visit lap, then page. -/
def Device.walkOrder (s : Device) (d : Nat) : List Nat :=
  let ps := List.range ((s.geometry d).nCap / 16)
  (List.range (s.ringS / 2 + 1)).flatMap (fun lap => ps.filter (fun p => s.pageLap d p == lap))

/-- The page may be read now (R224). -/
def Device.pageReady (s : Device) (d p : Nat) : Bool :=
  let e := s.page d p
  decide (e.state = 1) || (decide (e.state = 3) && decide (e.lap = s.pageLap d p))

/-- R225: the entry names no page. -/
def Device.pageUnmapped (s : Device) (d p : Nat) : Bool :=
  let e := s.page d p
  !e.valid || (decide (e.home = 0) && decide (e.owner = s.ringPos))

/-- The entry's marks are known: a local page once it is sealed, a remote one once it has come. So the pages a walk needs, and
their order, do not depend on when they come (R221, R241) (DEDUCED, assumption 83). -/
def Device.marksKnown (s : Device) (d p : Nat) : Bool :=
  let e := s.page d p
  if e.owner = s.ringPos then decide (e.state ≠ 0) else decide (e.state = 3)

/-- Whether a walk skips a page for a block; a page that is not mapped, or that the host skipped, is needed where only its marks
could tell (R225). -/
def Device.skipped? (s : Device) (d : Nat) (w : WalkRec) (nAct : Nat) (skipped : List Nat) (b : BlockStat) (p : Nat) : Option Bool :=
  match w.skips nAct b p (s.page d p) (s.marksKnown d p) with
  | some x => some x
  | none => if s.pageUnmapped d p || skipped.contains p then some false else none

/-- Whether no block of a kind-2 record needs a page (R222). -/
def Device.unneeded? (s : Device) (d : Nat) (w : WalkRec) (r : WalkRun) (p : Nat) : Option Bool :=
  let xs := r.opened.map (fun b => s.skipped? d w r.nAct r.skipped b p)
  if xs.contains (some false) then some false else if xs.contains none then none else some true

/-- Up to `want` needed pages from a list of candidates: the pages, the candidates decided, and whether an open one stopped it. -/
def pickPages (skip : Nat → Option Bool) : Nat → List Nat → List Nat × Nat × Bool
  | 0, _ => ([], 0, false)
  | _, [] => ([], 0, false)
  | n + 1, p :: t =>
    match skip p with
    | none => ([], 0, true)
    | some true => let x := pickPages skip (n + 1) t; (x.1, x.2.1 + 1, x.2.2)
    | some false => let x := pickPages skip n t; (p :: x.1, x.2.1 + 1, x.2.2)

/-- The frame a walk reads (R209), and the address of a record in it. -/
def Device.frameAddr (s : Device) (d p : Nat) : Nat :=
  let e := s.page d p
  if e.state = 3 then (s.geometry d).bufBase + e.slot * (s.geometry d).visitPitch else e.home

def Device.recordAddr (s : Device) (d : Nat) (w : WalkRec) (p : Nat) : Nat :=
  let y := s.geometry d
  s.frameAddr d p + 64 + (if (s.page d p).state = 3 then w.group else w.layer * y.groups + w.group) * y.recBytes

/-! ## Emitting descriptors (R223 to R226) -/

/-- The 32 bytes of a descriptor (R223). -/
def Desc.bytes (e : Desc) : List Byte :=
  leBytes 2 (e.record + e.kind * 1024 + (if e.first then 0x1000 else 0) + (if e.lastOfGroup then 0x2000 else 0) +
    (if e.lastOfWalk then 0x4000 else 0) + (if e.isPartial then 0x8000 else 0)) ++
  leBytes 1 e.filled ++ leBytes 1 e.filled2 ++ leBytes 2 e.page ++ leBytes 2 (e.page2.getD 0xFFFF) ++ leBytes 4 e.block ++
  leBytes 4 e.position ++ leBytes 6 e.addr ++ leBytes 6 e.addr2 ++ leBytes 2 e.energy ++ leBytes 1 e.controller ++ [0]

/-- Filled count, record address and marks of a page, as read when its descriptor is emitted; a page the host skipped is
wholly masked (R225). -/
def Device.pageView (s : Device) (d : Nat) (w : WalkRec) (skipped : List Nat) (p : Nat) : Nat × Nat × List Nat :=
  if skipped.contains p then (0, 0, List.replicate 16 0)
  else ((s.page d p).filled, s.recordAddr d w p,
    (List.range 16).map (fun j => s.readNat (s.frameAddr d p + 2 * j) 2))

/-- R223 partial: some key is masked for some row of the block. -/
def WalkRec.partialPage (w : WalkRec) (nAct : Nat) (rows : List QRow) (p filled : Nat) (marks : List Nat) : Bool :=
  rows.any (fun q => (List.range 16).any (fun j => !w.sees nAct q p filled j (nth 0 marks j)))

/-- What a member's next turn would emit: the block and its pages in walk order from a position on, whether they end the block or
pair, the pages R220 skipped meanwhile, and the member's place after it. -/
structure NextGroup where
  block : Nat
  pages : List Nat
  pos : Nat
  last : Bool
  skips : Nat
  after : WalkRun
  deriving DecidableEq, Repr

/-- The member's next block with a valid row after its present one, if any (R222). -/
def Device.nextBlock (s : Device) (d : Nat) (w : WalkRec) (r : WalkRun) (from' : Nat) : Option Nat :=
  ((List.range w.count).map (w.first + ·)).find? (fun b =>
    decide (from' ≤ b) && decide ((b - w.first) % max 1 r.size = r.rank) && decide (0 < s.validCount d w r.nAct b))

/-- Kind 2: the member goes on to its next pair (R222): pairs are formed in walk order, those with q mod σ = φ belong to the
record and the n-th of them to rank n mod M. None while a page's need is open. `n` bounds the pairs passed over. -/
def Device.nextPair (s : Device) (d : Nat) (w : WalkRec) (order : List Nat) : Nat → WalkRun → Option WalkRun
  | 0, r => some { r with emitted := true }
  | n + 1, r =>
    let x := pickPages (s.unneeded? d w r) 2 (order.drop r.cursor)
    if x.2.2 then none
    else if x.1.isEmpty then some { r with emitted := true }
    else
      let mine := decide (r.pos / 2 % max 1 w.stride = w.phase)
      let r' := { r with cursor := r.cursor + x.2.1, pos := r.pos + 2, pairs := r.pairs + (if mine then 1 else 0) }
      if mine && decide (r.pairs % max 1 r.size = r.rank) then some { r' with pair := x.1, block := 0, groupIndex := 0 }
      else s.nextPair d w order n r'

/-- The run of a member when a walk is issued: its first block with a valid row, or nothing. -/
def Device.newWalk (s : Device) (d : Nat) (w : WalkRec) (item nAct rank size : Nat) : WalkRun :=
  let r : WalkRun := ⟨item, w.number, nAct, rank, size, 0, 0, 0, [], 0, [], 0, 0, [], [], [], [], false, 0, none, false, false, 0⟩
  if w.kind = 2 then
    { r with emitted := ((List.range w.count).all (fun b => s.validCount d w nAct (w.first + b) == 0)) }
  else
    match s.nextBlock d w r w.first with
    | some b => { r with block := b }
    | none => { r with emitted := true }

/-- The controller opens what a member stands at: the marks of its block, or of every block for kind 2, are read (R220), and a
kind-2 member takes its next pair. None while that waits. -/
def Device.openWalk (s : Device) (d : Nat) (w : WalkRec) (r : WalkRun) : Option WalkRun :=
  if r.emitted then none
  else if w.kind = 2 then
    let r := if r.opened.isEmpty then
      { r with opened := (List.range w.count).filterMap (fun b => s.blockStat d w r.nAct (w.first + b)) } else r
    if r.pair.isEmpty then s.nextPair d w (s.walkOrder d) ((s.geometry d).nCap / 32 + 1) r else some r
  else
    match r.opened with
    | [] => some { r with opened := (s.blockStat d w r.nAct r.block).toList, cursor := 0, pos := 0, groupIndex := 0 }
    | _ => some r

/-- The next group of a block, or the next block of a pair, of an opened run (R221, R222). -/
def Device.nextGroup (s : Device) (d : Nat) (w : WalkRec) (r : WalkRun) : Option NextGroup :=
  if w.kind = 2 then
    let needs (b : BlockStat) : Bool := r.pair.any (fun p => s.skipped? d w r.nAct r.skipped b p != some true)
    let rest := (List.range r.opened.length).filter (fun i => decide (r.block ≤ i) && (r.opened[i]?).any needs)
    match rest, r.opened[rest.headD 0]? with
    | i :: more, some b =>
      let skips := r.pair.length * (if more.isEmpty then r.opened.length - r.block - 1 else i - r.block)
      some ⟨b.block, r.pair, r.pos - 2, more.isEmpty, skips,
        if more.isEmpty then { r with pair := [], block := 0, groupIndex := 0 }
        else { r with block := i + 1, groupIndex := r.groupIndex + 1 }⟩
    | _, _ => none
  else
    match r.opened with
    | [] => none
    | b :: _ =>
      let skip := s.skipped? d w r.nAct r.skipped b
      let cands := (s.walkOrder d).drop r.cursor
      let x := pickPages skip 4 cands
      let y := pickPages skip 1 (cands.drop x.2.1)
      if x.2.2 || y.2.2 then none
      else
        let last := y.1.isEmpty
        let skips := x.2.1 - x.1.length + (if last then y.2.1 else 0)
        let after := if last then
            match s.nextBlock d w r (r.block + 1) with
            | some b => { r with block := b, opened := [], cursor := 0, pos := 0, groupIndex := 0 }
            | none => { r with emitted := true }
          else { r with cursor := r.cursor + x.2.1, pos := r.pos + x.1.length, groupIndex := r.groupIndex + 1 }
        some ⟨r.block, x.1, r.pos, last, skips, after⟩

/-- Descriptors of a group (R223, R224). -/
def Device.groupDescs (s : Device) (d k : Nat) (w : WalkRec) (r : WalkRun) (n : NextGroup) : List Desc :=
  let rows := s.blockRows d w r.nAct n.block
  if w.kind = 2 then
    let p1 := n.pages.headD 0
    let v1 := s.pageView d w r.skipped p1
    let v2 := match n.pages[1]? with | some p => s.pageView d w r.skipped p | none => (0, 0, [])
    let part2 := match n.pages[1]? with | some p => w.partialPage r.nAct rows p v2.1 v2.2.2 | none => false
    [⟨w.number, 2, false, false, n.last, w.partialPage r.nAct rows p1 v1.1 v1.2.2 || part2,
      v1.1, v2.1, p1, n.pages[1]?, n.block, n.pos, v1.2.1, v2.2.1, w.energy, k % 2, v1.2.2, v2.2.2⟩]
  else
    (List.range n.pages.length).map (fun i =>
      let p := nth 0 n.pages i
      let v := s.pageView d w r.skipped p
      let fin := decide (i + 1 = n.pages.length)
      ⟨w.number, w.kind, decide (i = 0), fin, n.last && fin, w.partialPage r.nAct rows p v.1 v.2.2, v.1, 0, p, none,
       n.block, n.pos + i, v.2.1, 0, w.energy, k % 2, v.2.2, []⟩)

/-- What a member of a stream can do now: emit its next group, hold before an unmapped page, find that nothing is left, or
nothing. -/
inductive Turn where
  | emit (r : WalkRun) (n : NextGroup)
  | unmapped (p : Nat)
  | over (r : WalkRun)
  | wait
  deriving DecidableEq, Repr

/-- Two groups at most are in a member at once, so that one is scored while the other's values run (R229); one where two plays
share the context, so that it can rotate between groups (R227). -/
def Device.groupRoom (s : Device) (g k : Nat) (r : WalkRun) : Bool :=
  decide (r.groups.length < if (s.ctx g k).other.isEmpty ∨ (s.ctx g k).items.isEmpty then 2 else 1)

def Device.walkTurn (s : Device) (d q k c : Nat) (w : WalkRec) (r : WalkRun) : Turn :=
  if !s.groupRoom (gOf d q c) k r then .wait
  else
    match s.openWalk d w r with
    | none => .wait
    | some r =>
      if r.emitted then .over r
      else
        match s.nextGroup d w r with
        | none => .wait
        | some n =>
          let need := n.pages.filter (fun p => !r.skipped.contains p)
          match need.find? (s.pageUnmapped d) with
          | some p =>
            if s.log.holds.any (fun h => match h.site with
                | .walkPage d' q' k' _ p' => d' == d && q' == q && k' == k && p' == p
                | _ => false) then .wait
            else .unmapped p
          | none => if need.all (s.pageReady d) then .emit r n else .wait

/-- Emit a member's group (R223); a block without any needed page has a group without descriptors, whose rows close at once
(R230, R238). A kind-2 record's pages are noted as walked (R260). -/
def Device.emitGroup (s : Device) (d q k c : Nat) (w : WalkRec) (r : WalkRun) (n : NextGroup) : Device :=
  let x : WGroup := ⟨r.nextId, n.block, r.groupIndex, n.last, s.groupDescs d k w r n, (r.pairs - 1) / max 1 r.size,
    s.validCount d w r.nAct n.block,
    0, 0, 0, 0, []⟩
  let s := if w.kind = 2 then s.modDie d (fun y => { y with
      walked := y.walked ++ (n.pages.map (fun p => (w.number, p))).filter (fun e => !y.walked.contains e) }) else s
  let after := { n.after with groups := r.groups ++ [x], nextId := r.nextId + 1 }
  (s.modWalk (gOf d q c) k r.item (fun _ => after)).bumpQuad d q 0 n.skips

/-- Members of the walk issued in a context that could take a turn, in rank order. -/
def Device.streamMembers (s : Device) (d q k : Nat) : List (Nat × WalkRec × WalkRun) :=
  match (s.quad d q).issues.find? (fun i => i.kind == 2 && i.ctx == k && !i.statsHeld) with
  | none => []
  | some i =>
    i.members.filterMap (fun c =>
      let x := s.ctx (gOf d q c) k
      (findWalk (x.items ++ x.other) i.id).map (fun r => (c, s.walkRec d i.index, r)))

/-- Pages of a finished kind-2 walk that R220 skipped for every block; the first member counts them for each (R242). -/
def Device.unneededCount (s : Device) (d : Nat) (w : WalkRec) (r : WalkRun) : Nat :=
  if w.kind = 2 ∧ r.rank = 0 then
    ((List.range ((s.geometry d).nCap / 16)).filter (fun p => s.unneeded? d w r p == some true)).length * r.opened.length
  else 0

/-- WALK_DESCRIPTOR_EMIT (R224, R226): the next stream of the controller that can emit takes a turn. -/
def Device.walkEmit (s : Device) (d q ctl waited : Nat) : Device :=
  if s.dieStopped d then s
  else
  let s := s.bumpQuad d q 1 waited
  let last := Tab.get 0 (s.quad d q).turns ctl
  let streams := if last = ctl then [ctl + 2, ctl] else [ctl, ctl + 2]
  let cands := streams.flatMap (fun k => (s.streamMembers d q k).map (fun m => (k, m)))
  match cands.findSome? (fun e => match s.walkTurn d q e.1 e.2.1 e.2.2.1 e.2.2.2 with
      | .wait => none
      | t => some (e.1, e.2.1, e.2.2.1, t)) with
  | none => s
  | some (k, c, w, t) =>
    match t with
    | .emit r n =>
      ((s.emitGroup d q k c w r n).modQuad d q (fun x => { x with turns := Tab.set 0 x.turns ctl k })).bumpQuad d q 2 1
    | .unmapped p =>
      s.hold ⟨Code.attPageUnmapped, 1, dpQuad d q ctl, 0, 5, p, 0, [(2, w.number)], 4 + d, 2⟩ (.walkPage d q k c p)
    | .over r => (s.modWalk (gOf d q c) k r.item (fun _ => r)).bumpQuad d q 0 (s.unneededCount d w r)
    | .wait => s

def execWalkDescriptorEmit (d q c waited : Nat) (s : State) : Host.Outcome State Fault Refusal :=
  .next (s.onDev (fun v => v.walkEmit d q (c % 2) waited))

/-- ATT_PAGE_LATE (R224): a local page that a stream needs is still empty. -/
def Device.attPageLate (s : Device) (d q k : Nat) : Device :=
  match (s.streamMembers d q k).findSome? (fun m =>
      (s.openWalk d m.2.1 m.2.2).bind (fun r =>
        let b := r.opened.headD ⟨0, 0, 0, 0, 0⟩
        let due (p : Nat) : Bool := !r.skipped.contains p && decide ((s.page d p).owner = s.ringPos) &&
          decide ((s.page d p).state = 0) && !s.pageUnmapped d p
        let ps := match s.nextGroup d m.2.1 r with
          | some n => n.pages
          | none => ((s.walkOrder d).drop r.cursor).filter (fun p => (s.skipped? d m.2.1 r.nAct r.skipped b p).isNone)
        (ps.find? due).map (fun p => (p, m.2.1.number)))) with
  | some (p, n) => s.log1 ⟨Code.attPageLate, 0, dpQuad d q (k % 2), 0, 5, p, 0, [(2, n)], 4 + d, 0⟩
  | none => s

def execAttPageLate (d q ctx : Nat) (s : State) : Host.Outcome State Fault Refusal :=
  .next (s.onDev (fun v => v.attPageLate d q ctx))

/-! ## The passes of a walk (R206, R229, R234, R235) -/

/-- Where the working area keeps the Q rows, the dO rows, the transposed FP32 rows and the blocks the pipe forms (R218, R229,
R234): two buffers of 32 KiB for kinds 0 and 1, two of 8 KiB for kind 2 (DESIGN CHOICE, assumption 30). -/
def workQ (g : Nat) (w : WalkRec) : Nat := clusterWindow g + w.work
def workdO (g : Nat) (w : WalkRec) (y : Geometry) : Nat := workQ g w + 256 * y.width * y.eb
def workO (g : Nat) (w : WalkRec) (y : Geometry) : Nat := workQ g w + 256 * y.width * y.eb * (if w.kind = 1 then 2 else 1)
def workP (g : Nat) (w : WalkRec) (y : Geometry) (i : Nat) : Nat :=
  if w.kind = 2 then workQ g w + i % 2 * 8192 else workO g w y + 1024 * y.width + i % 2 * 32768

/-- A pass a walk starts next: the pass but for its number and frame, the name of its frame, its weights, whether it opens a
descriptor and so costs the page energy (R227), and whether it would replay. -/
structure WalkPass where
  pass : Pass
  key : List Nat
  feed : Feed
  first : Bool
  replay : Bool
  deriving DecidableEq, Repr

/-- What all passes of a walk share. -/
def Device.walkPass (s : Device) (g k : Nat) (r : WalkRun) (x : WGroup) (shape stage part rows slot readout : Nat) (init : Bool)
    (key : Nat) (feed : Feed) (first replay : Bool) (addrO addrC : Nat) : WalkPass :=
  ⟨{ id := 0, ctx := k, play := s.playIn g k, item := r.item, table := r.num, point := r.seq, shape := shape,
     fmtA := feed.fmt, fmtB := feed.fmt, k0 := 0, len := feed.len, rows := rows, cols := feed.cols, slot := slot, init := init,
     readout := readout, source := 0, frame := 0, pitch := roundUp (feed.len * outBytes feed.fmt) 64, red := feed.len,
     fmtO := 0, walk := true, stage := stage, group := x.id, part := part, m := 0, n := 0, gOff := 0, addrO := addrO,
     addrC := addrC, issued := 0, row := 0, nan := false, overflowed := false, faulted := false, drained := false },
   [r.item, 2, x.id, stage, key], feed, first, replay⟩

/-- The pages of a descriptor with filled count, record address and marks. -/
def Desc.pages (e : Desc) : List (Nat × Nat × Nat × List Nat) :=
  (e.page, e.filled, e.addr, e.marks) ::
    (match e.page2 with | some p => [(p, e.filled2, e.addr2, e.marks2)] | none => [])

/-- The score and dP passes of a group in kinds 0 and 1: two for each page and stage. -/
def WGroup.scorePasses (x : WGroup) (kind : Nat) : Nat := 2 * x.descs.length * (if kind = 1 then 2 else 1)

/-- The pass of a score or dP stage of a group in brim shape (R229, R234). -/
def Device.scorePass (s : Device) (g k : Nat) (w : WalkRec) (y : Geometry) (r : WalkRun) (x : WGroup) : WalkPass :=
  let n := 2 * x.descs.length
  let stage := x.scored / max 1 n
  let part := x.scored % max 1 n
  s.walkPass g k r x 1 stage part 8 r.nextSlot 5 true part
    ⟨if stage = 0 then workQ g w else workdO g w y, y.width * y.eb, y.fmt, 0, 0, y.width, x.rows⟩
    (decide (stage = 0 ∧ part % 2 = 0)) (decide (part ≠ 0)) 0 0

/-- The pass of the value or dQ stage of a group (R229, R234). -/
def Device.valuePass (s : Device) (g k : Nat) (w : WalkRec) (y : Geometry) (r : WalkRun) (x : WGroup) : WalkPass :=
  s.walkPass g k r x 1 2 x.valued 8 r.nextSlot 5 true x.valued
    ⟨workP g w y x.id, 64 * y.eb, y.fmt, 0, 0, 16 * x.descs.length, x.rows⟩ false (decide (x.valued ≠ 0)) 0 0

/-- A pass of a kind-2 record in crown shape (R235): chunks of 64 query rows in ascending order, the scores and dP of a chunk
before the gradients of the chunk before it. -/
def Device.gradPass (s : Device) (g k : Nat) (w : WalkRec) (y : Geometry) (r : WalkRun) (x : WGroup) : Option WalkPass :=
  match x.descs with
  | [] => none
  | e :: _ =>
    let t := y.width / 64
    let chunks := ceilDiv x.rows 64
    let rows := 16 * e.pages.length
    let row0 (c : Nat) : Nat := 256 * x.block + 64 * c
    let size (c : Nat) : Nat := min 64 (x.rows - 64 * c)
    let done := x.valued / max 1 (2 * t)
    if x.scored < 2 * min chunks (done + 2) then
      let c := x.scored / 2
      let stage := x.scored % 2
      some (s.walkPass g k r x 0 stage c rows (4 + r.nextSlot % 4) 5 true c
        ⟨(if stage = 0 then w.baseQ else w.basedO) + row0 c * y.width * y.eb, y.width * y.eb, y.fmt, 0, 0, y.width, size c⟩
        (decide (x.scored = 0)) false 0 0)
    else if x.valued < x.gradPasses y.width ∧ done < x.formed then
      let i := x.valued % (2 * t)
      let dK := decide (t ≤ i)
      let tile := i % t
      let pitchT := roundUp (2 * y.stretch s.ringS * w.heads * y.eb) 64
      let part (p : Nat) : Nat := w.baseO + p * 32 * y.width * 4 + (if dK then 0 else 16 * y.width * 4) + tile * 256
      some (s.walkPass g k r x 0 (if dK then 4 else 3) x.valued rows ((if dK then 0 else 2) + tile)
        (if x.last ∧ done + 1 = chunks then 1 else 0) (decide (x.index = 0 ∧ done = 0)) done
        ⟨(if dK then w.baseQT else w.basedOT) + 64 * tile * pitchT + row0 done * y.eb, pitchT, y.fmt, 0, 0, size done, 64⟩
        false false (part e.page) (part (e.page2.getD 0)))
    else none

/-- The pass a walk starts next in a member, if its group and the pipe have it ready. In kinds 0 and 1 the scores of a group come
before the values of the group before it (R229), unless that ends its block or two plays share the context (R227). -/
def Device.walkNext (s : Device) (g k : Nat) (r : WalkRun) : Option WalkPass :=
  let w := s.walkRec (dOf g) r.num
  let y := s.geometry (dOf g)
  match r.groups with
  | [] => none
  | x :: rest =>
    if w.kind = 2 then s.gradPass g k w y r x
    else
      match (x :: rest).find? (fun z => decide (z.scored < z.scorePasses w.kind)) with
      | some z => some (s.scorePass g k w y r z)
      | none =>
        let free := !rest.isEmpty || x.last || !(s.ctx g k).other.isEmpty
        if free ∧ x.formed = 1 ∧ x.valued < y.width / 8 then some (s.valuePass g k w y r x) else none

/-- The weight source of a walk's pass (R108, R229): kind 2 streams; a pass that would replay streams and holds when a change of
shape or a rotation has dropped the block, and otherwise none says that no held block matches. -/
def Device.walkSource (s : Device) (g : Nat) (kind : Nat) (r : WalkRun) (n : WalkPass) : Option Nat :=
  if kind = 2 then some 0
  else if !n.replay then some 1
  else if (Tab.get none (s.cluster g).held 0).any (fun b => b.feed.same n.feed) then some 2
  else if r.requeue then some 1
  else none

/-- The loader has the rows a score pass of kinds 0 and 1 multiplies (R229); every other pass needs none. -/
def Device.walkPrepared (s : Device) (g : Nat) (r : WalkRun) (n : WalkPass) : Bool :=
  (s.walkRec (dOf g) r.num).kind == 2 || n.pass.stage == 2 ||
    (match r.groups.find? (fun x => x.id == n.pass.group) with
     | some x => r.prepared == some x.block
     | none => false)

/-- The elements of the row edge of a walk's pass, row by row, with the addresses read: keys on rows for scores and dP,
dimensions on rows for values and dQ, and the pipe's blocks key-major for kind 2. Keys above the filled count are +0 and read
nothing (R206). -/
def Device.rowEdge (s : Device) (g : Nat) (w : WalkRec) (y : Geometry) (x : WGroup) (p : Pass) : List (List (Nat × Option Nat)) :=
  let el (a : Option Nat) : Nat × Option Nat := match a with | some a => (s.readNat a y.eb, some a) | none => (0, none)
  let vPart (v : Bool) : Nat := if v then 16 * y.width * y.eb else 0
  let at' (e : Nat × Nat × Nat × List Nat) (v : Bool) (j d : Nat) : Option Nat :=
    if j < e.2.1 then some (e.2.2.1 + vPart v + (j * y.width + d) * y.eb) else none
  let pages := x.descs.flatMap Desc.pages
  let page (i : Nat) : Nat × Nat × Nat × List Nat := nth (0, 0, 0, []) pages i
  (List.range p.rows).map (fun i => (List.range p.len).map (fun t =>
    if p.stage ≤ 1 then
      let j := if w.kind = 2 then i else 8 * p.part + i
      el (at' (page (j / 16)) (decide (p.stage = 1)) (j % 16) t)
    else if p.stage = 2 then el (at' (page (t / 16)) (decide (w.kind = 0)) (t % 16) (8 * p.part + i))
    else
      el (some (workP g w y (p.part / max 1 (2 * (y.width / 64))) + (if p.stage = 4 then 4096 else 0) + i * 128 + t * y.eb))))

/-- The loader copies a block's Q (and dO) rows into the working area (R229, R234). -/
def Device.prepareBlock (s : Device) (g k : Nat) (w : WalkRec) (y : Geometry) (r : WalkRun) (x : WGroup) : Device :=
  let pitch := y.width * y.eb
  let n := x.rows * pitch
  let src := [w.baseQ + 256 * x.block * pitch] ++ (if w.kind = 1 then [w.basedO + 256 * x.block * pitch] else [])
  if src.any (fun a => s.readWaits a n || !s.sound a n) then s
  else
    match src.find? (fun a => !s.backed a n) with
    | some a => s.unbacked a false (dpCluster g 2 k 0xFF) (ctlStripe (stripeOf g)) (dOf g) (.context g k)
    | none =>
      let s := (List.zip src [workQ g w, workdO g w y]).foldl (fun s e => s.write e.2 (s.read e.1 n)) s
      s.modWalk g k r.item (fun r => { r with prepared := some x.block })

/-- The attention loader's part of FRAME_LOAD (R206): the rows of a new block, once no pass of the walk still takes weights from
the old ones, or else the frame of the walk's next pass. -/
def Device.loadWalkFrame (s : Device) (g k : Nat) (r : WalkRun) : Device :=
  let w := s.walkRec (dOf g) r.num
  let y := s.geometry (dOf g)
  match s.walkNext g k r with
  | none => s
  | some n =>
    match r.groups.find? (fun x => x.id == n.pass.group) with
    | none => s
    | some x =>
      let c := s.cluster g
      if !s.walkPrepared g r n then
        if c.issuing.any (fun p => p.walk && p.item == r.item && decide (p.stage ≤ 1)) then s else s.prepareBlock g k w y r x
      else if (c.frameOf n.key n.pass.rows n.pass.len).isSome then s
      else
        let size := n.pass.rows * n.pass.pitch
        match c.freeFrame 0 size (131072 / max 1 size) [] with
        | none => s
        | some off =>
          let rows := s.rowEdge g w y x n.pass
          let as := rows.flatMap (fun l => l.filterMap (·.2))
          if as.any (fun a => s.readWaits a 1 || !s.sound a 1) then s
          else
            match as.find? (fun a => !s.backed a 1) with
            | some a => s.unbacked a false (dpCluster g 2 k 0xFF) (ctlStripe (stripeOf g)) (dOf g) (.context g k)
            | none =>
              let base := clusterWindow g + 0x300000 + off
              let s := (List.range rows.length).foldl (fun s i =>
                s.write (base + i * n.pass.pitch) (frameRow n.pass.fmtA n.pass.len ((nth [] rows i).map (fun e => ⟨e.1, 0⟩)))) s
              s.addFrame g ⟨off, size, n.key, n.pass.rows, n.pass.len, true⟩

/-- The tile a walk's next pass takes its weights from, when it has to be fetched (R229, R235). -/
def Device.walkFetch (s : Device) (g k : Nat) (r : WalkRun) : Option Fetch :=
  match s.walkNext g k r with
  | none => none
  | some n =>
    match s.walkSource g (s.walkRec (dOf g) r.num).kind r n with
    | none | some 2 => none
    | some _ =>
      let f : Fetch := ⟨r.item, r.seq, 0, n.pass.shape, n.feed, false⟩
      if s.walkPrepared g r n && !(s.cluster g).queue.any (fun b => b.of k f && decide (f.feed.size ≤ b.bytes)) then some f
      else none

/-- Start a pass of a walk (R229, R234, R235). -/
def Device.startWalkPass (s : Device) (g k : Nat) (r : WalkRun) (n : WalkPass) : Device :=
  let w := s.walkRec (dOf g) r.num
  let c := s.cluster g
  let source := (s.walkSource g w.kind r n).getD 1
  let off := match c.frameOf n.key n.pass.rows n.pass.len with | some b => b.off | none => 0
  let p := { n.pass with id := c.nextPass, frame := off, source := source }
  let s := s.modCluster g (fun c => c.enter p n.key n.feed)
  s.modWalk g k r.item (fun r => { (r.modGroup p.group (fun x =>
      if p.stage ≤ 1 then { x with scored := x.scored + 1 } else { x with valued := x.valued + 1 })) with
    seq := r.seq + 1
    nextSlot := if w.kind ≠ 2 ∨ p.stage ≤ 1 then (r.nextSlot + 1) % 8 else r.nextSlot
    requeue := r.requeue && source != 1 })

/-! ## The softmax pipe (R228 to R240) -/

def sExp (x : Word) : Word := enc32 (sfuExp (dec32 x))
/-- bf of R228: conversion to the operand format by nearest-even, and the value it stands for. -/
def bfC (fmt : Nat) (x : Word) : Conv := convertBare fmt 0 0 x
def bfW (fmt : Nat) (x : Word) : Word := enc32 (valueOf fmt (bfC fmt x).enc 0 0)

def nanCount (l : List Word) : Nat := (l.filter isNan32).length

/-- A key of a group: its page, number, filled count and mark. -/
structure KeyRef where
  page : Nat
  key : Nat
  filled : Nat
  mark : Nat
  deriving DecidableEq, Repr

def Desc.keys (e : Desc) : List KeyRef :=
  e.pages.flatMap (fun p => (List.range 16).map (fun j => ⟨p.1, j, p.2.1, nth 0 p.2.2.2 j⟩))

/-- What the pipe makes of a row: its new m and l, the factor a (none where the row sees no key), p for each key, exponentials,
NaNs and saturations counted. -/
structure RowForm where
  m : Word
  l : Word
  a : Option Word
  p : List Nat
  exps : Nat
  nans : Nat
  sats : Nat
  deriving DecidableEq, Repr

/-- One group of the forward walk for one row (R228): `keys` gives each key's raw score and whether the row sees it. -/
def forwardRow (fmt : Nat) (scale m l : Word) (keys : List (Word × Bool)) : RowForm :=
  let ss := (keys.filter (·.2)).map (fun e => fMul e.1 scale)
  match ss with
  | [] => ⟨m, l, none, keys.map (fun _ => 0), 0, 0, 0⟩
  | s0 :: t =>
    let mn := fMax m (t.foldl fMax s0)
    let a := sExp (fSub m mn)
    let cs := keys.map (fun e => if e.2 then bfC fmt (sExp (fSub (fMul e.1 scale) mn)) else ⟨0, false, false⟩)
    let sum := ((List.zip keys cs).filter (·.1.2)).foldl (fun t e => fAdd t (enc32 (valueOf fmt e.2.enc 0 0))) 0
    let l' := fFma l a sum
    ⟨mn, l', some a, cs.map (·.enc), 1 + ss.length,
     nanCount ss + (cs.filter (·.nan)).length + nanCount [mn, l'], (cs.filter (·.sat)).length⟩

/-- pb and ds of R233 for one row and key, from its raw score and dP: encodings, NaNs and saturations. -/
def backPair (fmt : Nat) (scale c dRow raw dp : Word) (seen : Bool) : Nat × Nat × Nat × Nat :=
  if seen then
    let sc := fMul raw scale
    let p := sExp (fSub sc c)
    let pb := bfC fmt p
    let ds := bfC fmt (fMul (fMul p (fSub dp dRow)) scale)
    (pb.enc, ds.enc, nanCount [sc, p] + (if pb.nan then 1 else 0) + (if ds.nan then 1 else 0),
     (if pb.sat then 1 else 0) + (if ds.sat then 1 else 0))
  else (0, 0, 0, 0)

/-- The rows of a stage of a group that wait in the pipe, from part `lo` on, `n` parts of `rows` rows each, in order; none until
all have come. -/
def Cluster.pipeRows (c : Cluster) (item group stage lo n rows : Nat) : Option (List (List Word)) :=
  let l := (List.range (n * rows)).map (fun i =>
    (c.pipe.find? (fun x => x.item == item && x.group == group && x.stage == stage && x.part == lo + i / rows &&
      x.r == i % rows)).map (·.values))
  if l.all Option.isSome then some (l.map (·.getD [])) else none

/-- The pipe lets go of a stage's rows. -/
def Cluster.dropRows (c : Cluster) (item group lo hi : Nat) : Cluster :=
  { c with pipe := c.pipe.filter (fun x => !(x.item == item && x.group == group && decide (lo ≤ x.stage ∧ x.stage < hi))) }

def Device.oCell (s : Device) (g : Nat) (w : WalkRec) (y : Geometry) (r d : Nat) : Word :=
  BitVec.ofNat 32 (s.readNat (workO g w y + (d * 256 + r % 256) * 4) 4)

/-- The scratch key of words 0 and 1 of a row (R229). -/
def Device.rowScratch (s : Device) (g k row : Nat) : Nat := s.playIn g k * 4096 + 4 * (row % 1024)

/-- The block begins in the pipe: O is +0, and m and l are −∞ and +0 (R229). -/
def Device.initBlock (s : Device) (g k : Nat) (w : WalkRec) (y : Geometry) (rows : List QRow) : Device :=
  let s := s.zero (workO g w y) (workO g w y + 1024 * y.width)
  if w.kind = 0 then
    rows.foldl (fun s q => s.modCluster g (fun c =>
      let key := s.rowScratch g k q.row
      { c with scratch := Tab.set 0 (Tab.set 0 c.scratch key 0xFF800000) (key + 1) 0 })) s
  else s

/-- c_i and D_i of R233. -/
def Device.rowStats (s : Device) (w : WalkRec) (r : Nat) : Word × Word :=
  (fAdd (BitVec.ofNat 32 (s.readNat (w.baseS + 8 * r) 4)) (BitVec.ofNat 32 (s.readNat (w.baseS + 8 * r + 4) 4)),
   BitVec.ofNat 32 (s.readNat (w.baseD + 4 * r) 4))

def WalkRec.seesKey (w : WalkRec) (nAct : Nat) (q : QRow) (e : KeyRef) : Bool := w.sees nAct q e.page e.filled e.key e.mark

/-- What forming a block of P, pb or ds adds to the walk and the counters. -/
structure Formed where
  dev : Device
  factors : List (Option Word)
  exps : Nat
  nans : Nat
  sats : Nat

/-- The forward pipe forms P of a group (R228), query-major in the working area, from the raw scores of each key. -/
def Device.formForward (s : Device) (g k : Nat) (w : WalkRec) (y : Geometry) (nAct id : Nat) (rows : List QRow)
    (keys : List KeyRef) (raw : List (List Word)) : Formed :=
  (List.range rows.length).foldl (fun acc i =>
    let q := nth ⟨0, 0, 0, false⟩ rows i
    let key := acc.dev.rowScratch g k q.row
    let sc := (acc.dev.cluster g).scratch
    let f := forwardRow y.fmt w.scale (Tab.get 0 sc key) (Tab.get 0 sc (key + 1))
      ((List.zip keys raw).map (fun e => (nth 0 e.2 i, w.seesKey nAct q e.1)))
    let dev := (acc.dev.modCluster g (fun c => { c with
      scratch := Tab.set 0 (Tab.set 0 c.scratch key f.m) (key + 1) f.l })).write
        (workP g w y id + i * 64 * y.eb) (f.p.flatMap (leBytes y.eb))
    ⟨dev, acc.factors ++ [f.a], acc.exps + f.exps, acc.nans + f.nans, acc.sats + f.sats⟩) ⟨s, [], 0, 0, 0⟩

/-- The backward pipe forms pb and ds from raw scores and dP (R233): ds query-major for kind 1, both key-major for kind 2. `i0`
is the first of the rows within the chunk's block rows. -/
def Device.formBackward (s : Device) (g : Nat) (w : WalkRec) (y : Geometry) (nAct id : Nat) (rows : List QRow)
    (keys : List KeyRef) (raw dp : List (List Word)) : Formed :=
  (List.range rows.length).foldl (fun acc i =>
    let q := nth ⟨0, 0, 0, false⟩ rows i
    let cd := s.rowStats w q.row
    let ps := (List.range keys.length).map (fun j =>
      backPair y.fmt w.scale cd.1 cd.2 (nth 0 (nth [] raw j) i) (nth 0 (nth [] dp j) i)
        (w.seesKey nAct q (nth ⟨0, 0, 0, 0⟩ keys j)))
    let p0 := workP g w y id
    let dev := if w.kind = 1 then acc.dev.write (p0 + i * 64 * y.eb) (ps.flatMap (fun e => leBytes y.eb e.2.1))
      else (List.range ps.length).foldl (fun s j =>
        let e := nth (0, 0, 0, 0) ps j
        (s.writeNat (p0 + j * 128 + i * y.eb) y.eb e.1).writeNat (p0 + 4096 + j * 128 + i * y.eb) y.eb e.2.1) acc.dev
    ⟨dev, acc.factors ++ [none], acc.exps + (keys.filter (w.seesKey nAct q)).length,
     acc.nans + (ps.map (·.2.2.1)).foldl (· + ·) 0, acc.sats + (ps.map (·.2.2.2)).foldl (· + ·) 0⟩) ⟨s, [], 0, 0, 0⟩

/-- The pipe folds the value or dQ tiles of a group into the FP32 copy in the working area (R228, R233, R234): the NaNs it makes
are counted. -/
def Device.foldGroup (s : Device) (g : Nat) (w : WalkRec) (y : Geometry) (rows : List QRow) (factors : List (Option Word))
    (tiles : List (List Word)) : Device × Nat :=
  (List.range rows.length).foldl (fun acc i =>
    let r := (nth ⟨0, 0, 0, false⟩ rows i).row
    (List.range y.width).foldl (fun acc d =>
      let old := s.oCell g w y r d
      let x := nth 0 (nth [] tiles d) i
      let new := if w.kind = 0 then (match nth none factors i with | some a => some (fFma old a x) | none => none)
        else some (fAdd old x)
      match new with
      | some v => (acc.1.writeNat (workO g w y + (d * 256 + r % 256) * 4) 4 v.toNat, acc.2 + (if isNan32 v then 1 else 0))
      | none => acc) acc) (s, 0)

/-- The output rows of a finished query-gradient block (R233). -/
def Device.writeQuery (s : Device) (g : Nat) (w : WalkRec) (y : Geometry) (rows : List QRow) : Device :=
  rows.foldl (fun s q =>
    let pitch := roundUp (y.width * outBytes w.fmtO) 64
    (List.range y.width).foldl (fun s d =>
      let x := s.oCell g w y q.row d
      let a := w.baseO + q.row * pitch + d * outBytes w.fmtO
      if w.fmtO = 0 then s.writeNat a 4 x.toNat
      else
        let c := convertBare w.fmtO w.rounding (s.uBits w.rounding 0 (q.row * y.width + d)) x
        ((s.writeNat a (outBytes w.fmtO) c.enc).bumpArray g 6 (if c.sat then 1 else 0)).bumpArray g 5 (if c.nan then 1 else 0)) s) s

/-- Rows that saw no key of any walked page are counted, and recorded once per walk (R238): the first names its row, the others
raise that record's count, whichever member meets them. -/
def Device.maskedRows (s : Device) (g k item number : Nat) (rows : List Nat) : Device :=
  rows.foldl (fun s row =>
    let s := s.bumpAtt g 4 1
    let first := ((s.quad (dOf g) (qOf g)).issues.find? (fun i => i.id == item)).bind (·.maskedAt)
    let r : Rec := { Rec.ofCluster Code.attRowFullyMasked (first.getD g) 3 k 0xFF with
      posKind := 4, pos := number + 0xFF0000, vals := [(4, row)] }
    match first with
    | some _ => s.log1 { r with key := 2 }
    | none => (s.logNew r).modQuad (dOf g) (qOf g) (fun x => { x with issues := x.issues.map (fun i =>
        if i.id = item then { i with maskedAt := some g } else i) })) s

/-- What the pipe formed is counted and noted on the group; a row that sees a key is one that is not fully masked. -/
def Device.noteFormed (s : Device) (g k : Nat) (r : WalkRun) (x : WGroup) (f : Formed) (saw : List Nat) (fresh : Bool) : Device :=
  (((f.dev.bumpAtt g 2 f.exps).bumpArray g 5 f.nans).bumpArray g 6 f.sats).modWalk g k r.item (fun r =>
    { (r.modGroup x.id (fun x => { x with formed := x.formed + 1, factors := f.factors })) with
      sawKey := (if fresh then [] else r.sawKey) ++ saw.filter (fun i => fresh || !r.sawKey.contains i)
      nan := r.nan || decide (f.nans ≠ 0) })

def WalkRec.sawRows (w : WalkRec) (nAct : Nat) (rows : List QRow) (keys : List KeyRef) : List Nat :=
  (rows.filter (fun q => keys.any (w.seesKey nAct q))).map (·.row)

/-- A group of kinds 0 and 1 is folded: its last descriptor completes, and the last group of a block closes its rows (R230, R233,
R238). -/
def Device.endGroup (s : Device) (g k : Nat) (w : WalkRec) (y : Geometry) (r : WalkRun) (x : WGroup) (rows : List QRow) : Device :=
  let saw := match findWalk ((s.ctx g k).items ++ (s.ctx g k).other) r.item with | some r => r.sawKey | none => []
  let s := if x.last ∧ w.kind = 1 then s.writeQuery g w y rows else s
  let s := if x.last then s.maskedRows g k r.item w.number ((rows.map (·.row)).filter (fun i => !saw.contains i)) else s
  let s := s.modWalk g k r.item (fun r => { r with
    groups := r.groups.filter (fun z => z.id != x.id)
    closing := if x.last ∧ w.kind = 0 then r.closing ++ rows.map (·.row) else r.closing })
  match x.descs.getLast? with
  | some e => s.descDone g k r.item e
  | none => s

/-- The group that opens a block waits until the block before it is closed: its groups folded and its closing rows run (R229,
R230). -/
def Device.blockFree (s : Device) (g : Nat) (r : WalkRun) (x : WGroup) : Bool :=
  decide (x.index ≠ 0) || (r.closing.isEmpty && decide (r.groups.head?.map (·.id) = some x.id) &&
    ((s.cluster g).invocation.toList ++ (s.cluster g).stopped).all (fun v => v.kind != 2 || v.item != r.item))

/-- The memory a backward pipe reads or a block's end writes waits, holds no sound data, or is not backed (R51, R54, R240). -/
def Device.pipeMemory (s : Device) (w : WalkRec) (y : Geometry) (rows : List QRow) : Bool × Option Nat :=
  let r0 := (rows.head?.map (·.row)).getD 0
  let n := rows.length
  let rd := if w.kind = 0 then [] else [(w.baseS + 8 * r0, 8 * n), (w.baseD + 4 * r0, 4 * n)]
  let wr := if w.kind = 1 then let p := roundUp (y.width * outBytes w.fmtO) 64; [(w.baseO + r0 * p, n * p)] else []
  (rd.any (fun e => s.readWaits e.1 e.2 || !s.sound e.1 e.2) || wr.any (fun e => s.writeWaits e.1 e.2),
   ((rd.find? (fun e => !s.backed e.1 e.2)).orElse (fun _ => wr.find? (fun e => !s.writable e.1 e.2))).map (·.1))

/-- SOFTMAX_PIPE_GROUP: the pipe's next piece of work of a context's walk: the fold of the oldest group whose value tiles have all
come, or else the formation of P or ds of the first group or chunk whose scores have (DESIGN CHOICE, assumption 30). -/
def Device.pipeGroup (s : Device) (g k : Nat) : Device :=
  match (s.ctx g k).items.findSome? (fun i => match i with | .walk r => if r.groups.isEmpty then none else some r | _ => none) with
  | none => s
  | some r =>
    let d := dOf g
    let w := s.walkRec d r.num
    let y := s.geometry d
    let c := s.cluster g
    match r.groups with
    | [] => s
    | x :: _ =>
      let rowsOf (x : WGroup) : List QRow := (s.blockRows d w r.nAct x.block).take x.rows
      let mem := s.pipeMemory w y (rowsOf x)
      if s.isHeld (.context g k) || s.clusterStopped g || mem.1 then s
      else if let some a := mem.2 then
        s.unbacked a (s.backed a 1) (dpCluster g 3 k 0xFF) (ctlStripe (stripeOf g)) d (.context g k)
      else if w.kind = 2 then
        match x.descs with
        | [] => s
        | e :: _ =>
          let n := 16 * e.pages.length
          let rows := ((rowsOf x).drop (64 * x.formed)).take 64
          match c.pipeRows r.item x.id 0 x.formed 1 n, c.pipeRows r.item x.id 1 x.formed 1 n with
          | some raw, some dp =>
            if rows.isEmpty then s
            else
              let f := s.formBackward g w y r.nAct x.formed rows e.keys raw dp
              let f := { f with dev := f.dev.modCluster g (fun c => { c with pipe := c.pipe.filter (fun z =>
                !(z.item == r.item && z.group == x.id && decide (z.part = x.formed))) }) }
              s.noteFormed g k r x f (w.sawRows r.nAct rows e.keys) false
          | _, _ => s
      else if x.descs.isEmpty then
        if s.blockFree g r x then
          ((s.initBlock g k w y (rowsOf x)).modWalk g k r.item (fun r => { r with sawKey := [] })).endGroup g k w y r x (rowsOf x)
        else s
      else
        match (if x.formed = 1 then c.pipeRows r.item x.id 2 0 (y.width / 8) 8 else none) with
        | some tiles =>
          let (s, nans) := s.foldGroup g w y (rowsOf x) x.factors tiles
          let s := ((s.bumpArray g 5 nans).modCluster g (fun c => c.dropRows r.item x.id 2 3)).modWalk g k r.item (fun r =>
            { r with nan := r.nan || decide (nans ≠ 0) })
          s.endGroup g k w y r x (rowsOf x)
        | none =>
          match r.groups.find? (fun z => decide (z.formed = 0)) with
          | none => s
          | some z =>
            let n := 2 * z.descs.length
            let keys := z.descs.flatMap Desc.keys
            match c.pipeRows r.item z.id 0 0 n 8,
                (if w.kind = 1 then c.pipeRows r.item z.id 1 0 n 8 else some []) with
            | some raw, some dp =>
              if z.descs.isEmpty || !s.blockFree g r z then s
              else
                let rows := rowsOf z
                let s := if z.index = 0 then s.initBlock g k w y rows else s
                let f := if w.kind = 0 then s.formForward g k w y r.nAct z.id rows keys raw
                  else s.formBackward g w y r.nAct z.id rows keys raw dp
                s.noteFormed g k r z { f with dev := f.dev.modCluster g (fun c => c.dropRows r.item z.id 0 2) }
                  (w.sawRows r.nAct rows keys) (z.index == 0)
            | _, _ => s

def execSoftmaxPipeGroup (g ctx : Nat) (s : State) : Host.Outcome State Fault Refusal :=
  .next (s.onDev (fun v => v.pipeGroup g ctx))

end Sys2Proof.Machine
end

