-- ==== Sys2Proof/Machine/Feed.lean ====
section
/-! DEFINITION. What feeds the array's edges: frames of the input bank, the weight queue's fill port and the quadrant's multicast
engine, for tables and walks alike (R106, R107, R136, R137, R206). -/

namespace Sys2Proof.Machine

/-- FRAME_LOAD (R106, R136, R206): the item the context stands at loads the frame its next passes lack. -/
def Device.loadFrame (s : Device) (g k : Nat) : Device :=
  if s.isHeld (.context g k) || s.clusterStopped g then s
  else
    match s.headItem g k with
    | some (.table t) => s.loadTableFrame g k t (s.table (dOf g) t.num)
    | some (.walk r) => s.loadWalkFrame g k r
    | _ => s

def execFrameLoad (g ctx : Nat) (s : State) : Host.Outcome State Fault Refusal :=
  .next (s.onDev (fun d => d.loadFrame g ctx))

/-- An item takes its weights from the cluster's own tile store (R107, R123, R229). -/
def Device.feedsLocal (s : Device) (g k item : Nat) : Bool :=
  match ((s.ctx g k).items ++ (s.ctx g k).other).find? (fun i => i.id == item) with
  | some (.table t) => (s.table (dOf g) t.num).bLocal
  | some (.walk r) => (s.walkRec (dOf g) r.num).kind != 2
  | _ => false

/-- What a context fetches next: the rest of the block a started pass waits for, else the first tile that the item it stands at
will need. -/
def Device.nextFetch (s : Device) (g k : Nat) : Option Fetch :=
  let c := s.cluster g
  match c.startedFetch k with
  | some f => some f
  | none =>
    match s.headItem g k with
    | some (.table t) =>
      let tab := s.table (dOf g) t.num
      c.tableFetch g k t tab 4096 t.pos (c.heldAhead (tab.shape - 2))
    | some (.walk r) => s.walkFetch g k r
    | _ => none

/-- The queue takes bytes for a fetch now: nothing holds, the shape is the one in force or being entered, and the tile can be read
(R107, R111). -/
def Device.fetchOpen (s : Device) (g k : Nat) (f : Fetch) : Bool :=
  !s.isHeld (.context g k) && !s.clusterStopped g && (s.cluster g).shapeOpen f.shape && s.feedOpen f.feed

/-- WEIGHT_QUEUE_FILL (R107): the fill port delivers up to 512 bytes of a context's next tile from the cluster's own store. -/
def Device.fillWeights (s : Device) (g k n : Nat) : Device :=
  match s.nextFetch g k with
  | some f => if s.feedsLocal g k f.item && decide (n ≤ 512) && s.fetchOpen g k f then s.deliver g k f n else s
  | none => s

def execWeightQueueFill (g ctx bytes : Nat) (s : State) : Host.Outcome State Fault Refusal :=
  .next (s.onDev (fun d => d.fillWeights g ctx bytes))

/-! ## Multicast (R137) -/

/-- What a member of an issue still needs next, whether it stands at that issue or not: a member that is at an earlier item, or
whose play is out of its context, is waited for (R137, R147). -/
structure Need where
  g : Nat
  fetch : Fetch
  order : Nat
  here : Bool
  deriving DecidableEq, Repr

/-- The place of a kind-2 walk's tile in the order all members share: the round of pairs, the block, and the pass in the
sequence of the block's chunks (R235). -/
def walkOrd (width : Nat) (p : Pass) (x : WGroup) : Nat :=
  let t := 2 * (width / 64)
  (x.round * 2 ^ 32 + x.block) * 2 ^ 20 +
    (if p.stage ≤ 1 then let n := 2 * p.part + p.stage; n + t * (n / 2 - 1)
     else min (2 * ceilDiv x.rows 64) (2 * (p.part / max 1 t + 2)) + p.part)

def Device.memberNeed (s : Device) (g k item : Nat) : Option Need :=
  let c := s.cluster g
  let here := (s.headItem g k).any (fun i => i.id == item)
  match ((s.ctx g k).items ++ (s.ctx g k).other).find? (fun i => i.id == item) with
  | some (.table t) =>
    let tab := s.table (dOf g) t.num
    match (c.startedFetch k).filter (fun f => f.item == item) with
    | some f => some ⟨g, f, f.point, true⟩
    | none =>
      (c.tableFetch g k t tab 4096 t.pos (if here then c.heldAhead (tab.shape - 2) else none)).map (fun f => ⟨g, f, f.point, here⟩)
  | some (.walk r) =>
    let ord (p : Pass) : Nat := match r.groups.find? (fun x => x.id == p.group) with
      | some x => walkOrd (s.geometry (dOf g)).width p x
      | none => 0
    match (c.startedFetch k).filter (fun f => f.item == item) with
    | some f => (c.issuing.find? (fun p => p.item == item && p.point == f.point)).map (fun p => ⟨g, f, ord p, true⟩)
    | none =>
      match s.walkFetch g k r, s.walkNext g k r with
      | some f, some n => some ⟨g, f, ord n.pass, here⟩
      | _, _ => none
  | _ => none

/-- The issues of a context whose B the multicast engine fetches: tables of that class, and kind-2 records (R137, R235). -/
def Device.castIssues (s : Device) (d q k : Nat) : List Issue :=
  (s.quad d q).issues.filter (fun i => i.ctx == k &&
    ((i.kind == 1 && (let t := s.table d i.index; t.reuseB == 1 && !t.bLocal)) ||
      (i.kind == 2 && (s.walkRec d i.index).kind == 2)))

/-- The next delivery of an issue: the earliest tile that any member needs, with the members that need it. The order
is that of the walk, which every member shares. -/
def nextCast (needs : List Need) : List Need :=
  match needs.foldl (fun (b : Option Need) e => match b with
      | none => some e
      | some x => if e.order < x.order then some e else some x) none with
  | none => []
  | some x => needs.filter (fun e => e.fetch.feed.same x.fetch.feed && e.order == x.order)

/-- The B deliveries of an issue: what every receiver has space for (R137). Each receiver counts the cycles it waited for another
member (R148). -/
def Device.castB (s : Device) (q k : Nat) (d : Nat) (i : Issue) (waits : List (Nat × Nat)) : Option Device :=
  let recv := nextCast (i.members.filterMap (fun c => s.memberNeed (gOf d q c) k i.id))
  let room (e : Need) : Nat := if e.here && s.fetchOpen e.g k e.fetch then (s.cluster e.g).fetchRoom k e.fetch e.fetch.feed.size else 0
  let n := recv.foldl (fun n e => min n (room e)) (recv.headD ⟨0, ⟨0, 0, 0, 0, ⟨0, 0, 0, 0, 0, 0, 0⟩, false⟩, 0, false⟩).fetch.feed.size
  if recv.isEmpty ∨ n = 0 then none
  else some (recv.foldl (fun s e =>
    (s.deliver e.g k e.fetch n).bumpLoop e.g 7 (((waits.find? (fun w => w.1 == cOf e.g)).map (·.2)).getD 0)) s)

/-- The next point of a table run whose C tile its epilogue reads. -/
def TableRun.nextC (t : TableRun) (tab : LoopTable) : Nat → Nat → Option (Nat × PointPass)
  | 0, _ => none
  | f + 1, p =>
    match t.nextFrom tab p with
    | (some p, _) =>
      match t.passAt tab p with
      | some pp => if pp.readout then some (p, pp) else t.nextC tab f (p + 1)
      | none => none
    | (none, _) => none

/-- C tiles a member's side buffer holds at most for a context (DESIGN CHOICE, assumption 81). -/
def sideRoom : Nat := 2

/-- The C delivery of an issue (R137): the earliest tile due, to every member that has an unskipped pass at its point, once their
side buffers have space. -/
def Device.castC (s : Device) (q k : Nat) (d : Nat) (i : Issue) (waits : List (Nat × Nat)) : Option Device :=
  let tab := s.table d i.index
  let due := i.members.filterMap (fun c =>
    let g := gOf d q c
    (findTable ((s.ctx g k).items ++ (s.ctx g k).other) i.id).bind (fun t => (t.nextC tab 4096 t.cNext).map (fun e => (g, e.1, e.2))))
  match due.foldl (fun (b : Option Nat) e => some (match b with | none => e.2.1 | some x => min x e.2.1)) none with
  | none => none
  | some p =>
    let recv := due.filter (fun e => e.2.1 == p)
    let pass (e : Nat × Nat × PointPass) : Pass :=
      match findTable ((s.ctx e.1 k).items ++ (s.ctx e.1 k).other) i.id with
      | some t => s.makePass e.1 k t tab p e.2.2 0
      | none => s.makePass e.1 k ⟨i.id, i.index, 0, 0, 0, 0, 0, 0, 0⟩ tab p e.2.2 0
    let room (g : Nat) : Bool := !s.clusterStopped g &&
      decide (((s.cluster g).sides.filter (fun x => x.ctx == k)).length < sideRoom)
    let ok (e : Nat × Nat × PointPass) : Bool := room e.1 &&
      (List.range e.2.2.rows).all (fun r => let a := (s.cElems e.1 (pass e) r 0 e.2.2.cols).2
        !s.readWaits a 1 && s.backed a 1 && s.sound a (runBytes tab.fmtO e.2.2.cols))
    if recv.isEmpty || !recv.all ok then none
    else some (recv.foldl (fun s e =>
      let x : SideTile := ⟨k, i.id, p, (List.range e.2.2.rows).map (fun r => (s.cElems e.1 (pass e) r 0 e.2.2.cols).1)⟩
      (((s.modCluster e.1 (fun c => { c with sides := c.sides ++ [x] })).modTable e.1 k i.id (fun t => { t with cNext := p + 1 })).bumpLoop
        e.1 7 (((waits.find? (fun w => w.1 == cOf e.1)).map (·.2)).getD 0))) s)

/-- MULTICAST_DELIVERY (R137): the engine's next delivery of a context, B before C, in the order of the issues. `waits` gives, for
each cluster, the cycles the delivery to it waited for another member. -/
def Device.multicast (s : Device) (d q k : Nat) (waits : List (Nat × Nat)) : Device :=
  if s.isHeld (.multicast d q k) then s
  else
    match (s.castIssues d q k).findSome? (fun i => s.castB q k d i waits) with
    | some s => s
    | none =>
      (((s.quad d q).issues.filter (fun i => i.ctx == k && i.kind == 1 &&
        (let t := s.table d i.index; t.cPresent && t.reuseC == 1))).findSome? (fun i => s.castC q k d i waits)).getD s

def execMulticastDelivery (d q ctx : Nat) (waits : List (Nat × Nat)) (s : State) : Host.Outcome State Fault Refusal :=
  .next (s.onDev (fun v => v.multicast d q ctx waits))

end Sys2Proof.Machine
end

