-- ==== Sys2Proof/Machine/Energy.lean ====
section
/-! DEFINITION. Profiles, energy budgets and charges (R388, R389, R396), and what the head of a context needs
(R380, R386, R387). -/

namespace Sys2Proof.Machine

/-! ## Profiles (R389, R396) -/

/-- Shed level 2 or higher caps the clock (R396). -/
def Device.capped (s : Device) : Bool := decide (2 ≤ s.power.level)

/-- The effective profile as a code of R389 (DEDUCED, assumption 76). -/
def Device.effective (s : Device) : Nat :=
  if s.boot.service ≠ 2 then 3
  else
    let p := max s.power.request s.power.maxProfile
    if s.capped then max p 2 else p

/-- The profile whose refill and factor a die takes now: a fall applies at once, a rise only after the last clock step
(R397). -/
def Device.budget (s : Device) (d : Nat) : Nat := max s.effective (s.die d).clock

def baseTable (p : Nat) : Nat := if p = 0 then 1200000 else if p = 1 then 750000 else if p = 2 then 450000 else 160000
/-- Module input maximum in units of 10 W. -/
def inputTable (p : Nat) : Nat := if p = 0 then 500 else if p = 1 then 360 else if p = 2 then 250 else 35
/-- Energy factor in hundredths. -/
def factorTable (p : Nat) : Nat := if p = 0 then 100 else if p = 1 then 80 else if p = 2 then 64 else 40

/-- The base refill of a stripe of a die, scaled by any input cap of the hamper (R389). -/
def Device.baseRefill (s : Device) (d : Nat) : Nat :=
  let p := s.budget d
  let cap := match s.hamper with | some h => h.inputCap | none => 0
  if cap = 0 ∨ inputTable p ≤ cap then baseTable p else baseTable p * cap / inputTable p

/-- The pool's cap (R388). -/
def Device.poolCap (s : Device) (t : Nat) : Int := 4 * s.baseRefill (t / 6)

/-- The die runs its arithmetic (R389). -/
def Device.dieRuns (s : Device) (d : Nat) : Bool := s.dieServes d && decide ((s.die d).power = 0)

/-! ## The head of a context (R387, R391) -/

/-- What a context's dispatcher would start next. -/
inductive Head where
  | pass (t : TableRun) (tab : LoopTable) (pp : PointPass)
  | walk (r : WalkRun) (n : WalkPass)
  | rows (r : RowRun)
  deriving DecidableEq, Repr

def Device.head (s : Device) (g k : Nat) : Option Head :=
  match s.headItem g k with
  | some (.table t) =>
    let tab := s.table (dOf g) t.num
    (t.passAt tab t.pos).map (fun pp => .pass t tab pp)
  | some (.walk r) => (s.walkNext g k r).map (fun n => .walk r n)
  | some (.rows r) => some (.rows r)
  | none => none

/-- The array pass a head would start. -/
def Device.headPass (s : Device) (g k : Nat) : Head → Option Pass
  | .pass t tab pp => some (s.makePass g k t tab t.pos pp 0)
  | .walk _ n => some n.pass
  | .rows _ => none

/-- The head runs on the vector unit or the address generator, not on the array. -/
def Head.onVector : Head → Bool
  | .rows _ => true
  | _ => false

/-- The energy estimate of a head (R142, R194, R227); a later pass of a descriptor needs none. -/
def Device.estimate (s : Device) (g : Nat) : Head → Nat
  | .pass _ tab pp =>
    if pp.len = 0 then 1
    else ceilDiv (tab.energy * issueCycles tab.fmtA pp.len) (issueCycles tab.fmtA tab.red)
  | .walk r n => if n.first then (s.walkRec (dOf g) r.num).energy else 0
  | .rows r => min 256 (s.itemRows (dOf g) (qOf g) r - r.granted) * s.itemRowEnergy (dOf g) (qOf g) r

/-- The charge (R388): ceil(estimate × energy factor). -/
def Device.charge (s : Device) (g : Nat) (h : Head) : Nat :=
  ceilDiv (s.estimate g h * factorTable (s.budget (dOf g))) 100

/-- The array takes a pass of the format in the profile (R117). -/
def Device.formatOk (s : Device) (fmt : Nat) : Bool := decide (s.effective ≠ 3) || decide (fmtGroup fmt = 1)

/-- The addresses a head's accesses start at, for R54. -/
def Device.headAddrs (s : Device) (g : Nat) : Head → List Nat
  | .pass _ tab _ => [localBase tab.aLocal g tab.baseA, localBase tab.bLocal g tab.baseB, tab.baseO]
  | .walk r _ => let w := s.walkRec (dOf g) r.num; [w.baseQ, w.baseO]
  | .rows r =>
    if r.field then let f := s.fieldDesc (dOf g) (qOf g) r.index; [f.baseI, f.baseO]
    else let v := s.vpass (dOf g) (qOf g) r.index; [v.baseI, v.baseO]

/-- The array passes a cluster has started in a play (R46). -/
def Device.playPasses (s : Device) (g play : Nat) : Nat := Tab.get 0 (s.quad (dOf g) (qOf g)).playPasses (8 * cOf g + play)

/-- A fetch whose consumer is the next pass of the cluster in the play in residence lacks only its post token (R47). A pass is
numbered from 1 in its play, cluster by cluster (DEDUCED, assumption 79). -/
def Device.lateFetch (s : Device) (g k : Nat) : Option (Nat × MoveRun) :=
  let x := s.quad (dOf g) (qOf g)
  let play := s.playIn g k
  ((List.range x.moves.length).zip x.moves).find? (fun e =>
    let m := elemAt (s.sec 0x1A (dOf g) (qOf g) 255) 32 e.2.index
    decide (fld m 26 1 = 1) && decide (fld m 18 2 ≠ 0xFFFF) && e.2.play == play &&
      decide (fld m 20 4 = s.playPasses g play + 1))

/-- The shape in force takes the pass and its issue port is free (R99, R111). -/
def Cluster.portFree (c : Cluster) (p : Pass) : Bool :=
  c.target.isNone && decide (c.shape = wholeShape p.shape) && (firstOfHalf c.issuing p.half).isNone

/-- The head's internal tokens: the frame loaded, the shape in force and the issue port free for a pass; the groups before it run,
for rows (R106, R111, R155). -/
def Device.headTokens (s : Device) (g k : Nat) : Head → Bool
  | .pass t tab pp =>
    let c := s.cluster g
    c.portFree (s.makePass g k t tab t.pos pp 0) &&
      (pp.len = 0 || (c.frameOf (frameKey tab (s.window (dOf g) t.num) t.item g t.pos pp) pp.rows pp.len).isSome)
  | .walk r n =>
    let c := s.cluster g
    c.portFree n.pass && (c.frameOf n.key n.pass.rows n.pass.len).isSome && s.walkPrepared g r n
  | .rows r =>
    let earlier := (s.ctx g k).items.takeWhile (fun i => match i with | .rows x => x.item != r.item | _ => true)
    decide (r.next = r.granted) && (!r.field || earlier.all (s.itemFinished g))

/-- Buffer credits (R386). -/
def Device.headBuffer (s : Device) (g k : Nat) (h : Head) : Bool :=
  match s.headPass g k h with
  | some p => decide ((s.cluster g).bufferUsed + p.bufferBytes ≤ 32768)
  | none => true

/-- A pass waits for a held array (R113 to R115): in split shape that of its own half, but a pass of another shape, which would
have to leave split shape, waits for either. -/
def Device.arrayStops (s : Device) (g : Nat) (p : Pass) : Bool :=
  if (s.cluster g).shape = 2 ∧ 2 ≤ p.shape then s.isHeld (.array g p.half) else s.isHeld (.array g 0) || s.isHeld (.array g 1)

/-- Every condition of a head but energy, as the held reason of R387; ramp limits are timing and are not kept. -/
def Device.heldReason (s : Device) (g k : Nat) : Nat :=
  match s.head g k with
  | none => if (s.ctx g k).items.isEmpty ∧ ¬(s.ctx g k).other.isEmpty then 6 else 0
  | some h =>
    let codes := s.ctxHolds g k
    let memory := [Code.memHbmUncorrectable, Code.memLpUncorrectable, Code.memAddressUnbacked, Code.memStoreParity]
    let pass := s.headPass g k h
    if codes.any (fun c => c != Code.arrFormatUnavailable && !memory.contains c) then 1
    else if s.stepSuspended then 11
    else if codes.any memory.contains then 2
    else if pass.any (s.arrayStops g) then 3
    else if codes.contains Code.arrFormatUnavailable || pass.any (fun p => !s.formatOk p.fmtA) then 4
    else if s.dieParked (dOf g) || (s.headAddrs g h).any (fun a => (s.waitsForDie a).isSome) then 5
    else if (pass.isSome && (s.lateFetch g k).isSome) || !s.headTokens g k h then 7
    else if !s.headBuffer g k h then 8
    else if (s.ctx g k).energyHeld then 9
    else 0

end Sys2Proof.Machine
end

