-- ==== Sys2Proof/Machine/Start.lean ====
section
/-! DEFINITION. The dispatcher: starting an item, energy grants, priority requests, format holds and rotation (R46, R47,
R103, R117, R362, R380, R391 to R394). -/

namespace Sys2Proof.Machine

/-! ## Holds found as an item would start -/

/-- The slot of a pass that does not start it carries another shape (R103). -/
def Cluster.slotMismatch (c : Cluster) (p : Pass) : Bool :=
  let tag := Tab.get 0 c.slotTags p.slot
  !p.init && tag != 0 && tag != shapeTag p.shape

/-- A walk's pass would replay, and no held block matches (R108). -/
def Device.replayMissing (s : Device) (g : Nat) : Head → Bool
  | .walk r n => (s.walkSource g (s.walkRec (dOf g) r.num).kind r n).isNone
  | _ => false

/-- The context may start its head: no reason above energy applies (R387, R391). -/
def Device.headReady (s : Device) (g k : Nat) (vector : Bool) : Option Head :=
  match s.head g k with
  | some h =>
    let r := s.heldReason g k
    if h.onVector = vector ∧ (r = 0 ∨ r = 9) ∧ s.running ∧ s.dieRuns (dOf g) ∧ ¬ s.clusterOut g ∧
        ¬ (s.headPass g k h).any (s.cluster g).slotMismatch ∧ ¬ s.replayMissing g h
    then some h else none
  | none => none

/-- The pool covers a charge, or stands at its cap below it (R391). A later pass of a descriptor needs none (R227). -/
def Device.energyFor (s : Device) (g : Nat) (h : Head) : Bool :=
  let x := s.stripe (stripeOf g)
  let charge := s.charge g h
  decide (charge = 0) || decide ((charge : Int) ≤ x.pool) ||
    (decide (s.poolCap (stripeOf g) < charge) && decide (s.poolCap (stripeOf g) ≤ x.pool))

/-- A context whose head cannot start for a cause that holds it: the array does not accept the format in the profile
(R117), a slot of another shape (R103), a replay without its block (R108), or a fetch that alone is late (R47). -/
def Device.noteHead (s : Device) (g k : Nat) : Device :=
  match s.head g k with
  | none => s
  | some h =>
    match s.headPass g k h with
    | none => s
    | some p =>
      let pos (r : Rec) : Rec := { r with posKind := 4, pos := p.table + 0xFF0000 }
      if !(s.ctxHolds g k).isEmpty || !s.running then s
      else if !s.formatOk p.fmtA then
        s.hold (pos (Rec.ofCluster Code.arrFormatUnavailable g 4 k 0xFF)) (.context g k)
      else if !s.headTokens g k h || !s.headBuffer g k h then s
      else if (s.cluster g).slotMismatch p then
        s.hold { pos (Rec.ofCluster Code.arrSlotShapeMismatch g 0 k p.slot) with
          vals := [(1, Tab.get 0 (s.cluster g).slotTags p.slot), (1, shapeTag p.shape)] } (.context g k)
      else if s.replayMissing g h then
        s.hold { pos (Rec.ofCluster Code.arrSlotShapeMismatch g 0 k p.slot) with tag := 9 } (.context g k)
      else
        match s.lateFetch g k with
        | some (i, m) =>
          if m.lateReported || !s.energyFor g h then s
          else
            let b := elemAt (s.sec 0x1A (dOf g) (qOf g) 255) 32 m.index
            let s := s.modQuad (dOf g) (qOf g) (fun x => { x with moves := putAt x.moves i ({ m with lateReported := true }) })
            s.log1 { Rec.ofCluster Code.memOffloadLate g 4 k 0xFF with vals := [(2, fld b 28 2), (4, fld b 20 4), (4, fld b 12 4)] }
        | none => s

/-! ## Starting (R391 to R393) -/

/-- The name a stripe keeps a priority request under. -/
def requestKey (g k : Nat) : Nat := 4 * g + k

/-- The stripe grants the whole charge and the item starts (R393). -/
def Device.startHead (s : Device) (g k : Nat) (h : Head) : Device :=
  let t := stripeOf g
  let charge := s.charge g h
  let s := s.modStripe t (fun x => { x with pool := x.pool - charge, priorities := x.priorities.erase (requestKey g k) })
  let s := (s.bumpStripe t 0 charge).modCtx g k (fun c => { c with energyHeld := false, starved := false, priority := false })
  let s := s.modDie (dOf g) (fun x => { x with gated := false, requests := x.requests.erase (requestKey g k) })
  let s := if (s.headPass g k h).isNone then s else s.modQuad (dOf g) (qOf g) (fun x => { x with
    passes := x.passes + 1
    playPasses := let key := 8 * cOf g + s.playIn g k; Tab.set 0 x.playPasses key (Tab.get 0 x.playPasses key + 1) })
  match h with
  | .pass r tab pp =>
    let key := frameKey tab (s.window (dOf g) r.num) r.item g r.pos pp
    let off := match (s.cluster g).frameOf key pp.rows pp.len with | some b => b.off | none => 0
    s.startPass g k r tab (s.makePass g k r tab r.pos pp off) pp key
  | .walk r n => s.startWalkPass g k r n
  | .rows r =>
    let n := min 256 (s.itemRows (dOf g) (qOf g) r - r.granted)
    if r.field ∧ (s.fieldDesc (dOf g) (qOf g) r.index).kind ≠ 2 then s.runRegroup g k r n
    else s.modRows g k r.item (fun x => { x with
      granted := x.granted + n, outside := false
      expo := if r.field then 0 else s.vpassExpo (dOf g) (s.vpass (dOf g) (qOf g) r.index) })

/-- A priority request is granted when it is the stripe's oldest and the pool covers it, or stands at its cap (R392). -/
def Device.grantPriority (s : Device) (g k : Nat) (h : Head) : Bool :=
  let x := s.stripe (stripeOf g)
  decide (x.priorities.head? = some (requestKey g k)) &&
    (decide ((s.charge g h : Int) ≤ x.pool) ||
      (decide (s.poolCap (stripeOf g) < s.charge g h) && decide (s.poolCap (stripeOf g) ≤ x.pool)))

/-- ITEM_START (R380, R391): the choice among ready contexts, in the order their heads became ready
(DESIGN CHOICE, assumption 36). -/
def Device.itemStart (s : Device) (g : Nat) (vector : Bool) (order : List Nat) : Device :=
  let s := (List.range 4).foldl (fun s k => s.noteHead g k) s
  let ready := ((order.filter (· < 4) ++ List.range 4).eraseDups).filterMap (fun k =>
    (s.headReady g k vector).map (fun h => (k, h)))
  let x := s.stripe (stripeOf g)
  match ready.find? (fun e => (s.ctx g e.1).priority) with
  | some (k, h) => if s.grantPriority g k h then s.startHead g k h else s
  | none =>
    match ready with
    | [] => s
    | (k0, h0) :: _ =>
      match ready.find? (fun e => decide (s.charge g e.2 = 0) ||
          (x.priorities.isEmpty && decide ((s.charge g e.2 : Int) ≤ x.pool))) with
      | some (k, h) => s.startHead g k h
      | none =>
        if x.priorities.isEmpty ∧ s.poolCap (stripeOf g) < s.charge g h0 ∧ s.poolCap (stripeOf g) ≤ x.pool then
          s.startHead g k0 h0
        else s.modCtx g k0 (fun c => { c with energyHeld := true })

def execItemStart (g : Nat) (vector : Bool) (order : List Nat) (s : State) : Host.Outcome State Fault Refusal :=
  .next (s.onDev (fun v => v.itemStart g vector order))

/-- PRIORITY_REQUEST (R392): an item held for energy becomes a priority request of its stripe. -/
def Device.priorityRequest (s : Device) (g k : Nat) (vector : Bool) : Device :=
  let c := s.ctx g k
  match s.headReady g k vector with
  | some _ =>
    if c.energyHeld ∧ ¬c.priority then
      (((s.modCtx g k (fun c => { c with priority := true })).modStripe (stripeOf g) (fun x =>
        { x with priorities := x.priorities ++ [requestKey g k] })).modDie (dOf g) (fun x =>
        { x with requests := x.requests ++ [requestKey g k] })).bumpStripe (stripeOf g) 2 1
    else s
  | none => s

def execPriorityRequest (g ctx : Nat) (vector : Bool) (s : State) : Host.Outcome State Fault Refusal :=
  .next (s.onDev (fun v => v.priorityRequest g ctx vector))

/-! ## Starved items (R394) -/

/-- The thermal factor of R399 as a fraction: numerator and denominator, temperatures in 1/16 °C. -/
def thermalFactor (temp : Int) : Nat × Nat :=
  if temp < 95 * 16 then (1, 1) else if temp < 105 * 16 then ((105 * 16 - temp).toNat, 160) else (0, 1)

/-- The current factor of R390: 1 up to 202 A, else 202 A over the average. -/
def currentFactor (current : Int) : Nat × Nat := if current ≤ 2020 then (1, 1) else (2020, current.toNat)

/-- A fraction in units of 1/128, truncated (R394). -/
def in128 (f : Nat × Nat) : Nat := f.1 * 128 / max 1 f.2

/-- PWR_CREDIT_STARVED (R394): the hold time reached the limit, or one further whole limit of it. -/
def Device.creditStarved (s : Device) (g k : Nat) (vector : Bool) : Device :=
  match s.headReady g k vector with
  | some h =>
    let c := s.ctx g k
    if !c.energyHeld then s
    else
      let x := s.stripe (stripeOf g)
      let fI := if x.overcurrentBefore then (0, 1) else currentFactor x.current
      let r : Rec := { Rec.ofCluster Code.pwrCreditStarved g 4 k 0xFF with
        vals := [(4, s.charge g h), (4, wrapInt 32 x.pool), (4, x.refill.toNat), (1, in128 (thermalFactor x.temp)),
                 (1, in128 fI)] }
      (if c.starved then s.log1 { r with key := 1 } else s.log1 r).modCtx g k (fun c => { c with starved := true })
  | none => s

def execPwrCreditStarved (g ctx : Nat) (vector : Bool) (s : State) : Host.Outcome State Fault Refusal :=
  .next (s.onDev (fun v => v.creditStarved g ctx vector))

/-! ## Format holds (R117) -/

/-- FORMAT_HOLD_RELEASE: the profile allows the group, the hold ends and its record is marked decided. -/
def Device.formatRelease (s : Device) (g k : Nat) : Device :=
  match s.log.holds.find? (fun h => h.site == .context g k && h.code == Code.arrFormatUnavailable),
      (s.head g k).bind (s.headPass g k) with
  | some h, some p => if s.formatOk p.fmtA then s.unhold h else s
  | _, _ => s

def execFormatHoldRelease (g ctx : Nat) (s : State) : Host.Outcome State Fault Refusal :=
  .next (s.onDev (fun v => v.formatRelease g ctx))

/-! ## Items of a context and rotation (R356, R362) -/

/-- An item joins the queue of its play: the play in residence, or the other one; an idle context is entered at once. -/
def Device.pushItem (s : Device) (g play : Nat) (i : Item) : Device :=
  let k := play % 4
  let c := s.ctx g k
  if c.resident = play / 4 then s.modCtx g k (fun c => { c with items := c.items ++ [i] })
  else if c.items.isEmpty then
    s.modCtx g k (fun c => { c with resident := play / 4, items := c.other ++ [i], other := c.items })
  else s.modCtx g k (fun c => { c with other := c.other ++ [i] })

/-- A table stands between groups: none of its passes is outstanding, and the group of its next point is not begun, since that
point is the first unskipped one of its group (R104, R131, R147). -/
def Device.tableBoundary (s : Device) (g : Nat) (t : TableRun) : Bool :=
  let tab := s.table (dOf g) t.num
  let outer (p : Nat) : Nat := mixed tab.outerSet (tab.at t.rank p)
  decide (t.outstanding = 0) &&
    (t.done tab || match t.passAt tab t.pos with
      | some pp => pp.init && (List.range t.pos).all (fun p => outer p != outer t.pos || (t.passAt tab p).isNone)
      | none => true)

/-- The resident play stands at a boundary (R104, R155, R227): none of its passes is in flight or has a live slot, its
groups are run, and its walk stands between groups or pairs (DEDUCED, assumption 69). -/
def Device.atBoundary (s : Device) (g k : Nat) : Bool :=
  let c := s.cluster g
  !(c.inFlight ++ c.draining).any (fun p => p.ctx == k) && !c.epilogue.any (fun r => r.pass.ctx == k) &&
    (c.invocation.toList ++ c.stopped).all (fun v => v.ctx != k) &&
    (c.ctx k).items.all (fun i => match i with
      | .table t => s.tableBoundary g t
      | .walk w => w.groups.isEmpty && w.closing.isEmpty && w.pair.isEmpty
      | .rows r => decide (r.next = r.granted))

/-- CONTEXT_ROTATION (R362): the other play enters; the held weight block is dropped, so the first pass that would
replay streams again (R138) (DEDUCED, assumption 69). -/
def Device.rotate (s : Device) (g k : Nat) : Device :=
  let c := s.ctx g k
  if c.items.isEmpty ∨ c.other.isEmpty ∨ ¬ s.atBoundary g k then s
  else
    let s := s.modCluster g (fun x => { x with
      held := x.held.filter (fun e => match e.2 with | some b => b.ctx != k | none => true)
      queue := x.queue.filter (fun b => b.ctx != k) })
    (s.modCtx g k (fun c => { c with
      resident := 1 - c.resident, items := c.other.map Item.requeue, other := c.items.map Item.requeue })).bump
      (clusterBlock g + 0x150) 1

def execContextRotation (g ctx : Nat) (s : State) : Host.Outcome State Fault Refusal :=
  .next (s.onDev (fun v => v.rotate g ctx))

/-! ## Moves (R46) -/

def Device.moveBytes (s : Device) (d q i : Nat) : List Byte := elemAt (s.sec 0x1A d q 255) 32 i

/-- The array passes a play has issued in a quadrant: those of the cluster that has issued the most (R46). Passes of one
cluster are numbered in order; a quadrant's clusters share a play's tables, so the furthest of them decides
(DESIGN CHOICE, assumption 79). -/
def Device.playIssued (s : Device) (d q play : Nat) : Nat :=
  (List.range 36).foldl (fun n c => max n (s.playPasses (gOf d q c) play)) 0

/-- The move may start: its token, and its lead point (R46). The play has started when a pass number of zero or less is asked
for, since its own MOVE command has been taken (DESIGN CHOICE, assumption 79). -/
def Device.moveEligible (s : Device) (d q : Nat) (m : MoveRun) : Bool :=
  let b := s.moveBytes d q m.index
  (m.waitMet || s.tokenMet (fld b 16 2) 0) &&
    (decide (fld b 20 4 = 0xFFFFFFFF) || decide (fld b 20 4 ≤ s.playIssued d q m.play + fld b 24 2))

/-- The moves of a quadrant's queue that stand before any held one: everything behind a held move holds (R51). -/
def Device.openMoves (s : Device) (d q : Nat) : List MoveRun :=
  (s.quad d q).moves.takeWhile (fun m => match m.engine with | some e => !s.isHeld (.move d q e) | none => true)

/-- A free move engine of the quadrant's two (R44). -/
def Device.freeEngine (s : Device) (d q : Nat) : Option Nat :=
  (List.range 2).find? (fun e => !(s.quad d q).moves.any (fun m => m.engine == some e))

/-- The engine index on the die of a quadrant's engine. -/
def engineOf (q e : Nat) : Nat := 2 * q + e

/-- MOVE_START: the first eligible move of the queue starts on a free engine. The order of the descriptors is read as the order
in which the MOVE commands put them into the queue (DESIGN CHOICE, assumption 80). -/
def Device.moveStart (s : Device) (d q : Nat) : Device :=
  let l := s.openMoves d q
  match s.freeEngine d q, ((List.range l.length).zip l).find? (fun e =>
      e.2.engine.isNone && s.moveEligible d q e.2) with
  | some e, some (i, m) =>
    if s.stepSuspended || s.isHeld .job || s.job.state != 6 || s.dieParked d then s
    else
      let b := s.moveBytes d q m.index
      let s := if m.waitMet then s else s.takeToken (fld b 16 2)
      let s := s.modQuad d q (fun x => { x with moves := putAt x.moves i ({ m with
        engine := some e, waitMet := true, gate := s.readGate (fld b 0 6) }) })
      let src := fld b 0 6
      let dst := fld b 6 6
      let n := fld b 12 4
      if !s.backed src n then
        s.unbacked src false (dpDie d 1 (engineOf q e)) 0 d (.move d q e)
      else if !s.writable dst n then
        s.unbacked dst (s.backed dst n) (dpDie d 1 (engineOf q e)) 0 d (.move d q e)
      else s
  | _, _ => s

def execMoveStart (d q : Nat) (s : State) : Host.Outcome State Fault Refusal :=
  .next (s.onDev (fun v => v.moveStart d q))

/-- MOVE_COMPLETE: the engine writes its last byte and posts its token (R46). Nothing behind a held move completes (R51), nor
does a move whose source holds a word found uncorrectable (R52). -/
def Device.moveComplete (s : Device) (d q e : Nat) : Device :=
  match (s.quad d q).moves.find? (fun m => m.engine == some e) with
  | none => s
  | some m =>
    let b := s.moveBytes d q m.index
    let src := fld b 0 6
    let dst := fld b 6 6
    let n := fld b 12 4
    if !(s.openMoves d q).contains m || s.gatedWaits src n m.gate || s.writeWaits dst n || !s.sound src n then s
    else if !s.backed src n then s.unbacked src false (dpDie d 1 (engineOf q e)) 0 d (.move d q e)
    else if !s.writable dst n then s.unbacked dst (s.backed dst n) (dpDie d 1 (engineOf q e)) 0 d (.move d q e)
    else
      let s := s.write dst (s.read src n)
      (s.modQuad d q (fun x => { x with moves := x.moves.erase m })).post (fld b 18 2)

def execMoveComplete (d q e : Nat) (s : State) : Host.Outcome State Fault Refusal :=
  .next (s.onDev (fun v => v.moveComplete d q e))

end Sys2Proof.Machine
end

