-- ==== Sys2Proof/Machine/Carousel.lean ====
section
/-! DEFINITION. The carousel: tours, page messages around the ring and the return of gradients (R244 to R268). -/

namespace Sys2Proof.Machine

/-! ## Schedules (R245, R254, R261) -/

/-- The reach of a page's copy: direction or path 0 east, 1 west (R245). -/
def reach (ring p dir : Nat) : Nat :=
  if ring % 2 = 1 then (ring - 1) / 2
  else if p % 2 = dir then ring / 2 else ring / 2 - 1

/-- The position `n` steps back along a direction: the owner whose copies are at distance n. -/
def backward (ring pos dir n : Nat) : Nat := if dir = 0 then (pos + n * ring - n) % ring else (pos + n) % ring

/-- Global page of an owner's local page. -/
def pageOf (ring tp o lam : Nat) : Nat := if lam < tp then o * tp + lam else (2 * ring - 1 - o) * tp + (lam - tp)

/-- The owner's pages with a token below N_act whose copy reaches distance n, in ascending local order. -/
def lapPages (ring tp nAct o dir n : Nat) : List Nat :=
  ((List.range (2 * tp)).map (pageOf ring tp o)).filter (fun p => decide (16 * p < nAct) && decide (n ≤ reach ring p dir))

/-- A page message: lap, page, group. -/
structure PageMsg where
  lap : Nat
  page : Nat
  group : Nat
  deriving DecidableEq, Repr

/-- What a position sends on its page flow in a direction, in order (R254). -/
def pageSends (ring tp nAct gd pos dir : Nat) : List PageMsg :=
  (List.range (ring / 2)).flatMap (fun i =>
    (lapPages ring tp nAct (backward ring pos dir i) dir (i + 1)).flatMap (fun p =>
      (List.range gd).map (fun y => ⟨i + 1, p, y⟩)))

/-- A gradient return: lap, page, group, part (0 K, 1 V). -/
structure GradMsg where
  lap : Nat
  page : Nat
  group : Nat
  part : Nat
  deriving DecidableEq, Repr

/-- What a position sends on its gradient flow for a path, in order (R261). -/
def gradSends (ring tp nAct gd pos path : Nat) : List GradMsg :=
  ((List.range (ring / 2)).reverse).flatMap (fun i =>
    (lapPages ring tp nAct (backward ring pos path (i + 1)) path (i + 1)).flatMap (fun p =>
      (List.range gd).flatMap (fun y => [⟨i + 1, p, y, 0⟩, ⟨i + 1, p, y, 1⟩])))

/-- The neighbour messages of a direction come from (R244): east copies and west-path returns from the west, the others
from the east. -/
def neighbour (ring pos : Nat) (fromWest : Bool) : Nat := if fromWest then (pos + ring - 1) % ring else (pos + 1) % ring

/-- The slot of a visiting page (R247). -/
def ownerRank (ring pos o : Nat) : Nat :=
  let order := ((List.range ring).flatMap (fun n =>
    [(pos + ring - (n + 1) % ring) % ring, (pos + n + 1) % ring])).eraseDups.filter (· != pos)
  order.idxOf o

def visitSlot (ring tp pos p : Nat) : Nat :=
  let o := ownerOf ring tp p
  ownerRank ring pos o * (2 * tp) + localIndex ring tp p

/-! ## Tour descriptors (R248) -/

structure TourDesc where
  number : Nat
  backward : Bool
  layer : Nat
  timeout : Nat
  reg : Nat
  result : Nat
  records : List Nat
  deriving DecidableEq, Repr

def tourOf (b : List Byte) : TourDesc :=
  ⟨fbits b 0 2 9 0, bit (fld b 3 1) 0, fld b 4 1, fld b 6 2, fbits b 8 1 5 0, fld b 16 6,
   (List.range (fbits b 5 1 4 0)).map (fun i => fld b (24 + 2 * i) 2)⟩

def Device.tourDesc (s : Device) (d i : Nat) : TourDesc := tourOf (elemAt (s.sec 0x14 d 255 255) 64 i)

/-- Kind-2 records of a tour. -/
def Device.tourKind2 (s : Device) (d : Nat) (t : TourDesc) : List Nat :=
  t.records.filter (fun r => (s.walkRec d r).kind == 2)

/-! ## Flows (R252) -/

/-- The pair page messages leave on: ring east for east copies, ring west for west copies. -/
def Device.ringPair (s : Device) (east : Bool) : Nat := (s.pairOf (if east then 2 else 3)).getD 9

/-- Flow keys: page flows out and in, gradient flows out and in. East copies leave east and arrive from the west; east-path
returns leave west and arrive from the east. -/
def Device.pageOut (s : Device) (d dir : Nat) : Nat := flowKey (s.ringPair (dir == 0)) (192 + d) 0
def Device.pageIn (s : Device) (d dir : Nat) : Nat := flowKey (s.ringPair (dir != 0)) (192 + d) 0
def Device.gradOut (s : Device) (d path : Nat) : Nat := flowKey (s.ringPair (path != 0)) (196 + d) 0
def Device.gradIn (s : Device) (d path : Nat) : Nat := flowKey (s.ringPair (path == 0)) (196 + d) 0

/-- The most bytes granted on a carousel flow (DESIGN CHOICE, assumption 12). -/
def carouselGrant : Nat := 0x100000

/-- The flow holds credit for a message of n bytes. -/
def Device.hasCredit (s : Device) (k n : Nat) : Bool :=
  let f := s.flow k
  !f.held && f.waiting.isEmpty && decide (f.inFlight + n ≤ f.credit (keyFlow k))

/-! ## A tour's life -/

def Device.tp (s : Device) (d : Nat) : Nat := s.pagesPer d

def Device.modTour (s : Device) (d : Nat) (f : TourRun → TourRun) : Device :=
  s.modDie d (fun x => { x with tour := x.tour.map f })

def TourRun.cnt (t : Tab Nat) (i : Nat) : Nat := Tab.get 0 t i

/-- Messages due from the neighbour on a page flow, and this position's own sends. -/
def Device.duePages (s : Device) (d nAct dir : Nat) : List PageMsg :=
  pageSends s.ringS (s.tp d) nAct (s.geometry d).groups (neighbour s.ringS s.ringPos (dir == 0)) dir
def Device.ownPages (s : Device) (d nAct dir : Nat) : List PageMsg :=
  pageSends s.ringS (s.tp d) nAct (s.geometry d).groups s.ringPos dir
/-- Returns due along a path from the neighbour; a forward tour has none (R258). -/
def Device.dueGrads (s : Device) (d : Nat) (run : TourRun) (path : Nat) : List GradMsg :=
  if (s.tourDesc d run.num).backward then
    gradSends s.ringS (s.tp d) run.nAct (s.geometry d).groups (neighbour s.ringS s.ringPos (path != 0)) path
  else []
def Device.ownGrads (s : Device) (d nAct path : Nat) : List GradMsg :=
  gradSends s.ringS (s.tp d) nAct (s.geometry d).groups s.ringPos path

/-- Payload bytes of a page message (R253), and of a return that is present (R259). -/
def Device.pageMsgBytes (s : Device) (d : Nat) : Nat := 80 + (s.geometry d).recBytes
def Device.gradMsgBytes (s : Device) (d : Nat) : Nat := 16 + 64 * (s.geometry d).width

/-- The incoming flows of a die's tour with the bytes still due on them: the page flows of both directions, then the gradient
flows of both paths. Without a tour nothing is due (R255), and a parked die takes nothing (R268). -/
def Device.dueBytes (s : Device) (d : Nat) : List (Nat × Nat) :=
  let left (f : TourRun → Nat) : Nat :=
    match (s.die d).tour with | some run => if s.dieStopped d then 0 else f run | none => 0
  (List.range 2).map (fun i =>
    (s.pageIn d i, s.pageMsgBytes d * left (fun run => (s.duePages d run.nAct i).length - Tab.get 0 run.due i))) ++
  (List.range 2).map (fun i =>
    (s.gradIn d i, s.gradMsgBytes d * left (fun run => (s.dueGrads d run i).length - Tab.get 0 run.retDue i)))

/-- Credit on the flows of a die's tour: for the messages of the tour that are still due, and no more, so that messages of a later
tour wait at their sender; a flow that holds withholds it (R255, R266) (DESIGN CHOICE, assumption 12). -/
def Device.grantCarousel (s : Device) (d : Nat) : Device :=
  if s.ringS ≤ 1 then s
  else (s.dueBytes d).foldl (fun s e =>
    let bytes := min carouselGrant (roundUp e.2 4096)
    if (bytes ≠ 0 ∧ s.isHeld (.carousel d e.1)) ∨ (s.flow e.1).granted (keyFlow e.1) = bytes then s else s.grantFlow e.1 bytes) s

/-- TOUR_START (R251, R257): the next queued tour begins. -/
def Device.tourStart (s : Device) (d : Nat) : Device :=
  let x := s.die d
  match x.tour, x.tours with
  | none, (num, _) :: _ =>
    if s.stepSuspended || s.job.state != 6 || s.boot.service != 2 || s.dieParked d || s.isHeld .job then s
    else
      let t := s.tourDesc d num
      let nAct := (Tab.get 0 (s.quad d 0).regs t.reg).toNat
      let s := s.modDie d (fun x => { x with
        tour := some ⟨num, nAct, [], [], [], [], [], false, []⟩
        pages := (List.range ((s.geometry d).nCap / 16)).foldl (fun m p =>
          let e := Tab.get PageEntry.zero m p
          if e.owner = s.ringPos then m
          else Tab.set PageEntry.zero m p { e with state := if 16 * p < nAct then 2 else 0, slot := 0xFFFF, lap := 0,
                                                   filled := 0, segLow := 0, segHigh := 0 }) x.pages })
      s.grantCarousel d
  | _, _ => s

def execTourStart (d : Nat) (s : State) : Host.Outcome State Fault Refusal :=
  .next (s.onDev (fun v => v.tourStart d))

/-- A key of a return: page, group, part, path. -/
def gradKey (p y part path : Nat) : Nat := ((p * 16 + y) * 2 + part) * 2 + path

/-- The fold of R260: `none` is absent. -/
def foldGrad (gin c : Option (List Word)) : Option (List Word) :=
  match gin, c with
  | none, c => c
  | some g, none => some g
  | some g, some c => some ((List.zip g c).map (fun e => fAdd e.1 e.2))

def wordsOf (l : List Byte) : List Word := (List.range (l.length / 4)).map (fun i => BitVec.ofNat 32 (fld l (4 * i) 4))

/-- This position's contribution to a part of a page (R260). -/
def Device.contribution (s : Device) (d : Nat) (t : TourDesc) (run : TourRun) (p y part : Nat) : Option (List Word) :=
  match (s.tourKind2 d t).find? (fun r => (s.walkRec d r).group == y && (s.die d).walked.contains (r, p)) with
  | some r =>
    let w := (s.geometry d).width
    some (wordsOf (s.read ((s.walkRec d r).baseO + p * 32 * w * 4 + part * 16 * w * 4) (16 * w * 4)))
  | none => none

/-- What arrived for a part along a path: `none` when nothing has arrived, `some none` for an absent return. -/
def TourRun.arrived (run : TourRun) (key : Nat) : Option (Option (List Word)) :=
  (run.pathIn.find? (fun e => e.1 == key)).map (fun e => if e.2.isEmpty then none else some (wordsOf e.2))

/-- All kind-2 records of the tour are complete here. -/
def Device.kind2Done (s : Device) (d : Nat) (t : TourDesc) (run : TourRun) : Bool :=
  (s.tourKind2 d t).all (s.die d).walksDone.contains

/-- Every return has been sent and has arrived (R258). -/
def Device.returnsDone (s : Device) (d : Nat) (t : TourDesc) (run : TourRun) : Bool :=
  s.kind2Done d t run && (s.ringS ≤ 1 ||
    (List.range 2).all (fun p => decide (Tab.get 0 run.retSent p = (s.ownGrads d run.nAct p).length) &&
      decide (Tab.get 0 run.retDue p = (s.dueGrads d run p).length)))

/-- The owner's final gradients (R262) (DEDUCED, assumption 33). -/
def Device.writeFinal (s : Device) (d : Nat) (t : TourDesc) (run : TourRun) : Device :=
  let y := s.geometry d
  let n := 16 * y.width
  (List.range (2 * s.tp d)).foldl (fun s lam =>
    let p := pageOf s.ringS (s.tp d) s.ringPos lam
    (List.range y.groups).foldl (fun s grp =>
      (List.range 2).foldl (fun s part =>
        let r0 := s.contribution d t run p grp part
        let r1 := foldGrad r0 ((run.arrived (gradKey p grp part 0)).getD none)
        let r2 := foldGrad r1 ((run.arrived (gradKey p grp part 1)).getD none)
        s.write (t.result + (lam * y.groups + grp) * 32 * y.width * 4 + part * n * 4)
          ((r2.getD (List.replicate n 0)).flatMap (fun w => leBytes 4 w.toNat))) s) s) s

/-- The tour completes when its frames are released and, for a backward tour, every return is sent and written (R258). -/
def Device.tourSettle (s : Device) (d : Nat) : Device :=
  match (s.die d).tour, (s.die d).tours with
  | some run, (_, token) :: rest =>
    let t := s.tourDesc d run.num
    if !run.released || (t.backward && !s.returnsDone d t run) then s
    else
      let s := if t.backward then s.writeFinal d t run else s
      let s := s.modDie d (fun x => { x with tour := none, tours := rest, toursDone := x.toursDone + 1 })
      ((s.bumpCar d 9 1).grantCarousel d).post token
  | _, _ => s

/-- TOUR_RELEASE_FRAMES (R258); a parked die's sequencer stands (R268). R257 lets an entry leave the state in transit only when
its page is stored, so the model releases the frames of a tour only when every page due has come (DEDUCED, assumption 33). -/
def Device.tourRelease (s : Device) (d : Nat) : Device :=
  match (s.die d).tour with
  | none => s
  | some run =>
    let t := s.tourDesc d run.num
    if !s.dieParked d && !run.released && t.records.all (s.die d).walksDone.contains && (s.ringS ≤ 1 ||
        (List.range 2).all (fun dir => decide (Tab.get 0 run.sent dir = (s.ownPages d run.nAct dir).length) &&
          decide (Tab.get 0 run.due dir = (s.duePages d run.nAct dir).length) &&
          (s.flow (s.pageOut d dir)).waiting.isEmpty)) then
      let s := s.modDie d (fun x => { x with
        tour := some { run with released := true }
        pages := x.pages.map (fun e => if e.2.state = 3 then (e.1, { e.2 with state := 4, slot := 0xFFFF }) else e) })
      s.tourSettle d
    else s

def execTourReleaseFrames (d : Nat) (s : State) : Host.Outcome State Fault Refusal :=
  .next (s.onDev (fun v => v.tourRelease d))

/-! ## Sending (R253, R254, R259 to R261) -/

/-- The frame a page is sent from: the home frame of an own page, the visiting frame of another (R254). -/
def Device.pageFrame (s : Device) (d p : Nat) : Nat :=
  let y := s.geometry d
  if (s.page d p).owner = s.ringPos then s.homeFrame d p else y.bufBase + (s.page d p).slot * y.visitPitch

/-- The record a message carries, in that frame (R205). -/
def Device.pageRecord (s : Device) (d num : Nat) (m : PageMsg) : Nat :=
  let y := s.geometry d
  let own := (s.page d m.page).owner = s.ringPos
  s.pageFrame d m.page + 64 + (if own then (s.tourDesc d num).layer * y.groups + m.group else m.group) * y.recBytes

/-- The payload of a page message (R253). -/
def Device.pagePayload (s : Device) (d num dir : Nat) (m : PageMsg) : List Byte :=
  leBytes 2 num ++ [BitVec.ofNat 8 m.lap, BitVec.ofNat 8 (m.group + 16 * dir)] ++ leBytes 4 (s.job.step % 2 ^ 32) ++
    [BitVec.ofNat 8 (s.tourDesc d num).layer, BitVec.ofNat 8 (s.page d m.page).filled] ++ List.replicate 6 0 ++
    s.read (s.pageFrame d m.page) 64 ++ s.read (s.pageRecord d num m) (s.geometry d).recBytes

/-- The next page message of a direction, if it may be sent: a forwarded page is visiting (R254), an own page sealed, and its
bytes can be read (R51). -/
def Device.nextPage (s : Device) (d dir : Nat) : Option (TourRun × PageMsg × Bool) :=
  match (s.die d).tour with
  | none => none
  | some run =>
    let l := s.ownPages d run.nAct dir
    let i := Tab.get 0 run.sent dir
    match l[i]? with
    | some m =>
      let e := s.page d m.page
      let own := decide (e.owner = s.ringPos)
      if (e.state = 3 ∨ (own ∧ e.state = 1)) ∧ s.sound (s.pageFrame d m.page) 64 ∧
          s.sound (s.pageRecord d run.num m) (s.geometry d).recBytes then
        some (run, m, (match l[i + 1]? with | some x => x.lap != m.lap | none => true))
      else none
    | none => none

/-- CAROUSEL_PAGE_SEND (R254): the next message of a direction goes out once it holds credit. -/
def Device.pageSend (s : Device) (d dir : Nat) : Device :=
  if s.dieParked d || s.isHeld (.carouselSend d dir) then s
  else
    match s.nextPage d dir with
    | none => s
    | some (run, m, last) =>
      let p := s.pagePayload d run.num dir m
      if !s.hasCredit (s.pageOut d dir) p.length then s
      else
        let s := s.send (s.pageOut d dir) 0x30 last 0 m.page (d / 2) p
        let s := s.modTour d (fun t => { t with sent := Tab.set 0 t.sent dir (Tab.get 0 t.sent dir + 1) })
        (s.bumpCar d 0 1).bumpCar d 1 (if 1 < m.lap then 1 else 0)

def execCarouselPageSend (d dir : Nat) (s : State) : Host.Outcome State Fault Refusal :=
  .next (s.onDev (fun v => v.pageSend d (dir % 2)))

/-- The gradient frame a return reads can be read (R51). -/
def Device.contributionSound (s : Device) (d : Nat) (t : TourDesc) (m : GradMsg) : Bool :=
  let w := (s.geometry d).width
  (s.tourKind2 d t).all (fun r => (s.walkRec d r).group != m.group ||
    s.sound ((s.walkRec d r).baseO + m.page * 32 * w * 4 + m.part * 16 * w * 4) (64 * w))

/-- The next return of a path, once the kind-2 records are complete and any farther return has arrived (R261). -/
def Device.nextGrad (s : Device) (d path : Nat) : Option (TourRun × GradMsg × Bool) :=
  match (s.die d).tour with
  | none => none
  | some run =>
    let t := s.tourDesc d run.num
    let l := s.ownGrads d run.nAct path
    let i := Tab.get 0 run.retSent path
    match l[i]? with
    | some m =>
      if t.backward && s.kind2Done d t run && s.contributionSound d t m &&
          (decide (reach s.ringS m.page path < m.lap + 1) || (run.arrived (gradKey m.page m.group m.part path)).isSome) then
        some (run, m, (match l[i + 1]? with | some x => x.lap != m.lap | none => true))
      else none
    | none => none

/-- The carried gradient of R260 as this position sends it. -/
def Device.gradOutValue (s : Device) (d path : Nat) (run : TourRun) (m : GradMsg) : Option (List Word) :=
  foldGrad ((run.arrived (gradKey m.page m.group m.part path)).getD none)
    (s.contribution d (s.tourDesc d run.num) run m.page m.group m.part)

/-- CAROUSEL_GRAD_SEND (R259 to R261). -/
def Device.gradSend (s : Device) (d path : Nat) : Device :=
  if s.dieParked d || s.isHeld (.carouselSend d path) then s
  else
    match s.nextGrad d path with
    | none => s
    | some (run, m, last) =>
      let v := s.gradOutValue d path run m
      let p := leBytes 2 run.num ++ [BitVec.ofNat 8 m.lap,
          BitVec.ofNat 8 (m.group + 16 * m.part + (if v.isSome then 32 else 0) + 64 * path)] ++
        leBytes 4 (s.job.step % 2 ^ 32) ++ List.replicate 8 0 ++
        ((v.getD []).flatMap (fun w => leBytes 4 w.toNat))
      if !s.hasCredit (s.gradOut d path) p.length then s
      else
        let s := s.send (s.gradOut d path) 0x31 last 0 m.page (d / 2) p
        let s := s.modTour d (fun t => { t with retSent := Tab.set 0 t.retSent path (Tab.get 0 t.retSent path + 1) })
        ((s.bumpCar d 3 1).bumpCar d 4 (if v.isSome then 0 else 1)).tourSettle d

def execCarouselGradSend (d path : Nat) (s : State) : Host.Outcome State Fault Refusal :=
  .next (s.onDev (fun v => v.gradSend d (path % 2)))

/-! ## Receiving (R256, R260, R264 to R266) -/

/-- A record about a carousel flow (R263, R265, R266); only R263 raises a count. -/
def Device.carRec (s : Device) (code k : Nat) (page lap : Nat) (vals : List (Nat × Nat)) (d : Nat) : Rec :=
  let port := Device.portOf (keyPair k) (preferSide (keyFlow k) 0 0)
  ⟨code, Code.severity code, dpPort port (keyFlow k), s.ctlPort port, 5, page + lap * 2 ^ 56, 0, vals, d, 0⟩

/-- A message carries the number of the cancelled step (R264, R370) (DEDUCED, assumption 33). -/
def Device.cancelledMsg (s : Device) (step : Nat) : Bool :=
  match s.job.cancelledStep with
  | some n => decide (step = n % 2 ^ 32)
  | none => false

/-- The message differs from the one due and repeats none: the flow holds and its credit is withheld (R266). Beside the page and
lap of its position, the record names the message received by tour, step, group and part, then the message due by lap, page,
group, part, tour and step, as far as the detail holds them (DESIGN CHOICE, assumption 33). -/
def Device.carUnexpected (s : Device) (k d : Nat) (b : List Byte) (got : GradMsg) (due : Option GradMsg) : Device :=
  let x : GradMsg := due.getD ⟨0xFF, 0xFFFF, 0xFF, 0xFF⟩
  let num := match (s.die d).tour with | some run => run.num | none => 0xFFFF
  (s.hold (s.carRec Code.carPageUnexpected k got.page got.lap
    [(2, fld b 0 2), (4, fld b 4 4), (1, got.group), (1, got.part), (1, x.lap), (2, x.page), (1, x.group), (1, x.part), (2, num),
     (4, s.job.step % 2 ^ 32)] d) (.carousel d k)).grantFlow k 0

/-- A repeated message is discarded and recorded, with the sender (R265). -/
def Device.carDuplicate (s : Device) (k d page lap sender : Nat) : Device :=
  (s.bumpCar d 7 1).log1 (s.carRec Code.carPageDuplicate k page lap [(1, sender)] d)

/-- CAROUSEL_PAGE as it is delivered (R256), unless its die is parked (R54, R268); the second component says whether the message
is accepted. A reserved bit that is not zero makes it another message than the one due (R15) (DEDUCED, assumption 33). -/
def Device.onCarouselPage (s : Device) (k : Nat) (m : Msg) : Device × Bool :=
  let d := (keyFlow k - 192) % 4
  let b := m.payload
  let dir := if bit (fld b 3 1) 4 then 1 else 0
  let got : PageMsg := ⟨fld b 2 1, m.sub.toNat, fbits b 3 1 3 0⟩
  let part (x : PageMsg) : GradMsg := ⟨x.lap, x.page, x.group, 0xFF⟩
  if s.cancelledMsg (fld b 4 4) then (s.bumpCar d 8 1, true)
  else if s.dieStopped d || s.isHeld (.carousel d k) then (s, false)
  else
    match (s.die d).tour with
    | none => (s.carUnexpected k d b (part got) none, false)
    | some run =>
      let y := s.geometry d
      let l := s.duePages d run.nAct dir
      let i := Tab.get 0 run.due dir
      let same := decide (fld b 0 2 = run.num) && decide (fld b 4 4 = s.job.step % 2 ^ 32) &&
        decide (b.length = s.pageMsgBytes d) && decide (k = s.pageIn d dir) && decide (fbits b 3 1 7 5 = 0) && zeros b 10 6
      if same && l[i]? == some got then
        let e := s.page d got.page
        let slot := visitSlot s.ringS (s.tp d) s.ringPos got.page
        let frame := y.bufBase + slot * y.visitPitch
        let s := if got.group = 0 then s.write frame (sub b 16 64) else s
        let s := s.write (frame + 64 + got.group * y.recBytes) (b.drop 80)
        let filled := fld b 9 1
        let marks := (List.range filled).map (fun j => fld b (16 + 2 * j) 2)
        let s := if got.group + 1 = y.groups then
            s.setPage d got.page { e with slot := slot, lap := got.lap, filled := filled, state := 3,
                                          segLow := marks.foldl min 0xFFFF, segHigh := marks.foldl max 0 }
          else s
        (((s.modTour d (fun t => { t with due := Tab.set 0 t.due dir (Tab.get 0 t.due dir + 1) })).bumpCar d 2 1).grantCarousel d, true)
      else if same && (l.take i).contains got then
        (s.carDuplicate k d got.page got.lap (neighbour s.ringS s.ringPos (dir == 0)), true)
      else (s.carUnexpected k d b (part got) ((l[i]?).map part), false)

/-- CAROUSEL_GRAD as it is delivered (R260, R261); a forward tour has no return due (R258). A reserved bit that is not zero
makes it another message than the one due (R15) (DEDUCED, assumption 33). -/
def Device.onCarouselGrad (s : Device) (k : Nat) (m : Msg) : Device × Bool :=
  let d := (keyFlow k - 196) % 4
  let b := m.payload
  let path := if bit (fld b 3 1) 6 then 1 else 0
  let present := bit (fld b 3 1) 5
  let got : GradMsg := ⟨fld b 2 1, m.sub.toNat, fbits b 3 1 3 0, fbits b 3 1 4 4⟩
  if s.cancelledMsg (fld b 4 4) then (s.bumpCar d 8 1, true)
  else if s.dieStopped d || s.isHeld (.carousel d k) then (s, false)
  else
    match (s.die d).tour with
    | none => (s.carUnexpected k d b got none, false)
    | some run =>
      let l := s.dueGrads d run path
      let i := Tab.get 0 run.retDue path
      let same := decide (fld b 0 2 = run.num) && decide (fld b 4 4 = s.job.step % 2 ^ 32) &&
        decide (b.length = if present then s.gradMsgBytes d else 16) && decide (k = s.gradIn d path) &&
        decide (fbits b 3 1 7 7 = 0) && zeros b 8 8
      if same && l[i]? == some got then
        let s := s.modTour d (fun t => { t with
          retDue := Tab.set 0 t.retDue path (Tab.get 0 t.retDue path + 1)
          pathIn := t.pathIn ++ [(gradKey got.page got.group got.part path, b.drop 16)] })
        ((s.grantCarousel d).tourSettle d, true)
      else if same && (l.take i).contains got then
        (s.carDuplicate k d got.page got.lap (neighbour s.ringS s.ringPos (path != 0)), true)
      else (s.carUnexpected k d b got (l[i]?), false)

/-! ## Timeouts (R263) -/

/-- The page, lap and part due on an incoming flow: 0 and 1 the page flows of the two directions, 2 and 3 the gradient
flows of the two paths. -/
def Device.dueOn (s : Device) (d flow : Nat) : Option (Nat × GradMsg) :=
  match (s.die d).tour with
  | none => none
  | some run =>
    let i := flow % 2
    if flow < 2 then
      ((s.duePages d run.nAct i)[Tab.get 0 run.due i]?).map (fun m => (s.pageIn d i, ⟨m.lap, m.page, m.group, 0xFF⟩))
    else
      ((s.dueGrads d run i)[Tab.get 0 run.retDue i]?).map (fun m => (s.gradIn d i, m))

/-- A flow reports once per tour; further expiries raise the count of the newest entry of its code and data path (R263, R498). -/
def Device.carReport (s : Device) (d tag : Nat) (r : Rec) (id : Nat) : Device :=
  let before := match (s.die d).tour with | some t => t.timeouts.contains id | none => false
  let r := { r with tag := tag, key := if before then 1 else 0 }
  (s.log1 r).modTour d (fun t => { t with timeouts := if before then t.timeouts else id :: t.timeouts })

/-- CAR_LAP_TIMEOUT: the due message has not come (R263). -/
def Device.lapTimeout (s : Device) (d flow : Nat) : Device :=
  match s.dueOn d flow with
  | none => s
  | some (k, m) =>
    let up := neighbour s.ringS s.ringPos (if flow < 2 then flow % 2 == 0 else flow % 2 != 0)
    (s.carReport d 0 (s.carRec Code.carLapTimeout k m.page m.lap
      ([(1, up), (2, m.page), (1, m.lap)] ++ (if flow < 2 then [] else [(1, m.part)])) d) flow).bumpCar d 6 1

def execCarLapTimeout (d flow : Nat) (s : State) : Host.Outcome State Fault Refusal :=
  .next (s.onDev (fun v => v.lapTimeout d (flow % 4)))

/-- SENDER_CREDIT_TIMEOUT: a ready message has held no credit beyond the lap timeout (R263). -/
def Device.senderTimeout (s : Device) (d flow : Nat) : Device :=
  let i := flow % 2
  let ready := if flow < 2 then (s.nextPage d i).map (fun e => (s.pageOut d i, e.2.1.page, e.2.1.lap, s.pageMsgBytes d))
    else (s.nextGrad d i).map (fun e => (s.gradOut d i, e.2.1.page, e.2.1.lap,
      if (s.gradOutValue d i e.1 e.2.1).isSome then s.gradMsgBytes d else 16))
  match ready with
  | none => s
  | some (k, page, lap, n) =>
    if s.hasCredit k n then s
    else
      let down := neighbour s.ringS s.ringPos (if flow < 2 then i != 0 else i == 0)
      (s.carReport d 19 (s.carRec Code.carLapTimeout k page lap [(1, down), (2, page), (1, lap)] d) (4 + flow)).bumpCar d 6 1

def execSenderCreditTimeout (d flow : Nat) (s : State) : Host.Outcome State Fault Refusal :=
  .next (s.onDev (fun v => v.senderTimeout d (flow % 4)))

/-! ## Walk completion (R213, R231) -/

/-- Every member has written its last word. -/
def Device.walkFinished (s : Device) (d q : Nat) (i : Issue) : Bool :=
  i.members.all (fun c =>
    let g := gOf d q c
    let x := s.ctx g i.ctx
    (match findWalk (x.items ++ x.other) i.id with
     | some w => (s.cluster g).walkOver w
     | none => true))

/-- Valid rows of a kind-2 record that saw no key of any pair of any member, in order (R238). -/
def Device.unseenRows (s : Device) (d q : Nat) (i : Issue) : List Nat :=
  let w := s.walkRec d i.index
  let runs := i.members.filterMap (fun c => let x := s.ctx (gOf d q c) i.ctx; findWalk (x.items ++ x.other) i.id)
  let saw := runs.flatMap (·.sawKey)
  (List.range w.count).flatMap (fun b =>
    ((s.blockRows d w (i.lens.headD 0) (w.first + b)).filter (fun r => r.valid && !saw.contains r.row)).map (·.row))

/-- A walk record completes: the masked rows of a kind-2 record are counted, for its first member (DEDUCED, assumption 83);
forward statistics become valid, and the carousel sees the record complete (R213, R231, R258). -/
def Device.finishWalk (s : Device) (d q : Nat) (i : Issue) : Device :=
  let s := if (s.walkRec d i.index).kind = 0 then
      s.modDie d (fun x => { x with statsValid := (x.statsValid.erase i.index) ++ [i.index] })
    else if (s.walkRec d i.index).kind = 2 then
      s.maskedRows (gOf d q (i.members.headD 0)) i.ctx i.id i.index (s.unseenRows d q i)
    else s
  let s := s.modDie d (fun x => { x with walksDone := if x.walksDone.contains i.index then x.walksDone else x.walksDone ++ [i.index] })
  (s.endIssue d q i).tourSettle d

/-- WALK_COMPLETE: every member has written its last word (R213). -/
def Device.walkComplete (s : Device) (d q k : Nat) : Device :=
  if s.dieStopped d then s
  else
  match (s.quad d q).issues.find? (fun i => i.kind == 2 && i.ctx == k && !i.statsHeld && s.walkFinished d q i) with
  | none => s
  | some i => s.finishWalk d q i

def execWalkComplete (d q ctx : Nat) (s : State) : Host.Outcome State Fault Refusal :=
  .next (s.onDev (fun v => v.walkComplete d q ctx))

end Sys2Proof.Machine
end

