-- ==== Sys2Proof/Machine/Net.lean ====
section
/-! DEFINITION. Ports and the Icvan protocol: receiving, acknowledging, resending and the loss and return of ports
(R410 to R423). -/

namespace Sys2Proof.Machine

/-! ## Message types (R424) -/

/-- The class of a message type; 6 for an unlisted type and 7 for ACK, which any class takes. -/
def typeClass (kind : Nat) : Nat :=
  if kind ∈ [0x01, 0x02, 0x03, 0x04, 0x05, 0x06, 0x07, 0x08, 0x10, 0x11, 0x12, 0x13, 0x14, 0x15, 0x16, 0x40, 0x41] then 0
  else if kind ∈ [0x20, 0x21, 0x23, 0x24] then 1
  else if kind ∈ [0x30, 0x31] then 2
  else if kind ∈ [0x32, 0x33] then 3
  else if kind ∈ [0x34, 0x35, 0x36] then 4
  else if kind = 0x3F then 7
  else 6

/-- The flow offsets a type uses (R416). -/
def typeOffset (kind flow : Nat) : Bool :=
  match kind with
  | 0x20 => decide (flow < 128)
  | 0x21 => decide (flow = 128)
  | 0x23 => decide (160 ≤ flow ∧ flow < 192)
  | 0x24 => decide (160 ≤ flow ∧ flow < 192)
  | 0x30 => decide (192 ≤ flow ∧ flow < 196)
  | 0x31 => decide (196 ≤ flow ∧ flow < 200)
  | 0x34 => decide (flow = 384)
  | 0x35 => decide (flow = 385)
  | 0x36 => decide (flow = 386)
  | _ => true

/-- The offset of a flow within its class is in use (R416). -/
def offsetUsed (flow : Nat) : Bool :=
  match flowClass flow with
  | 1 => decide (flow ≤ 128 ∨ 160 ≤ flow)
  | 2 => decide (flow < 200)
  | 4 => decide (flow ≤ 386)
  | 5 => false
  | _ => true

def Device.stroll (s : Device) : Bool := decide (s.boot.service = 1)

/-- The class may be used on the port (R416, R423, R425). -/
def Device.classOk (s : Device) (port flow kind : Nat) : Bool :=
  let role := s.roleOf (port % 8)
  if s.standoff && flowClass flow == 0 then decide (port = 16)
  else
    match flowClass flow with
    | 0 => decide (port = 16) || decide (role ≤ 1) || decide (kind = 0x01) || decide (kind = 0x3F ∧ flow = 0) ||
        (s.stroll && decide (port % 8 = 0))
    | 1 => decide (port < 16) && decide (role ≤ 1) && !s.stroll
    | 2 => decide (port < 16) && decide (role = 2 ∨ role = 3) && !s.stroll
    | 3 => decide (port < 16) && decide (role = 4 ∨ role = 5) && !s.stroll
    | 4 => decide (port < 16) && (if flow = 386 then decide (role = 2 ∨ role = 3) else decide (role = 6 ∨ role = 7)) && !s.stroll
    | _ => false

/-! ## Peers (R412, R417) -/

def Device.peersOf (s : Device) (role : Nat) : List Peer :=
  match s.hamper with
  | some h => h.peers.filter (fun p => p.role == role)
  | none => []

def peerHas (side : Nat) (src : BitVec 128) (p : Peer) : Bool := (if side = 0 then p.side0 else p.side1) == src

/-- A flow peer number for a source the management port accepts without a table (DESIGN CHOICE, assumption 53). -/
def Device.anyPeer (s : Device) (src : BitVec 128) : Nat :=
  match s.net.flows.find? (fun e => decide (8 ≤ keyPair e.1) && e.2.src == src) with
  | some e => keyPeer e.1
  | none => ((List.range 1023).find? (fun i => !s.net.flows.any (fun e => decide (8 ≤ keyPair e.1) && keyPeer e.1 == i))).getD 1022

/-- The peer index of a source on a port, or none when no table that applies names it (R417 step 2). In Stroll the host
tables apply on ports 0 and 8 whatever the pair's role; their peers are numbered apart (DESIGN CHOICE, assumption 53). -/
def Device.peerIndex (s : Device) (port : Nat) (src : BitVec 128) : Option Nat :=
  if port = 16 then
    match s.hamper with
    | some h =>
      if h.report = some src then some 1023
      else if (s.peersOf 8).isEmpty then some (s.anyPeer src)
      else ((s.peersOf 8).find? (peerHas 0 src)).map (·.index)
    | none => some (s.anyPeer src)
  else
    let role := s.roleOf (port % 8)
    let own := ((s.peersOf role).find? (peerHas (port / 8) src)).map (·.index)
    if s.stroll && decide (port % 8 = 0) then
      match (s.peersOf 0).find? (peerHas (port / 8) src), (s.peersOf 1).find? (peerHas (port / 8) src) with
      | some p, _ => some (if role = 0 then p.index else 768 + p.index)
      | none, some p => some (if role = 1 then p.index else 512 + p.index)
      | none, none => none
    else own

/-- The pair a message arrives on; 8 is the management port, 10 MP1's own address there in Standoff (R457). -/
def Device.pairAt (s : Device) (m : Msg) : Nat := if m.port = 16 then (if m.mp1 && s.standoff then 10 else 8) else m.port % 8

/-- The clock domain that stamps a port's records (R496). -/
def Device.portDomain (s : Device) (port : Nat) : Nat :=
  if port = 16 then 10 + s.primary else if port < 8 then 8 else 9

/-- A record about a message (R25, R417, R494). Later ones of the flow raise its count. -/
def Device.netRec (s : Device) (code : Nat) (m : Msg) : Rec :=
  let p := s.writerOf m
  ⟨code, Code.severity code, dpPort m.port m.flow, if m.port = 16 then ctlMp p else s.ctlPort m.port, 0, 0, 0, [],
    if m.port = 16 then 10 + p else s.portDomain m.port, 1⟩

/-- Write it in the log of the processor that writes it (R502). -/
def Device.logMsg (s : Device) (m : Msg) (r : Rec) : Device := s.logAs (s.writerOf m) r

/-! ## Acknowledgements (R418, R419) -/

/-- Sequence a is below b modulo 2^32 (R415). -/
def seqBelow (a b : Word) : Bool := let x := (b - a).toNat; decide (1 ≤ x) && decide (x < 2 ^ 31)

/-- What every message says of the reverse flow: copies below the acknowledged sequence are released and the window is
the latest grant. -/
def Device.takeAck (s : Device) (k : Nat) (ackSeq : Word) (grant : Nat) : Device :=
  let s := s.modFlow k (fun f => { f with
    unacked := f.unacked.filter (fun x => !seqBelow x.seq ackSeq)
    resends := if f.unacked.any (fun x => seqBelow x.seq ackSeq) then 0 else f.resends
    window := some (grant * 4096) })
  s.drain k ((s.flow k).waiting.length)

/-- Resend the unacknowledged messages of a flow from a sequence on, with RETX set (R419, R420) (DEDUCED, assumption 75). -/
def Device.resendFrom (s : Device) (k : Nat) (from' : Word) : Device :=
  ((s.flow k).unacked.filter (fun x => !seqBelow x.seq from')).foldl (fun s x =>
    (s.emit k { x with retx := true, ackSeq := (s.flow k).rxDue, grant := s.grantNow k }
      (preferSide (keyFlow k) x.seq.toNat (x.port / 8))).bumpPort x.port 4 1) s

/-- A received ACK (R411, R419). -/
def Device.onAck (s : Device) (k : Nat) (m : Msg) : Device :=
  if ¬ zeros m.payload 6 2 then s.logMsg m (s.netRec Code.netMessageMalformed m)
  else
  let ce := fld m.payload 0 4
  let s := if ce = 0 then s else s.modFlow k (fun f => { f with rate := f.rate / 2 })
  let s := s.takeAck k m.ackSeq m.grant
  let s := if m.hold then s.modFlow k (fun f => { f with held := true }) else s
  if m.retx then (s.modFlow k (fun f => { f with held := false })).resendFrom k m.ackSeq else s

/-! ## Receiving (R417) -/

/-- What takes a delivered message: its type, its flow key and the message; the answer says whether it is accepted. -/
abbrev Deliver := Device → Nat → Nat → Msg → Device × Bool

/-- The code of the newest hold, which explains a HOLD (R419). -/
def Device.newestCode (s : Device) : Nat :=
  match s.log.holds.getLast? with
  | some h => Code.wire h.code
  | none => 0

/-- Deliver the buffered messages of a flow in sequence order; a message that leaves a new hold stops the flow and is
answered by an ACK with HOLD (R419); one that must wait stays in the buffer, unacknowledged (DEDUCED, assumption 74). -/
def Device.deliverFrom (dl : Deliver) (k : Nat) : Nat → Device → Device
  | 0, s => s
  | n + 1, s =>
    let f := s.flow k
    match f.buffer.find? (fun e => e.2.seq == f.rxDue) with
    | none => s
    | some e =>
      if f.rxHeld then s
      else
        let before := s
        let (s, ok) := dl (s.modFlow k (fun f => { f with buffer := f.buffer.erase e })) e.1 k e.2
        if !ok && decide (s.log.holds.length ≤ before.log.holds.length) then before
        else if ok then
          let s := (s.modFlow k (fun f => { f with rxDue := e.2.seq + 1, toAck := f.toAck + 1 })).bumpPort e.2.port 3 1
          let s := if e.2.ackReq || e.2.last || decide (16 ≤ (s.flow k).toAck) then s.sendAck k false false 0 else s
          Device.deliverFrom dl k n s
        else
          (s.modFlow k (fun f => { f with rxHeld := true })).sendAck k true false s.newestCode

/-- A management message with sequence 0 starts a new session; a partial image of the old one is discarded (R415). -/
def Device.newSession (s : Device) (k : Nat) : Device :=
  let s := s.modFlow k (fun f => { f with rxDue := 0, buffer := [], rxHeld := false, toAck := 0 })
  if s.job.state = 1 ∧ s.job.loadFlow = k then { s with job := { s.job with state := 0, received := 0, total := 0 } } else s

/-- Steps 3 to 7 of R417 on the flow of an acceptable source. -/
def Device.receiveOn (dl : Deliver) (s : Device) (kind k : Nat) (m : Msg) : Device :=
  if !offsetUsed m.flow || !s.classOk m.port m.flow kind ||
      (typeClass kind != 7 && (typeClass kind != flowClass m.flow || !typeOffset kind m.flow)) then
    s.logMsg m (s.netRec Code.netFlowUnknown m)
  else
    let s := s.modFlow k (fun f => { f with src := m.src, rxSide := m.port / 8 % 2, ceSeen := f.ceSeen + (if m.ce then 1 else 0) })
    if kind = 0x3F then s.onAck k m
    else if flowClass m.flow ≠ 0 ∧ m.epoch.toNat ≠ (if s.hasJob then s.job.epoch else 0) then
      s.logMsg m (s.netRec Code.netEpochMismatch m)
    else
      let s := s.takeAck k m.ackSeq m.grant
      let s := if flowClass m.flow = 0 ∧ m.seq = 0 ∧ (s.flow k).rxDue ≠ 0 then s.newSession k else s
      let f := s.flow k
      if seqBelow m.seq f.rxDue || f.buffer.any (fun e => e.2.seq == m.seq) then
        Device.deliverFrom dl k f.buffer.length ((s.bumpPort m.port 6 1).sendAck k false false 0)
      else if f.granted m.flow < ((f.buffer.map (fun e => e.2.payload.length)).foldl (· + ·) 0) + m.payload.length then
        s.logMsg m (s.netRec Code.netCreditExceeded m)
      else
        let s := s.modFlow k (fun f => { f with buffer := f.buffer ++ [(kind, m)] })
        Device.deliverFrom dl k ((s.flow k).buffer.length) s

/-- A message arrives at a port: the checks of R417 in order. -/
def Device.receive (dl : Deliver) (s : Device) (kind : Nat) (m : Msg) : Device :=
  if !(s.port m.port).inUse then s
  else
    let s := (s.bumpPort m.port 1 1).bumpPort m.port 12 (if m.ce then 1 else 0)
    if !m.intact then (s.bumpPort m.port 7 1).logMsg m (s.netRec Code.netCrc m)
    else
      match s.peerIndex m.port m.src with
      | none => s.logMsg m (s.netRec Code.netMessageMalformed m)
      | some peer =>
        if m.version ≠ 1 ∨ (m.hold ∧ kind ≠ 0x3F) ∨ 9114 < m.payload.length ∨ typeClass kind = 6 then
          s.logMsg m (s.netRec Code.netMessageMalformed m)
        else Device.receiveOn dl s kind (flowKey (s.pairAt m) m.flow peer) m

/-- After a hold of a flow's message ends by RETRY, the sender resends it (R419). -/
def Device.releaseRx (s : Device) (k : Nat) : Device :=
  (s.modFlow k (fun f => { f with rxHeld := false })).sendAck k false true 0

/-! ## Timers (R411, R419, R420) -/

/-- FOREIGN_PACKET (R410). -/
def execForeignPacket (port : Nat) (s : State) : Host.Outcome State Fault Refusal :=
  .next (s.onDev (fun d => (d.bumpPort port 1 1).bumpPort port 13 1))

/-- NEIGHBOUR_DISCOVERY (R410): the port answers for its own address, and for no other. -/
def Device.neighbourAnswer (s : Device) (port : Nat) (src tgt : BitVec 128) : Device :=
  match s.hamper with
  | some h =>
    if nth 0 h.addresses port = tgt ∧ port < h.addresses.length ∧ (s.port port).inUse then
      (({ s with net := { s.net with answers := s.net.answers ++ [(src, tgt)] } }).bumpPort port 0 1).bumpPort port 1 1
    else s
  | none => s

def execNeighbourDiscovery (port : Nat) (src target : BitVec 128) (s : State) : Host.Outcome State Fault Refusal :=
  .next (s.onDev (fun d => d.neighbourAnswer port src target))

/-- PAUSE_FRAME (R411): a pause on the hamper's priority stops the port while it lasts. -/
def Device.pauseFrame (s : Device) (port prio : Nat) (pause : Bool) : Device :=
  match s.hamper with
  | some h =>
    if h.pfc ∧ h.pfcPriority = prio ∧ port < 16 then
      let s := s.modPort port (fun p => { p with paused := pause })
      if pause then s
      else
        (s.net.flows.map (·.1)).foldl (fun s k =>
          if keyPair k = port % 8 then
            let s := if (s.flow k).toAck = 0 then s else s.sendAck k (s.flow k).rxHeld false 0
            s.drain k ((s.flow k).waiting.length)
          else s) s
    else s
  | none => s

def execPauseFrame (port priority : Nat) (pause : Bool) (s : State) : Host.Outcome State Fault Refusal :=
  .next (s.onDev (fun d => d.pauseFrame port priority pause))

/-- ECN_RATE_RAISE (R411): 1 % of the port rate, up to line rate. -/
def execEcnRateRaise (k : Nat) (s : State) : Host.Outcome State Fault Refusal :=
  .next (s.onDev (fun d => d.modFlow k (fun f => { f with rate := min 10000 (f.rate + 100) })))

/-- ACK_DELAY_EXPIRY (R419). -/
def Device.ackDelay (s : Device) (k : Nat) : Device :=
  if (s.flow k).toAck = 0 then s else s.sendAck k false false 0

def execAckDelayExpiry (k : Nat) (s : State) : Host.Outcome State Fault Refusal :=
  .next (s.onDev (fun d => d.ackDelay k))

/-- Some side of the flow's pair is in use. -/
def Device.pairUp (s : Device) (k : Nat) : Bool := s.sideUp (keyPair k) 0 || s.sideUp (keyPair k) 1

/-- RETRANSMIT_TIMEOUT (R420, R422): the first unacknowledged message and all later ones are resent, at most eight
times; nothing is counted while both ports are out of use, and a HELLO has a timer of its own (DEDUCED, assumption 75). -/
def Device.retransmit (s : Device) (k : Nat) : Device :=
  let f := s.flow k
  match f.unacked with
  | [] => s
  | x :: _ =>
    if f.held ∨ ¬ s.pairUp k ∨ s.isHeld (.netFlow k) ∨ x.kind = 0x01 then s
    else if 8 ≤ f.resends then
      let s := s.modFlow k (fun f => { f with held := true })
      s.hold ⟨Code.netRetransmitExhausted, 1, dpPort x.port (keyFlow k), s.ctlPort x.port, 7,
        keyFlow k * 2 ^ 32 + x.seq.toNat, 0, [(1, keyPair k)], s.portDomain x.port, 2⟩ (.netFlow k)
    else (s.modFlow k (fun f => { f with resends := f.resends + 1 })).resendFrom k x.seq

def execRetransmitTimeout (k : Nat) (s : State) : Host.Outcome State Fault Refusal :=
  .next (s.onDev (fun d => d.retransmit k))

/-! ## Losing and regaining a port (R421, R422) -/

/-- The bits of ports 0 to 15 in use (R426). -/
def Device.portBits (s : Device) : Nat :=
  ((List.range 16).map (fun n => if (s.port n).inUse then 2 ^ n else 0)).foldl (· + ·) 0

/-- The mapping digest (R348): SHAKE256 over the job's place-independent parts. -/
def Device.digestOf (s : Device) (jobId mapping plan check : List Byte) : List Byte :=
  let m := (mapping.take 6) ++ List.replicate 7 0 ++ mapping.drop 13
  (shake256 ([0x4E, 0x4D, 0x4B, 0x2D, 0x4D, 0x41, 0x50] ++ jobId ++ m ++ plan ++ check) 64).take 16

/-- A HELLO payload (R426). -/
def Device.helloPayload (s : Device) (pair : Nat) (reply : Bool) : List Byte :=
  [if reply then 1 else 0, BitVec.ofNat 8 (s.roleOf pair)] ++ leBytes 2 s.portBits ++
    (if s.hasJob then
      leBytes 4 s.job.epoch ++ sub s.job.jobId 0 16 ++ sub s.job.digest 0 16 ++ sub s.mapping 6 6 ++
        [if bit (fld s.mapping 12 1) 0 then 1 else 0]
     else List.replicate 43 0) ++ List.replicate 17 0

/-- Announce the port states to every peer of a pair (R421, R422). -/
def Device.announce (s : Device) (pair : Nat) : Device :=
  (s.peersOf (s.roleOf pair)).foldl (fun s p =>
    s.send (flowKey pair 0 p.index) 0x01 false 0 0 0 (s.helloPayload pair false)) s

/-- A record of severity information about a port. -/
def Device.portRec (s : Device) (code port tag : Nat) (vals : List (Nat × Nat)) : Rec :=
  ⟨code, Code.severity code, dpPort port 0xFFF, s.ctlPort port, 0, 0, tag, vals, s.portDomain port, 0⟩

/-- Replay a failed port's unacknowledged messages on its partner (R421). -/
def Device.replayPort (s : Device) (port : Nat) : Device :=
  let other := (port + 8) % 16
  s.net.flows.foldl (fun s e =>
    (e.2.unacked.filter (fun x => x.port == port)).foldl (fun s x =>
      (s.emit e.1 { x with retx := true } (other / 8)).bumpPort other 5 1) s) s

/-- LINK_DOWN (R421): the port goes out of use, the partner announces it and replays (DEDUCED, assumption 63). -/
def Device.linkDown (s : Device) (port : Nat) : Device :=
  if ¬(s.port port).link ∨ 16 ≤ port then s
  else
    let used := (s.port port).inUse
    let s := s.modPort port (fun p => { p with link := false, inUse := false, rate := 0, failed := true })
    if !used then s
    else
      let s := s.log1 (s.portRec Code.netLinkDown port 0 [(1, port)])
      let role := s.roleOf (port % 8)
      let s := { s with net := { s.net with statusDue := true } }
      let s := if (role = 2 ∨ role = 3) ∧ (s.port ((port + 8) % 16)).inUse then
          s.log1 (s.portRec Code.carPairDegraded port 0 [(1, port % 8)]) else s
      if (s.port ((port + 8) % 16)).inUse then (s.announce (port % 8)).replayPort port else s

def execLinkDown (port : Nat) (s : State) : Host.Outcome State Fault Refusal :=
  .next (s.onDev (fun d => d.linkDown port))

/-- REPLAY_ROUND (R421): messages still unacknowledged after the replay are replayed once more. -/
def Device.replayRound (s : Device) (pair : Nat) : Device :=
  let p0 := s.port pair
  let p1 := s.port (pair + 8)
  if p0.inUse ∧ ¬p1.inUse ∧ p0.replays = 0 then
    (s.modPort pair (fun p => { p with replays := 1 })).replayPort (pair + 8)
  else if p1.inUse ∧ ¬p0.inUse ∧ p1.replays = 0 then
    (s.modPort (pair + 8) (fun p => { p with replays := 1 })).replayPort pair
  else s

def execReplayRound (pair : Nat) (s : State) : Host.Outcome State Fault Refusal :=
  .next (s.onDev (fun d => if pair < 8 then d.replayRound pair else d))

/-- LINK_RETURN (R422): a failed port's link comes back and the port awaits a reset (DEDUCED, assumption 63). -/
def Device.linkReturn (s : Device) (port : Nat) : Device :=
  if (s.port port).failed ∧ ¬(s.port port).link then
    s.modPort port (fun p => { p with link := true, awaiting := true })
  else s

def execLinkReturn (port : Nat) (s : State) : Host.Outcome State Fault Refusal :=
  .next (s.onDev (fun d => d.linkReturn port))

/-- All flows of a pair send again what is unacknowledged (R422). -/
def Device.resumePair (s : Device) (pair : Nat) : Device :=
  (s.net.flows.map (·.1)).foldl (fun s k =>
    if keyPair k = pair then
      match (s.flow k).unacked with
      | x :: _ => let s := s.resendFrom k x.seq; s.drain k ((s.flow k).waiting.length)
      | [] => s.drain k ((s.flow k).waiting.length)
    else s) s

/-- PORT_RESET_COMPLETE (R422): the port has trained, announces its state and returns to use; in Stroll, ports other than 0
and 8 stay down (R423). -/
def Device.portResetComplete (s : Device) (port : Nat) : Device :=
  if ¬(s.port port).training ∨ 16 ≤ port ∨ (s.stroll ∧ port % 8 ≠ 0) then s
  else
    let restored := (s.port port).failed
    let s := s.modPort port (fun p => { p with link := true, inUse := true, rate := if s.stroll then 1 else 2,
                                               training := false, failed := false, awaiting := false, replays := 0 })
    let s := s.modPort ((port + 8) % 16) (fun p => { p with replays := 0 })
    let s := { s with net := { s.net with statusDue := true } }
    let s := s.announce (port % 8)
    let s := if restored then s.log1 (s.portRec Code.netPairRestored port 0 [(1, port % 8)]) else s
    s.resumePair (port % 8)

def execPortResetComplete (port : Nat) (s : State) : Host.Outcome State Fault Refusal :=
  .next (s.onDev (fun d => d.portResetComplete port))

end Sys2Proof.Machine
end

