-- ==== Sys2Proof/Machine/Zstd.lean ====
section
/-! DEFINITION. Zstandard data as ingest takes it: frames, skippable frames, frame headers, blocks and content checksums
(R280, R290). The layout is that of RFC 8878, which R290 names (PRESUMED, assumption 10); what a compressed block regenerates is
Config.zstdBlock. -/

namespace Sys2Proof.Machine

/-! ## The content checksum -/

def xxP1 : BitVec 64 := 11400714785074694791
def xxP2 : BitVec 64 := 14029467366897019727
def xxP3 : BitVec 64 := 1609587929392839161
def xxP4 : BitVec 64 := 9650029242287828579
def xxP5 : BitVec 64 := 2870177450012600261

def xxLane (l : List Byte) (n : Nat) : BitVec 64 := BitVec.ofNat 64 (leNat (l.take n))
def xxRound (acc lane : BitVec 64) : BitVec 64 := (acc + lane * xxP2).rotateLeft 31 * xxP1
def xxMerge (h v : BitVec 64) : BitVec 64 := (h ^^^ xxRound 0 v) * xxP1 + xxP4

/-- The four lanes over whole stripes of 32 bytes, and the rest. -/
def xxStripes : Nat → BitVec 64 × BitVec 64 × BitVec 64 × BitVec 64 → List Byte →
    (BitVec 64 × BitVec 64 × BitVec 64 × BitVec 64) × List Byte
  | 0, v, l => (v, l)
  | f + 1, (a, b, c, d), l =>
    if l.length < 32 then ((a, b, c, d), l)
    else xxStripes f (xxRound a (xxLane l 8), xxRound b (xxLane (l.drop 8) 8), xxRound c (xxLane (l.drop 16) 8),
      xxRound d (xxLane (l.drop 24) 8)) (l.drop 32)

/-- The last bytes: lanes of 8, a lane of 4, single bytes. -/
def xxTail : Nat → BitVec 64 → List Byte → BitVec 64
  | 0, h, _ => h
  | f + 1, h, l =>
    if 8 ≤ l.length then xxTail f ((h ^^^ xxRound 0 (xxLane l 8)).rotateLeft 27 * xxP1 + xxP4) (l.drop 8)
    else if 4 ≤ l.length then xxTail f ((h ^^^ xxLane l 4 * xxP1).rotateLeft 23 * xxP2 + xxP3) (l.drop 4)
    else match l with
      | [] => h
      | b :: t => xxTail f ((h ^^^ BitVec.ofNat 64 b.toNat * xxP5).rotateLeft 11 * xxP1) t

/-- The 64-bit checksum of a frame's content; the frame carries its low 32 bits. -/
def xxh64 (l : List Byte) : BitVec 64 :=
  let r := xxStripes (l.length / 32) (xxP1 + xxP2, xxP2, 0, 0 - xxP1) l
  let h := if l.length < 32 then xxP5
    else [r.1.1, r.1.2.1, r.1.2.2.1, r.1.2.2.2].foldl xxMerge
      (r.1.1.rotateLeft 1 + r.1.2.1.rotateLeft 7 + r.1.2.2.1.rotateLeft 12 + r.1.2.2.2.rotateLeft 18)
  let h := xxTail 32 (h + BitVec.ofNat 64 l.length) r.2
  let h := (h ^^^ h >>> 33) * xxP2
  let h := (h ^^^ h >>> 29) * xxP3
  h ^^^ h >>> 32

/-! ## Frames -/

/-- A frame header: where its blocks start, its Window_Size, its Dictionary_ID, and whether a checksum follows the blocks. -/
structure ZFrame where
  blocks : Nat
  window : Nat
  dict : Nat
  checksum : Bool
  deriving DecidableEq, Repr

/-- The frame header at a position; none when it does not lie whole inside the data, or its reserved bit is set. -/
def zstdHeader (d : List Byte) (pos : Nat) : Option ZFrame :=
  let h := fld d (pos + 4) 1
  let single := bit h 5
  let winLen := if single then 0 else 1
  let dictLen := nth 0 [0, 1, 2, 4] (h % 4)
  let sizeLen := nth 0 [if single then 1 else 0, 2, 4, 8] (h / 64)
  let at' := pos + 5 + winLen
  let stop := at' + dictLen + sizeLen
  if d.length < stop ∨ bit h 3 then none
  else
    let w := fld d (pos + 5) 1
    let size := fld d (at' + dictLen) sizeLen + (if sizeLen = 2 then 256 else 0)
    let base := 2 ^ (10 + w / 8)
    some ⟨stop, if single then size else base + base / 8 * (w % 8), fld d at' dictLen, bit h 2⟩

/-- R290: a Window_Size of at most 8 MiB, and no dictionary. -/
def ZFrame.supported (f : ZFrame) : Bool := decide (f.window ≤ 0x800000) && decide (f.dict = 0)

def zstdMagic : Nat := 0xFD2FB528
/-- A skippable frame's magic number. -/
def zstdSkip (magic : Nat) : Bool := decide (magic / 16 = 0x184D2A5)

/-- The bytes a block's content takes: 1 for a repeated byte, else its size. -/
def blockLen (h : Nat) : Nat := if h / 2 % 4 = 1 then 1 else h / 8

/-- Where the blocks of a frame end, from their headers alone; none when that lies beyond the data. -/
def zstdSkipBlocks (d : List Byte) : Nat → Nat → Option Nat
  | 0, _ => none
  | f + 1, pos =>
    let h := fld d pos 3
    if d.length < pos + 3 then none
    else if bit h 0 then some (pos + 3 + blockLen h)
    else zstdSkipBlocks d f (pos + 3 + blockLen h)

/-- No frame header that lies whole in these bytes breaks R290 (R280 step 1). -/
def zstdHeadersOk (d : List Byte) : Nat → Nat → Bool
  | 0, _ => true
  | f + 1, pos =>
    let magic := fld d pos 4
    if d.length < pos + 8 then true
    else if zstdSkip magic then zstdHeadersOk d f (pos + 8 + fld d (pos + 4) 4)
    else if magic ≠ zstdMagic then true
    else
      match zstdHeader d pos with
      | none => true
      | some z =>
        z.supported && (match zstdSkipBlocks d d.length z.blocks with
          | some next => zstdHeadersOk d f (next + if z.checksum then 4 else 0)
          | none => true)

/-- What decoding has given: the output, the first damaged output byte with the place in the data that failed, the place whose
output first goes beyond a limit, and whether a checksum failed. -/
structure ZOut where
  out : List Byte
  bad : Option (Nat × Nat)
  beyond : Option Nat
  sumBad : Bool
  deriving DecidableEq, Repr

def ZOut.fail (z : ZOut) (pos : Nat) : ZOut := { z with bad := some (z.out.length, pos) }
def ZOut.add (z : ZOut) (limit pos : Nat) (l : List Byte) : ZOut :=
  { z with out := z.out ++ l
           beyond := if z.beyond.isNone ∧ limit < z.out.length + l.length then some pos else z.beyond }

/-- What a block regenerates, if it can be decoded; a block never gives more than 128 KiB or the window. -/
def zstdBlockOut (d : List Byte) (frame pos window : Nat) : Option (List Byte) :=
  let h := fld d pos 3
  let n := h / 8
  let content := sub d (pos + 3) (blockLen h)
  if d.length < pos + 3 ∨ d.length < pos + 3 + blockLen h then none
  else
    (match h / 2 % 4 with
     | 0 => some content
     | 1 => some (List.replicate n (content.headD 0))
     | 2 => Config.zstdBlock (sub d frame (pos - frame)) content
     | _ => none).filter (fun l => decide (l.length ≤ min window 0x20000))

/-- The blocks of a frame: the output so far, and where the last of them ends, or none after a failure. -/
def zstdBlocks (d : List Byte) (limit frame window : Nat) : Nat → Nat → ZOut → ZOut × Option Nat
  | 0, pos, z => (z.fail pos, none)
  | f + 1, pos, z =>
    match zstdBlockOut d frame pos window with
    | none => (z.fail pos, none)
    | some l =>
      let next := pos + 3 + blockLen (fld d pos 3)
      if bit (fld d pos 3) 0 then (z.add limit pos l, some next) else zstdBlocks d limit frame window f next (z.add limit pos l)

/-- Frames from a position on (R290). -/
def zstdFrames (d : List Byte) (limit : Nat) : Nat → Nat → ZOut → ZOut
  | 0, _, z => z
  | f + 1, pos, z =>
    let magic := fld d pos 4
    if d.length ≤ pos then z
    else if zstdSkip magic then zstdFrames d limit f (pos + 8 + fld d (pos + 4) 4) z
    else
      match if magic = zstdMagic then (zstdHeader d pos).filter ZFrame.supported else none with
      | none => z.fail pos
      | some h =>
        match zstdBlocks d limit pos h.window d.length h.blocks z with
        | (z', none) => z'
        | (z', some next) =>
          let content := z'.out.drop z.out.length
          let wrong := decide (d.length < next + 4) || decide (fld d next 4 ≠ (xxh64 content).toNat % 2 ^ 32)
          if h.checksum then zstdFrames d limit f (next + 4) { z' with sumBad := z'.sumBad || wrong }
          else zstdFrames d limit f next z'

/-- Decode data whose output is declared to be `limit` bytes. -/
def zstdRun (d : List Byte) (limit : Nat) : ZOut := zstdFrames d limit (d.length + 1) 0 ⟨[], none, none, false⟩

end Sys2Proof.Machine
end

