-- ==== Sys2Proof/Machine/Ingest.lean ====
section
/-! DEFINITION. Ingest: recipes, samples, staging, decoding, concealment, augmentation, packing, periods and records
(R273 to R306). -/

namespace Sys2Proof.Machine

/-! ## The recipe (R274, R275) -/

structure Recipe where
  conceal : Bool
  packing : Bool
  entries : Nat
  rounding : Nat
  periodUs : Nat
  nRec : Nat
  slots : Nat
  stride : Nat
  first : Nat
  token : Nat
  ring : Nat
  release : Nat
  slotStride : Nat
  budget : Nat
  initial : Nat
  rowLen : Nat
  marks : Nat
  positions : Nat
  staging : Nat
  deriving DecidableEq, Repr

def recipeOf (b : List Byte) : Recipe :=
  ⟨bit (fld b 1 1) 0, bit (fld b 1 1) 1, fbits b 2 1 3 0, fbits b 3 1 1 0, fld b 4 4, fld b 8 2, fld b 10 2, fld b 12 4,
   fld b 16 6, fld b 22 2, fld b 24 6, fld b 30 2, fld b 32 8, fld b 40 1, fld b 42 4, fld b 46 4, fld b 50 4, fld b 54 4,
   fld b 72 8⟩

structure Entry where
  stream : Nat
  method : Nat
  codecs : Nat
  fmt : Nat
  aug : Nat
  offset : Int
  x : Nat
  y : Nat
  z : Nat
  c : Nat
  maxLen : Nat
  outOff : Nat
  pitch : Nat
  refBase : Nat
  cw : Nat
  ch : Nat
  noise : Word
  spans : Nat
  spanLen : Nat
  deriving DecidableEq, Repr

def entryOf (e : List Byte) : Entry :=
  ⟨fbits e 0 1 5 0, fbits e 1 1 1 0, fbits e 1 1 4 2, fbits e 2 1 3 0, fbits e 3 1 4 0, sfld e 4, fld e 8 4, fld e 12 4,
   fld e 16 4, fld e 20 4, fld e 24 8, fld e 32 4, 64 * fld e 36 4, fld e 40 6, fld e 48 4, fld e 52 4,
   BitVec.ofNat 32 (fld e 56 4), fld e 60 2, fld e 62 2⟩

/-- The planes of an entry's outputs: C·Z, and one mask plane more per z under mask plane (R294). -/
def Entry.planes (e : Entry) : Nat := e.z * (e.c + (if e.method = 2 then 1 else 0))

def Device.recipeBytes (s : Device) : List Byte := s.sec 0x06 255 255 255
def Device.recipe (s : Device) : Option Recipe := if s.recipeBytes.isEmpty then none else some (recipeOf s.recipeBytes)
def Device.entry (s : Device) (e : Nat) : Entry := entryOf (sub s.recipeBytes (128 + 64 * e) 64)

def Entry.eb (e : Entry) : Nat := outBytes e.fmt
/-- Bytes of an element type of R278. -/
def elemSize (t : Nat) : Nat := if t = 0 then 4 else 2

/-! ## Keys (R276) -/

/-- The key index of a sample for an entry, when its key is on the grid. -/
def keyIndex (r : Recipe) (e : Entry) (step : Nat) : Option Nat :=
  let k : Int := (step : Int) - e.offset
  if (r.first : Int) ≤ k ∧ (k - r.first) % r.stride = 0 then some ((k - r.first) / r.stride).toNat else none

/-- The step an entry's use of a key comes from. -/
def keyStep (r : Recipe) (e : Entry) (n : Nat) : Nat := ((r.first : Int) + n * r.stride + e.offset).toNat
def keyOf (r : Recipe) (n : Nat) : Nat := r.first + n * r.stride

def Device.modIngest (s : Device) (f : Ingest → Ingest) : Device := { s with ingest := f s.ingest }

/-- A key is delivered or resolved, or lies below the first key of the run. -/
def Ingest.settled (g : Ingest) (n : Nat) : Bool :=
  decide (n < g.base) || g.delivered.contains n || g.resolved.contains n

/-! ## Records (R280, R282, R284, R293, R296) -/

/-- A record of the aligner or of a decode engine. -/
def ingRec (code p unit index : Nat) : Rec := Rec.plain code (dpPdie p unit index) (ctlMp p) (8 + p)

def sampleRec (code sample stream step frag tag : Nat) : Rec :=
  { ingRec code 0 1 0 with posKind := 2, pos := sample, tag := tag, vals := [(1, stream), (4, step), (4, frag)] }

/-- INGEST_CREDIT is owed to both host pairs (R303). -/
def Device.owe (s : Device) (status : Nat) : Device :=
  s.modIngest (fun g => { g with creditDue := [0, 1].filterMap s.pairOf, creditStatus := status })

/-! ## Staging (R280, R302) -/

/-- Bytes reserved in the staging area of a P-die: each sample's compressed length once (DESIGN CHOICE, assumption 38). -/
def Device.stagingUsed (s : Device) (p : Nat) : Nat :=
  let live := s.ingest.uses.filter (fun u => u.sample < 2 ^ 63 ∧ u.sample % 2 = p ∧ u.stage ≤ 2)
  ((live.map (fun u => (u.sample, u.clen))).eraseDups.map (·.2)).foldl (· + ·) 0

def Device.stagingFree (s : Device) (r : Recipe) : Nat :=
  (r.staging - s.stagingUsed 0) + (r.staging - s.stagingUsed 1)

/-- Staging free crosses a quarter, half or three quarters of the staging size (R303). -/
def crossed (size before after : Nat) : Bool :=
  [1, 2, 3].any (fun i => decide (before * 4 < i * size) != decide (after * 4 < i * size))

/-- After a change of staging, INGEST_CREDIT is owed when a threshold was crossed. -/
def Device.creditIfCrossed (s : Device) (r : Recipe) (before : Nat) : Device :=
  if crossed r.staging before (s.stagingFree r) then s.owe (if s.ingest.creditStatus = 3 then 0 else s.ingest.creditStatus)
  else s

/-! ## Samples (R278 to R282) -/

/-- The fields of fragment 0. -/
structure SampleHdr where
  sample : Nat
  stream : Nat
  step : Nat
  codec : Nat
  elemType : Nat
  sizes : List Nat
  clen : Nat
  deriving DecidableEq, Repr

def sampleHdr (b : List Byte) : SampleHdr :=
  ⟨fld b 0 8, fbits b 8 1 5 0, fld b 16 6, fbits b 22 1 1 0, fbits b 22 1 3 2,
   [fld b 24 4, fld b 28 4, fld b 32 4, fld b 36 4], fld b 40 8⟩

/-- A reserved field or value of the common bytes, or of the sample header (R280 step 1). The first bit stands in fragment 0
alone, and only the last fragment may carry fewer than 8,192 bytes (R278) (DEDUCED, assumption 38). -/
def commonOk (m : Msg) : Bool :=
  let b := m.payload
  let n := b.length - (if fld b 12 4 = 0 then 64 else 16)
  decide (16 ≤ b.length) && decide (bit (fld b 9 1) 0 = decide (fld b 12 4 = 0)) &&
    decide (n ≤ 8192) && (bit (fld b 9 1) 1 || decide (n = 8192)) && decide (fbits b 8 1 7 6 = 0) && decide (fbits b 9 1 7 2 = 0) && zeros b 10 2 &&
    decide (fld b 12 4 = m.sub.toNat) && decide (fbits b 8 1 5 0 + 64 = m.flow) && decide (fld b 0 8 < 2 ^ 63)
def headerOk (b : List Byte) : Bool :=
  decide (64 ≤ b.length) && decide (fbits b 22 1 7 4 = 0) && zeros b 23 1 && zeros b 48 16 && decide (fbits b 22 1 1 0 ≠ 3)

/-- The entries that name a stream, allow the codec and have the key on the grid, with their key indices. -/
def Device.usesOf (s : Device) (r : Recipe) (h : SampleHdr) : List (Nat × Nat) :=
  (List.range r.entries).filterMap (fun e =>
    let x := s.entry e
    if x.stream = h.stream ∧ bit x.codecs h.codec then (keyIndex r x h.step).map (fun n => (e, n)) else none)

/-- Ingest refuses every sample: shed level 1, or a hot P-die (R305, R399). -/
def Device.ingestShed (s : Device) : Bool := decide (1 ≤ s.power.level) || !s.power.hotPdies.isEmpty

/-- R280 step 5 for an entry. -/
def sizeBad (r : Recipe) (e : Entry) (h : SampleHdr) : Bool :=
  let x := nth 0 h.sizes 0
  let y := nth 0 h.sizes 1
  let z := nth 0 h.sizes 2
  let c := nth 0 h.sizes 3
  (if r.packing then decide (e.x < x ∨ y ≠ 1 ∨ z ≠ 1 ∨ c ≠ e.c) else decide (x ≠ e.x ∨ y ≠ e.y ∨ z ≠ e.z ∨ c ≠ e.c)) ||
    decide (e.maxLen < h.clen) || decide (4096 * h.clen < x * y * z * c * elemSize h.elemType)

/-- A use of the sample in progress on a stream, whose fragments still come; a sample that was not admitted has none (R281). -/
def FlowSample.feeds (f : FlowSample) (stream : Nat) (u : Use) : Bool :=
  f.admitted && u.sample == f.sample && u.stream == stream && u.stage == 0

/-- The sample in progress on a stream ends: what has not arrived is damaged, and its uses are staged, last in order (R279). -/
def Device.endSample (s : Device) (stream : Nat) : Device :=
  match Tab.get none s.ingest.flows stream with
  | none => s
  | some f =>
    s.modIngest (fun g => { g with
      flows := Tab.set none g.flows stream none
      uses := g.uses.filter (fun u => !f.feeds stream u) ++
        (g.uses.filter (f.feeds stream)).map (fun u => { u with stage := 1 }) })

/-- The stream's flow follows a sample whose fragments are admitted or discarded (R281). -/
def Device.follow (s : Device) (stream sample : Nat) (ok last : Bool) : Device :=
  let s := s.modIngest (fun g => { g with flows := Tab.set none g.flows stream (some ⟨sample, ok, 1⟩) })
  if last then s.endSample stream else s

/-- R280 and R282: the outcome of fragment 0. The worked example of R280's chapter drops a late repeat as late, so the test of
R282 follows step 3 (DEDUCED, assumption 38). -/
def Device.admitSample (s : Device) (m : Msg) : Device :=
  let b := m.payload
  let h := sampleHdr b
  let last := bit (fld b 9 1) 1
  let rec0 (code tag : Nat) : Rec := sampleRec code h.sample h.stream h.step 0 tag
  let g := s.ingest
  let no (s : Device) : Device := s.follow h.stream h.sample false last
  let refused (s : Device) (tag status : Nat) : Device :=
    no (((s.log1 (rec0 Code.ingRefusedFull tag)).modIngest (fun g => { g with lastRefused := some h.sample })).owe status
      |>.bumpIng 0 1 1)
  match s.recipe with
  | none => no ((s.log1 (rec0 Code.ingSampleMalformed 0)).bumpIng 0 3 1)
  | some r =>
    let us := s.usesOf r h
    if !headerOk b || us.isEmpty || !g.running || 
        (h.codec == 1 && !zstdHeadersOk ((b.drop 64).take h.clen) b.length 0) then
      no ((s.log1 (rec0 Code.ingSampleMalformed 0)).bumpIng 0 3 1)
    else if s.ingestShed then refused s 1 2
    else
      let late := us.filter (fun u => decide (u.2 / r.nRec < g.period) || g.settled u.2)
      let openKeys := us.filter (fun u => !late.contains u)
      let s := if late.isEmpty then s else s.log1 (rec0 Code.ingLateDropped 0)
      if openKeys.isEmpty then no (s.bumpIng 0 2 1)
      else if g.admitted.any (fun a => (a.1 == h.sample || (a.2.1 == h.stream && a.2.2.1 == h.step)) &&
          decide (g.period ≤ a.2.2.2 + 1)) then
        no ((s.log1 (rec0 Code.ingSampleMalformed 3)).bumpIng 0 3 1)
      else
        let near := openKeys.filter (fun u => decide (u.2 / r.nRec ≤ g.period + 1))
        if near.isEmpty then refused s 2 1
        else if openKeys.any (fun u => sizeBad r (s.entry u.1) h) then
          no (((s.log1 (rec0 Code.ingDimClaim 0)).modIngest (fun g => { g with lastRefused := some h.sample })).bumpIng 0 1 1)
        else
          let p := h.sample % 2
          if r.staging < s.stagingUsed p + h.clen then refused s 0 1
          else
            let before := s.stagingFree r
            let data := (b.drop 64).take h.clen
            let s := s.modIngest (fun g => { g with
              admitted := g.admitted.filter (fun a => decide (g.period ≤ a.2.2.2 + 1)) ++ [(h.sample, h.stream, h.step, g.period)]
              uses := g.uses ++ near.map (fun u =>
                ⟨u.1, u.2, h.sample, h.stream, h.codec, h.elemType, h.sizes, h.clen, data, 0, p, 0, 0⟩) })
            let s := (s.bumpIng 0 0 1).bumpIng p 9 data.length
            (s.follow h.stream h.sample true last).creditIfCrossed r before

/-- A SAMPLE fragment as it is delivered. -/
def Device.onSample (s : Device) (m : Msg) : Device :=
  let b := m.payload
  let stream := m.flow - 64
  let index := fld b 12 4
  if !commonOk m then
    ((s.endSample stream).log1 (sampleRec Code.ingSampleMalformed (fld b 0 8) stream 0 index 0)).bumpIng 0 3 1
  else if bit (fld b 9 1) 0 || decide (index = 0) then (s.endSample stream).admitSample m
  else
    match Tab.get none s.ingest.flows stream with
    | none => s
    | some f =>
      if f.nextFragment ≠ index ∨ f.sample ≠ fld b 0 8 then s.endSample stream
      else
        let data := (b.drop 16).take 8192
        let s := s.modIngest (fun g => { g with
          flows := Tab.set none g.flows stream (some { f with nextFragment := index + 1 })
          uses := g.uses.map (fun u => if f.feeds stream u then { u with data := (u.data ++ data).take u.clen } else u) })
        let s := if s.ingest.uses.any (f.feeds stream) then s.bumpIng (f.sample % 2) 9 data.length else s
        if bit (fld b 9 1) 1 then s.endSample stream else s

/-! ## Decoding (R288 to R292) -/

/-- Decoded elements: bits and whether damaged; the first damaged byte, the damaged ranges, and whether the data was
overlong. -/
structure Decoded where
  elems : List (Nat × Bool)
  firstByte : Nat
  overlong : Bool
  deriving DecidableEq, Repr

def decodeRaw (u : Use) (n : Nat) : Decoded :=
  let eb := elemSize u.elemType
  ⟨(List.range n).map (fun i => (fld u.data (i * eb) eb, decide (u.data.length < (i + 1) * eb))),
   min u.data.length (n * eb), decide (n * eb < u.clen)⟩

/-- R290: a failing block damages from its first output byte on, a failed checksum without one the whole sample. -/
def decodeZstd (u : Use) (n : Nat) : Decoded :=
  let eb := elemSize u.elemType
  let z := zstdRun u.data (n * eb)
  let bad := match z.bad with | some b => b.1 | none => if z.sumBad then 0 else z.out.length
  ⟨(List.range n).map (fun i => (fld z.out (i * eb) eb, decide (bad < (i + 1) * eb))),
   (match z.bad with
    | some b => b.2
    | none => if z.sumBad then 0 else if z.out.length < n * eb then u.data.length else z.beyond.getD u.data.length),
   decide (n * eb < z.out.length)⟩

/-- What a row body's blocks give (R291): the residuals, or that a width is above the type's, or that the body's length disagrees
with the blocks. -/
inductive RowBlocks where
  | ok (l : List Nat) | wide | long
  deriving DecidableEq, Repr

def RowBlocks.before (l : List Nat) : RowBlocks → RowBlocks
  | .ok t => .ok (l ++ t)
  | r => r

def rowResiduals (b : Nat) : Nat → List Byte → Nat → RowBlocks
  | 0, rest, _ => if rest.isEmpty then .ok [] else .long
  | f + 1, rest, m =>
    if m = 0 then (if rest.isEmpty then .ok [] else .long)
    else
      match rest with
      | [] => .long
      | w :: rest =>
        let w := w.toNat
        let k := min 64 m
        let len := ceilDiv (k * w) 8
        if b < w then .wide
        else if rest.length < len then .long
        else
          let x := leNat (rest.take len)
          (rowResiduals b f (rest.drop len) (m - k)).before ((List.range k).map (fun i => packedAt w x i))

/-- Running sums of R292. -/
def rowValues (b : Nat) : Nat → List Nat → List Nat
  | o, [] => [o]
  | o, z :: t =>
    let r := z / 2 ^^^ (if z % 2 = 1 then 2 ^ b - 1 else 0)
    o :: rowValues b ((o + r) % 2 ^ b) t

/-- The encoding of an element from its ordered value (R292). -/
def orderedBits (elemType b o : Nat) : Nat :=
  let top := 2 ^ (b - 1)
  if elemType = 3 then o ^^^ 0x8000 else if top ≤ o then o ^^^ top else 2 ^ b - 1 - o

/-- A row record at a position (R292): its elements, or none when the row is damaged, and where the next row starts, or none
when that is not known. A row found through the plane table (`tabled`) that lies whole in the data is damaged alone; without the
table, a length that disagrees with the row's blocks damages the rest. -/
def decodeRow (u : Use) (tabled : Bool) (x pos : Nat) : Option (List Nat) × Option Nat :=
  let b := if u.elemType = 0 then 32 else 16
  let len := fld u.data pos 4
  let next := pos + 8 + len
  if u.data.length < pos + 8 ∨ u.data.length < next then (none, none)
  else
    let body := sub u.data (pos + 8) len
    match if len < b / 8 then RowBlocks.long else rowResiduals b (ceilDiv (x - 1) 64) (body.drop (b / 8)) (x - 1) with
    | .wide => (none, some next)
    | .long => (none, if tabled then some next else none)
    | .ok zs =>
      (if crc32c body = BitVec.ofNat 32 (fld u.data (pos + 4) 4) then
        some ((rowValues b (fld body 0 (b / 8)) zs).map (orderedBits u.elemType b)) else none, some next)

/-- `n` rows from a position: elements with damage, and the first damaged byte. -/
def decodeRows (u : Use) (tabled : Bool) (x : Nat) : Nat → Option Nat → List (Nat × Bool) × Option Nat
  | 0, _ => ([], none)
  | n + 1, none => (List.replicate x (0, true) ++ (decodeRows u tabled x n none).1, some u.data.length)
  | n + 1, some p =>
    let d := decodeRow u tabled x p
    let r := decodeRows u tabled x n d.2
    ((match d.1 with
      | some es => es.map (fun e => (e, false))
      | none => List.replicate x (0, true)) ++ r.1,
     if d.1.isNone then some (min p u.data.length) else r.2)

/-- Delta-plane (R291, R292): rows are found through the plane table, or one after another when its CRC fails. -/
def decodeDelta (u : Use) (x y planes : Nat) : Decoded :=
  let tableOk := decide (8 + 8 * planes + 4 ≤ u.data.length) &&
    decide (crc32c (sub u.data 8 (8 * planes)) = BitVec.ofNat 32 (fld u.data (8 + 8 * planes) 4))
  if tableOk then
    let ps := (List.range planes).map (fun i => decodeRows u true x y (some (fld u.data (8 + 8 * i) 8)))
    ⟨ps.flatMap (·.1), (ps.findSome? (·.2)).getD u.data.length, false⟩
  else
    let r := decodeRows u false x (y * planes) (some (8 + 8 * planes + 4))
    ⟨r.1, r.2.getD u.data.length, false⟩

def decodeUse (u : Use) : Decoded :=
  let x := nth 0 u.sizes 0
  let y := nth 0 u.sizes 1
  let z := nth 0 u.sizes 2
  let c := nth 0 u.sizes 3
  if u.codec = 0 then decodeRaw u (x * y * z * c)
  else if u.codec = 1 then decodeZstd u (x * y * z * c)
  else decodeDelta u x y (c * z)

/-- Stage 1 of R289: the element's FP32 value; a NaN of any payload is the canonical one (R59, R74). -/
def elemValue (elemType x : Nat) : Word :=
  if elemType = 0 then enc32 (valueOf 0 x 0 0)
  else if elemType = 1 then enc32 (valueOf 1 x 0 0)
  else if elemType = 2 then enc32 (valueOf 2 x 0 0)
  else enc32 (FVal.ofInt (sext 16 (x % 65536)) 0)

/-! ## Output (R289, R294, R297 to R299) -/

/-- An output value in the entry's format. -/
def Entry.enc (e : Entry) (mode : Nat) (v : Word) : List Byte :=
  if e.fmt = 0 then leBytes 4 (if isNan32 v then nan32 else v).toNat else leBytes e.eb (convertBare e.fmt mode 0 v).enc

/-- Word `i` of an augmentation call (R297, R298). -/
def Device.augWord (s : Device) (sample entry k block i : Nat) : Nat :=
  (nth 0 (augWords s.job.keyAug sample (16 * entry + k) block) i).toNat

/-- The sizes after crop, and the unaugmented position an output position takes (R298). -/
def Device.augSource (s : Device) (r : Recipe) (e : Entry) (u : Use) (x' y' : Nat) : Nat × Nat :=
  let w := Device.augWord s u.sample u.entry
  let ax := if r.packing ∧ ¬ bit e.aug 0 then nth 0 u.sizes 0 else min e.cw (nth 0 u.sizes 0)
  let ay := if r.packing then 1 else e.ch
  let f := if bit e.aug 2 then w 2 0 0 else 0
  let x1 := if bit f 0 then ax - 1 - x' else x'
  let y1 := if bit f 1 then ay - 1 - y' else y'
  let q := if bit e.aug 1 then w 1 0 0 % 4 else 0
  let t := if q = 0 then (x1, y1) else if q = 1 then (y1, ax - 1 - x1)
    else if q = 2 then (ax - 1 - x1, ax - 1 - y1) else (ax - 1 - y1, x1)
  if bit e.aug 0 then
    (t.1 + w 0 0 1 % (nth 0 u.sizes 0 - ax + 1), t.2 + w 0 0 0 % (nth 0 u.sizes 1 - ay + 1))
  else t

/-- Noise of R299. -/
def noiseOf (a : Word) (u : Nat) : Word :=
  fMul a (fMul (fSub (wordOfInt u) 0x46FFFF00) 0x38000000)

/-- The reference area's element of an entry, if it holds a use (R294). -/
def Device.refElem (s : Device) (e : Entry) (entry plane x y : Nat) : Option Word :=
  if s.ingest.refValid.contains entry ∧ x < e.cw ∧ y < e.ch then
    some (enc32 (valueOf e.fmt (s.readNat (e.refBase + plane * e.pitch + (y * e.cw + x) * e.eb) e.eb) 0 0))
  else none

/-- What decoding and concealing gives at an unaugmented position: the FP32 value and whether it is concealed. -/
def Device.plainElem (s : Device) (e : Entry) (u : Use) (d : Decoded) (c z x y : Nat) : Word × Bool :=
  let sx := nth 0 u.sizes 0
  let sy := nth 0 u.sizes 1
  let sz := nth 0 u.sizes 2
  let el := nth (0, true) d.elems (((c * sz + z) * sy + y) * sx + x)
  if el.2 then
    ((if e.method = 0 then (s.refElem e u.entry (c * sz + z) x y).getD 0 else 0), true)
  else (elemValue u.elemType el.1, false)

/-- The spans a use masks (R298): start positions. -/
def Device.spanStarts (s : Device) (e : Entry) (u : Use) (n : Nat) : List Nat :=
  if bit e.aug 4 ∧ e.spanLen ≤ n then
    (List.range e.spans).map (fun i => s.augWord u.sample u.entry 4 (i / 4) (i % 4) % (n - e.spanLen + 1))
  else []

/-- Output planes and bytes of a use, as (plane, position, bytes); planes after C·Z are mask planes. -/
def Device.outputOf (s : Device) (r : Recipe) (e : Entry) (u : Use) (d : Decoded) : List (Nat × Nat × List Byte) :=
  let sz := nth 1 u.sizes 2
  let ax := if r.packing ∧ ¬ bit e.aug 0 then nth 0 u.sizes 0 else min e.cw (nth 0 u.sizes 0)
  let ay := if r.packing then 1 else e.ch
  let spans := s.spanStarts e u (ax * ay * sz)
  (List.range (e.c + (if e.method = 2 then 1 else 0))).flatMap (fun c =>
    (List.range sz).flatMap (fun z =>
      (List.range (ax * ay)).map (fun p =>
        let x' := p % max 1 ax
        let y' := p / max 1 ax
        let src := s.augSource r e u x' y'
        let v :=
          if c = e.c then
            e.enc r.rounding (if (List.range e.c).any (fun c => (s.plainElem e u d c z src.1 src.2).2) then 0x3F800000 else 0)
          else
            let el := (s.plainElem e u d c z src.1 src.2).1
            let i := (c * sz + z) * ax * ay + p
            let el := if bit e.aug 3 then
                fAdd el (noiseOf e.noise (bits (s.augWord u.sample u.entry 3 (i / 8) (i % 8 / 2))
                  (16 * (i % 2) + 15) (16 * (i % 2))))
              else el
            if spans.any (fun t => decide (t ≤ z * ax * ay + p ∧ z * ax * ay + p < t + e.spanLen)) then e.enc r.rounding 0
            else e.enc r.rounding el
        (c * sz + z, p, v))))

/-- Write the reference area under repeat (R289 stage 3). -/
def Device.writeRef (s : Device) (r : Recipe) (e : Entry) (u : Use) (d : Decoded) : Device :=
  if e.method ≠ 0 then s
  else
    let sz := nth 1 u.sizes 2
    let ws := (List.range e.c).flatMap (fun c => (List.range sz).flatMap (fun z =>
      (List.range (e.cw * e.ch)).map (fun p =>
        (e.refBase + (c * sz + z) * e.pitch + p * e.eb,
         e.enc r.rounding (s.plainElem e u d c z (p % max 1 e.cw) (p / max 1 e.cw)).1))))
    (ws.foldl (fun s w => s.write w.1 w.2) s).modIngest (fun g => { g with
      refValid := if g.refValid.contains u.entry then g.refValid else g.refValid ++ [u.entry] })

/-- The slot of a key index (R276), or of a row (R300). -/
def slotBase (r : Recipe) (n : Nat) : Nat := r.ring + n % max 1 r.slots * r.slotStride

/-- Take every slot release the job has posted (R286). -/
def Device.absorbReleases (s : Device) (r : Recipe) : Device :=
  let n := Tab.get 0 s.streamTokens r.release
  { s with streamTokens := Tab.set 0 s.streamTokens r.release 0,
           ingest := { s.ingest with slotsUsed := s.ingest.slotsUsed + n } }

/-- The slot of a key index or row may be written: the key that used it last is delivered or resolved, and every earlier
occupant is released, in delivery order (R286). -/
def Device.slotFree (s : Device) (r : Recipe) (n : Nat) : Bool :=
  let l := if r.packing then List.range s.ingest.recordsDelivered else s.ingest.delivered
  (r.packing || decide (n < r.slots) || s.ingest.settled (n - r.slots)) && (List.range l.length).all (fun i =>
    !(nth 0 l i % max 1 r.slots == n % max 1 r.slots) || decide (i < s.ingest.slotsUsed))

def updUse (l : List Use) (u v : Use) : List Use := l.map (fun x => if x = u then v else x)

/-- A use completes: its output, plane by plane, is kept with it until its record is delivered, so that the slot of a dropped
record is not written (R284) (DESIGN CHOICE, assumption 39). -/
def Device.completeUse (s : Device) (r : Recipe) (u : Use) (d : Decoded) : Device :=
  let e := s.entry u.entry
  let out := s.outputOf r e u d
  let concealed := (d.elems.filter (·.2)).length
  let s := (s.writeRef r e u d).bumpIng u.pdie 5 concealed
  s.modIngest (fun g => { g with uses := updUse g.uses u { u with
    stage := 3, concealed := concealed, data := out.flatMap (·.2.2) } })

/-- Write a use's output to its slot (R289). -/
def Device.writeUse (s : Device) (r : Recipe) (u : Use) : Device :=
  let e := s.entry u.entry
  let n := min e.cw (nth 0 u.sizes 0) * e.ch * e.eb
  (List.range e.planes).foldl (fun s i =>
    s.write (slotBase r u.key + e.outOff + i * e.pitch) (sub u.data (i * n) n)) s

/-- Records of damage (R293): one per use, its count raised for each further range. -/
def damageRanges : List (Nat × Bool) → Bool → Nat
  | [], _ => 0
  | e :: t, before => (if e.2 && !before then 1 else 0) + damageRanges t e.2

def Device.reportDamage (s : Device) (u : Use) (d : Decoded) (eng : Nat) : Device :=
  let e := s.entry u.entry
  let n := (d.elems.filter (·.2)).length
  let ranges := damageRanges d.elems false + (if d.overlong then 1 else 0)
  let tag := if n ≠ 0 ∧ e.method = 0 ∧ ¬ s.ingest.refValid.contains u.entry then 6 else if n = 0 ∧ d.overlong then 7 else 0
  let rec0 : Rec := { ingRec Code.ingDamageConcealed u.pdie 0 eng with
    posKind := 2, pos := u.sample, tag := tag
    vals := [(4, d.firstByte), (4, (d.elems.map (·.2)).idxOf true), (4, n), (1, e.method)] }
  (List.range ranges).foldl (fun s i => s.log1 { rec0 with key := if i = 0 then 0 else 2 }) s

/-- The reference area a use may take elements from can be read (R51, R294). -/
def Device.refSound (s : Device) (u : Use) : Bool :=
  let e := s.entry u.entry
  decide (e.method ≠ 0) || s.sound e.refBase ((e.z * e.c - 1) * e.pitch + e.cw * e.ch * e.eb)

/-- The ring of slots or a reference area lies in a parked die's HBM, so what an engine or the aligner writes waits (R54). -/
def Device.ringWaits (s : Device) (r : Recipe) : Bool :=
  (s.waitsForDie r.ring).isSome || (List.range r.entries).any (fun e =>
    decide ((s.entry e).method = 0) && (s.waitsForDie (s.entry e).refBase).isSome)

/-! ## Engines (R287, R289, R295, R296) -/

def Device.engineFree (s : Device) (p e : Nat) : Bool :=
  !s.ingest.uses.any (fun u => u.pdie == p && u.engine == e && (u.stage == 2 || u.stage == 4))

/-- DECODE_START (R287): the first staged use whose slot is free goes to the first free engine. -/
def Device.decodeStart (s : Device) (p : Nat) : Device :=
  match s.recipe with
  | none => s
  | some r =>
    let s := s.absorbReleases r
    match s.ingest.uses.find? (fun u => u.pdie == p && u.stage == 1 && (r.packing || s.slotFree r u.key)),
        (List.range 16).find? (s.engineFree p) with
    | some u, some e => s.modIngest (fun g => { g with uses := updUse g.uses u { u with stage := 2, engine := e } })
    | _, _ => s

def execDecodeStart (p : Nat) (s : State) : Host.Outcome State Fault Refusal :=
  .next (s.onDev (fun d => d.decodeStart p))

def statKey (u : Use) : Nat := 4 * u.stream + u.codec

/-- A use's budget in P-die core cycles (R296). -/
def Device.budgetOf (s : Device) (r : Recipe) (u : Use) : Nat :=
  let l := Tab.get [] s.ingest.times (statKey u)
  if l.length < 8 then r.initial * 1600 else r.budget * (l.foldl (· + ·) 0) / l.length

/-- Drop one more use's result from a key: it is missing (R284). -/
def Device.missingRec (s : Device) (r : Recipe) (n e : Nat) : Device :=
  let x := s.entry e
  s.log1 { ingRec Code.ingStreamMissing 0 1 0 with
    tag := if r.conceal then 5 else 4, vals := [(1, x.stream), (4, keyStep r x n), (4, keyOf r n)] }

def Ingest.complete (g : Ingest) (n e : Nat) : Bool := g.uses.any (fun u => u.key == n && u.entry == e && u.stage == 3)
def Ingest.inWork (g : Ingest) (n e : Nat) : Bool :=
  g.uses.any (fun u => u.key == n && u.entry == e && (u.stage == 1 || u.stage == 2 || u.stage == 4 || u.stage == 5))

/-- Keys of ended periods that wait are resolved in ascending order (R284). -/
def Device.resolveKeys (s : Device) (r : Recipe) : Nat → Device
  | 0 => s
  | f + 1 =>
    match s.ingest.pendingKeys with
    | [] => s
    | n :: rest =>
      let es := List.range r.entries
      if es.any (fun e => !s.ingest.complete n e && s.ingest.inWork n e) then s
      else
        let missing := es.filter (fun e => !s.ingest.complete n e)
        let s := missing.foldl (fun s e => s.missingRec r n e) s
        let s := s.modIngest (fun g => { g with pendingKeys := rest })
        let s := if missing.isEmpty then s
          else if r.conceal then s.modIngest (fun g => { g with uses := g.uses ++ missing.map (fun e =>
            let x := s.entry e
            let id := 64 * n + x.stream
            ⟨e, n, 2 ^ 63 + id, x.stream, 0, 0, [x.x, x.y, x.z, x.c], 0, [], 5, id % 2, 0, 0⟩) })
          else (s.modIngest (fun g => { g with
              resolved := g.resolved ++ [n], uses := g.uses.filter (fun u => u.key != n) })).bumpIng 0 7 1
        s.resolveKeys r f

def Device.resolve (s : Device) (r : Recipe) : Device := s.resolveKeys r (s.ingest.pendingKeys.length)

/-- Engine time and, for a completed decode, the mean of R296. -/
def Device.engineTime (s : Device) (u : Use) (cycles : Nat) (counted : Bool) : Device :=
  let n := (u.sizes.foldl (· * ·) 1)
  (s.modIngest (fun g => { g with
    busyNow := g.busyNow + cycles
    decodedNow := g.decodedNow + (if counted then n else 0)
    times := if counted then
        Tab.set [] g.times (statKey u) ((cycles :: Tab.get [] g.times (statKey u)).take 64) else g.times })).bumpIng u.pdie 8 cycles

/-- DECODE_COMPLETE (R289). -/
def Device.decodeComplete (s : Device) (p e cycles : Nat) : Device :=
  match s.recipe, s.ingest.uses.find? (fun u => u.pdie == p && u.engine == e && u.stage == 2) with
  | some r, some u =>
    if s.isHeld (.engine p e) || s.ringWaits r then s
    else
      let before := s.stagingFree r
      let d := decodeUse u
      if d.elems.any (·.2) && !s.refSound u then s
      else
      let s := s.reportDamage u d e
      let s := (s.completeUse r u d).engineTime u cycles true
      (s.creditIfCrossed r before).resolve r
  | _, _ => s

def execDecodeComplete (p e cycles : Nat) (s : State) : Host.Outcome State Fault Refusal :=
  .next (s.onDev (fun d => d.decodeComplete p e cycles))

/-- ING_BUDGET_EXCEEDED (R296): the use is dropped. -/
def Device.budgetExceeded (s : Device) (p e : Nat) : Device :=
  match s.recipe, s.ingest.uses.find? (fun u => u.pdie == p && u.engine == e && u.stage == 2) with
  | some r, some u =>
    let before := s.stagingFree r
    let b := s.budgetOf r u
    let s := s.log1 { ingRec Code.ingBudgetExceeded p 0 e with
      posKind := 2, pos := u.sample, vals := [(1, u.stream), (4, keyStep r (s.entry u.entry) u.key), (4, b)] }
    let s := (s.modIngest (fun g => { g with uses := g.uses.filter (· != u) })).engineTime u b false
    ((s.bumpIng p 4 1).creditIfCrossed r before).resolve r
  | _, _ => s

def execIngBudgetExceeded (p e : Nat) (s : State) : Host.Outcome State Fault Refusal :=
  .next (s.onDev (fun d => d.budgetExceeded p e))

/-- CONCEALMENT_FILL (R295): an engine fills a missing use wholly by the entry's method. -/
def Device.concealmentFill (s : Device) (p e : Nat) : Device :=
  match s.recipe with
  | none => s
  | some r =>
    let s := s.absorbReleases r
    match s.ingest.uses.find? (fun u => u.pdie == p && u.stage == 5 && (r.packing || s.slotFree r u.key)) with
    | none => s
    | some u =>
      if !s.engineFree p e || s.isHeld (.engine p e) || s.ringWaits r || !s.refSound u then s
      else
        let n := u.sizes.foldl (· * ·) 1
        s.completeUse r u ⟨List.replicate n (0, true), 0, false⟩

def execConcealmentFill (p e : Nat) (s : State) : Host.Outcome State Fault Refusal :=
  .next (s.onDev (fun d => d.concealmentFill p e))

/-! ## Delivery (R285, R286, R300, R301) -/

def firstUse (g : Ingest) (n e : Nat) : Option Use := g.uses.find? (fun u => u.key == n && u.entry == e && u.stage == 3)

/-- The directory of an unpacked record (R285). -/
def Device.directory (s : Device) (r : Recipe) (n : Nat) : List Byte :=
  let us := (List.range 8).map (fun e => if e < r.entries then firstUse s.ingest n e else none)
  let val (f : Use → Nat) : List Nat := us.map (fun u => match u with | some u => f u | none => 0)
  leBytes 8 (keyOf r n) ++ leBytes 8 (keyOf r n) ++ leBytes 4 (n / r.nRec) ++ List.replicate 6 (0 : Byte) ++
    [(if us.any (fun u => match u with | some u => u.concealed != 0 | none => false) then 1 else 0 : Byte)] ++ List.replicate 5 (0 : Byte) ++
    (val (·.sample)).flatMap (leBytes 8) ++ (val (·.concealed)).flatMap (leBytes 4) ++ List.replicate 128 0

/-- A packed row is delivered (R300, R301): the rest of it is zero, then its directory and token. -/
def Device.deliverRow (s : Device) (r : Recipe) : Device :=
  let g := s.ingest
  if g.rowSegs.isEmpty then s
  else
    let e := s.entry 0
    let base := slotBase r g.recordsDelivered
    let rest := r.rowLen - g.rowFilled
    let s := (List.range e.c).foldl (fun s c =>
      s.write (base + e.outOff + c * e.pitch + g.rowFilled * e.eb) (List.replicate (rest * e.eb) 0)) s
    let s := s.write (base + r.marks + 2 * g.rowFilled) (List.replicate (2 * rest) 0)
    let s := s.write (base + r.positions + 4 * g.rowFilled) (List.replicate (4 * rest) 0)
    let k0 := (g.rowSegs.headD (0, 0)).1
    let k1 := (g.rowSegs.getLastD (0, 0)).1
    let any := g.rowSegs.any (fun x => x.2 != 0)
    let s := s.write base (leBytes 8 (keyOf r k0) ++ leBytes 8 (keyOf r k1) ++ leBytes 4 (k0 / r.nRec) ++
      leBytes 4 g.rowFilled ++ leBytes 2 g.rowSegs.length ++ [if any then 3 else 2] ++ List.replicate 229 0)
    ((s.modIngest (fun g => { g with rowSegs := [], rowFilled := 0, recordsDelivered := g.recordsDelivered + 1 })).bumpIng
      0 6 1).post r.token

/-- The tokens of a record under packing: its X after crop (R298, R300). -/
def Entry.tokens (e : Entry) (u : Use) : Nat := if bit e.aug 0 then min e.cw (nth 0 u.sizes 0) else nth 0 u.sizes 0

/-- Place a record as the next segment of the current row (R300, R301). -/
def Device.placeSegment (s : Device) (r : Recipe) (n : Nat) (u : Use) : Device :=
  let g := s.ingest
  let e := s.entry 0
  let x := e.tokens u
  let base := slotBase r g.recordsDelivered
  let s := (List.range e.c).foldl (fun s c =>
    s.write (base + e.outOff + c * e.pitch + g.rowFilled * e.eb) (sub u.data (c * x * e.eb) (x * e.eb))) s
  let s := (List.range x).foldl (fun s t =>
    (s.writeNat (base + r.marks + 2 * (g.rowFilled + t)) 2 (g.rowSegs.length + 1)).writeNat
      (base + r.positions + 4 * (g.rowFilled + t)) 4 t) s
  let s := s.modIngest (fun g => { g with
    rowSegs := g.rowSegs ++ [(n, u.concealed)], rowFilled := g.rowFilled + x
    delivered := g.delivered ++ [n], uses := g.uses.filter (fun v => v.key != n) })
  if s.ingest.rowFilled = r.rowLen ∨ s.ingest.rowSegs.length = 65535 then s.deliverRow r else s

/-- The lowest key index not yet delivered or resolved, within the keys ingest may hold. -/
def Device.nextKey (s : Device) (r : Recipe) : Nat :=
  ((List.range ((s.ingest.period + 2) * r.nRec + 1)).find? (fun n => !s.ingest.settled n)).getD 0

/-- A period ends (R283, R284): undelivered keys wait for their pending uses, the rest are resolved, and the next period starts
(DEDUCED, assumption 39). -/
def Device.periodEnd (s : Device) : Device :=
  match s.recipe with
  | none => s
  | some r =>
    if !s.ingest.running then s
    else
      let p := s.ingest.period
      let keys := ((List.range r.nRec).map (fun i => p * r.nRec + i)).filter (fun n => !s.ingest.settled n)
      let s := s.modIngest (fun g => { g with
        uses := g.uses.filter (fun u => !(keys.contains u.key && u.stage == 0))
        pendingKeys := g.pendingKeys ++ keys
        period := p + 1
        rate := if g.busyNow = 0 then none else some (g.decodedNow, g.busyNow)
        busyNow := 0, decodedNow := 0 })
      let s := s.resolve r
      let s := if r.packing ∧ !s.ringWaits r ∧ (List.range ((p + 1) * r.nRec)).all s.ingest.settled then s.deliverRow r else s
      s.owe 0

/-- The period ends when every key of its range has been delivered (R283). -/
def Device.periodDone (s : Device) (r : Recipe) : Device :=
  if (List.range r.nRec).all (fun i => s.ingest.delivered.contains (s.ingest.period * r.nRec + i)) then s.periodEnd else s

/-- RECORD_DELIVER (R285): the next record, when it is complete and its slot is released (DEDUCED, assumption 39). -/
def Device.recordDeliver (s : Device) : Device :=
  match s.recipe with
  | none => s
  | some r =>
    let s := s.absorbReleases r
    if s.isHeld .aligner || s.ringWaits r then s
    else
      let n := s.nextKey r
      let ready := (List.range r.entries).all (fun e => s.ingest.complete n e)
      if r.packing then
        let old := match s.ingest.rowSegs.head? with | some k => decide (k.1 / r.nRec ≠ n / r.nRec) | none => false
        match if ready then firstUse s.ingest n 0 else none with
        | none => if old && decide ((s.ingest.rowSegs.headD (0, 0)).1 / r.nRec < s.ingest.period) then s.deliverRow r else s
        | some u =>
          let s := if old || decide (r.rowLen < s.ingest.rowFilled + (s.entry 0).tokens u) then s.deliverRow r else s
          if s.slotFree r s.ingest.recordsDelivered then (s.placeSegment r n u).periodDone r else s
      else if ready then
        let s := ((List.range r.entries).filterMap (firstUse s.ingest n)).foldl (fun s u => s.writeUse r u) s
        let s := s.write (slotBase r n) (s.directory r n)
        let s := s.modIngest (fun g => { g with
          delivered := g.delivered ++ [n], recordsDelivered := g.recordsDelivered + 1
          uses := g.uses.filter (fun u => u.key != n) })
        ((s.bumpIng 0 6 1).post r.token).periodDone r
      else s

def execRecordDeliver (s : State) : Host.Outcome State Fault Refusal := .next (s.onDev (fun d => d.recordDeliver))

/-- PERIOD_END: T_p has passed since the period's start (R283). -/
def execPeriodEnd (s : State) : Host.Outcome State Fault Refusal := .next (s.onDev (fun d => d.periodEnd))

/-! ## INGEST_CREDIT (R302, R303) -/

def Device.creditPayload (s : Device) : List Byte :=
  let g := s.ingest
  match s.recipe with
  | none => List.replicate 4 (0 : Byte) ++ [(3 : Byte)] ++ List.replicate 43 0 ++ List.replicate 8 (0xFF : Byte) ++ List.replicate 8 (0 : Byte)
  | some r =>
    let queued := g.uses.filter (fun u => u.stage == 1 || u.stage == 2)
    let work := (queued.map (fun u => u.sizes.foldl (· * ·) 1)).foldl (· + ·) 0
    let all := match g.rate with
      | some (n, busy) => 32 * r.periodUs * n * 1600 / max 1 busy
      | none => 32 * r.periodUs * 1000
    leBytes 4 g.period ++ [BitVec.ofNat 8 (if g.running then g.creditStatus else 3)] ++ List.replicate 3 0 ++
      leBytes 4 queued.length ++ List.replicate 4 0 ++ leBytes 8 work ++ leBytes 8 (all - work) ++
      leBytes 8 (s.stagingFree r) ++ leBytes 8 (keyOf r (r.nRec * g.period)) ++
      leBytes 8 (g.lastRefused.getD (2 ^ 64 - 1)) ++ leBytes 8 g.recordsDelivered

/-- INGEST_CREDIT: sent on a host pair when one is owed. -/
def Device.ingestCredit (s : Device) (pair : Nat) : Device :=
  if s.ingest.creditDue.contains pair then
    let p := s.creditPayload
    let s := s.modIngest (fun g => { g with creditDue := g.creditDue.filter (· != pair) })
    (s.peersOf (s.roleOf pair)).foldl (fun s x => s.send (flowKey pair 128 x.index) 0x21 false 0 0 0 p) s
  else s

def execIngestCredit (pair : Nat) (s : State) : Host.Outcome State Fault Refusal :=
  .next (s.onDev (fun d => d.ingestCredit pair))

/-- Ingest starts a clean period (R283, R306). -/
def Device.ingestBegin (s : Device) (period key : Nat) : Device :=
  match s.recipe with
  | none => s
  | some _ => ({ s with ingest := { Ingest.reset with running := true, period := period, base := key, creditStatus := 0 } }).owe 0

end Sys2Proof.Machine
end

