-- ==== Sys2Proof/Machine/Reduction.lean ====
section
/-! DEFINITION. Gradient exchange and update: bundles and their places, the reduction sender, rounds and the gauntlet,
gathers and the update engine (R310 to R341). -/

namespace Sys2Proof.Machine

/-! ## The reduction plan (R313 to R316) -/

structure TensorRec where
  id : Nat
  noMaster : Bool
  fp16 : Bool
  initial : Int
  n : Nat
  grad : Nat
  sched : Nat
  bases : List Nat
  lam : Word
  interval : Nat
  ready : Nat
  cleared : Nat
  weights : Nat
  b0 : Nat
  deriving DecidableEq, Repr

def tensorRecOf (t : List Byte) : TensorRec :=
  ⟨fld t 0 2, bit (fld t 2 1) 0, bit (fld t 2 1) 1, sext 8 (fld t 3 1), fld t 4 4, fld t 8 6, fld t 14 2,
   (List.range 4).map (fun i => fld t (16 + 6 * i) 6), BitVec.ofNat 32 (fld t 40 4),
   (if fld t 44 2 = 0 then 1000 else fld t 44 2), fld t 46 2, fld t 48 2, fld t 50 2, fld t 52 4⟩

def TensorRec.bundles (t : TensorRec) : Nat := ceilDiv t.n 2048

def Device.plan (s : Device) : List Byte := s.sec 0x05 255 255 255
def Device.tensorRecs (s : Device) : List TensorRec := s.planTensors.map tensorRecOf
def Device.planNB (s : Device) : Nat := fld s.plan 4 4

/-- The tensor a bundle belongs to, with its index in the plan. -/
def Device.tensorOfBundle (s : Device) (b : Nat) : Option (Nat × TensorRec) :=
  ((List.range s.tensorRecs.length).zip s.tensorRecs).find? (fun e =>
    decide (e.2.b0 ≤ b) && decide (b < e.2.b0 + e.2.bundles))

/-- η of a tensor at a step (R314). -/
def Device.etaOf (s : Device) (t : TensorRec) (step : Nat) : Word :=
  let r := sub s.plan (64 + 256 * t.sched) 256
  let used := (List.range 16).filter (fun k => decide (fld r (16 * k) 6 ≠ 0xFFFFFFFFFFFF) && decide (fld r (16 * k) 6 ≤ step))
  BitVec.ofNat 32 (fld r (16 * (used.getLastD 0) + 8) 4)

def Device.shardOf (s : Device) (b : Nat) : Nat := b % max 1 s.repD
def Device.shardLocal (s : Device) (b : Nat) : Nat := b / max 1 s.repD
def Device.homeOf (s : Device) (b : Nat) : Nat := s.shardLocal b % max 1 s.ringS
def Device.pdieOf (s : Device) (b : Nat) : Nat := s.shardLocal b % 2
/-- The master slot of a bundle (R316). -/
def Device.masterSlot (s : Device) (b : Nat) : Nat :=
  fld s.plan (if s.pdieOf b = 0 then 12 else 18) 6 + s.shardLocal b / 2 * 8192

def Device.isBackup (s : Device) : Bool := bit (fld s.mapping 12 1) 0
/-- A place of this stage has a backup (R347). -/
def Device.hasBackup (s : Device) (i r : Nat) : Bool := bit (fld s.mapping 24 32) (i * s.repD + r)

/-- A flow of a plane's pair toward a peer; side by the P-die of the bundle (R319, R323). -/
def Device.planePair (s : Device) (x : Bool) : Nat := (s.pairOf (if x then 4 else 5)).getD 9
def Device.redFlow (s : Device) (x gather : Bool) (b peer : Nat) : Nat :=
  flowKey (s.planePair x) (256 + (if gather then 64 else 0) + b % 64) peer

/-! ## Chunks (R320, R324) -/

def RoundInput.chunk (i : RoundInput) (k : Nat) : List Int :=
  if bit i.mask k then (i.values.drop (256 * ((List.range k).filter (bit i.mask)).length)).take 256
  else List.replicate 256 0

def sumInts (l : List Int) : Int := l.foldl (· + ·) 0
/-- The sum modulo 2^64 (R324). -/
def checksumOf (l : List Int) : DWord := BitVec.ofNat 64 (wrapInt 64 (sumInts l))

def maskCount (mask : Nat) : Nat := ((List.range 8).filter (bit mask)).length

/-- The reduced or partial bundle of a round's inputs (R321, R324). -/
def combine (inputs : List RoundInput) : RoundInput :=
  let mask := inputs.foldl (fun a i => a ||| i.mask) 0
  ⟨0, false, mask, (inputs.map (·.checksum)).foldl (· + ·) 0, (inputs.map (·.contributors)).foldl (· + ·) 0,
   min 65535 ((inputs.map (·.saturation)).foldl (· + ·) 0),
   ((List.range 8).filter (bit mask)).flatMap (fun k =>
     (inputs.map (fun i => i.chunk k)).foldl (fun a c => (List.zip a c).map (fun e => e.1 + e.2)) (List.replicate 256 0))⟩

/-- The header both payloads share (R320, R321). -/
def Device.chunkHeader (s : Device) (flags mask contributors sat tensor : Nat) : List Byte :=
  leBytes 4 (s.job.step % 2 ^ 32) ++ [BitVec.ofNat 8 flags, BitVec.ofNat 8 mask] ++ leBytes 2 contributors ++ leBytes 2 sat ++
    leBytes 2 tensor ++ List.replicate 4 (0 : Byte)

def Device.tensorId (s : Device) (b : Nat) : Nat := match s.tensorOfBundle b with | some e => e.2.id | none => 0xFFFF

/-- A REDUCE_CHUNK payload (R320). -/
def Device.reducePayload (s : Device) (isPartial : Bool) (b : Nat) (i : RoundInput) : List Byte :=
  s.chunkHeader ((if isPartial then 1 else 0) + (if s.isBackup then 2 else 0)) i.mask i.contributors i.saturation (s.tensorId b) ++
    leBytes 8 i.checksum.toNat ++ i.values.flatMap (fun v => if isPartial then leBytes 3 (wrapInt 24 v) else leBytes 2 (wrapInt 16 v))

/-! ## Sending contributions (R322) -/

/-- Credit granted on each reduction flow while the job runs (DESIGN CHOICE, assumption 12). -/
def reductionGrant : Nat := 0x100000

/-- Grant credit on every reduction flow that does not hold; at shed level 4 none, so that messages wait (R338). -/
def Device.grantReduction (s : Device) (grant : Nat) : Device :=
  let bytes := if 4 ≤ s.power.level then 0 else grant
  (s.peersOf 4 ++ s.peersOf 5).foldl (fun s p =>
    (List.range 128).foldl (fun s c =>
      let k := flowKey ((s.pairOf p.role).getD 9) (256 + c) p.index
      if s.isHeld (.reductionFlow k) then s else s.grantFlow k bytes) s) s

def ownInput (s : Device) (b : Nat) : RoundInput := ⟨s.replica, s.isBackup, 0, 0, 1, 0, []⟩

/-- The contribution read from the gradient buffer: its input, and the elements of 0x8000 it read. -/
def Device.readContribution (s : Device) (t : TensorRec) (b : Nat) : RoundInput × Nat :=
  let raw := (List.range 2048).map (fun e =>
    if 2048 * b + e < t.n then s.readNat (t.grad + 2 * (2048 * b + e)) 2 else 0)
  let mask := ((List.range 8).map (fun k =>
    if ((raw.drop (256 * k)).take 256).any (· != 0) then 2 ^ k else 0)).foldl (· + ·) 0
  let vals := ((List.range 8).filter (bit mask)).flatMap (fun k => (raw.drop (256 * k)).take 256)
  let ints := vals.map (fun x => (grad16 x).1)
  (⟨s.replica, s.isBackup, mask, checksumOf ints, 1, 0, ints⟩, (vals.filter (fun x => (grad16 x).2)).length)

/-- The saturation counts of the four dies are taken for the tensor's first bundle, and cleared. -/
def Device.takeSat (s : Device) (tensor : Nat) : Device × Nat :=
  let n := ((List.range 4).map (fun d => Tab.get 0 (s.die d).satCount tensor)).foldl (· + ·) 0
  ((List.range 4).foldl (fun s d => s.modDie d (fun x => { x with satCount := Tab.set 0 x.satCount tensor 0 })) s, n)

/-- The sender's next bundle of its current tensor, as a local index. -/
def Device.nextSend (s : Device) (p : Nat) (t : TensorRec) : Option Nat :=
  ((List.range (2 * max 1 s.repD)).map (fun i => (s.pdie p).sendBundle + i)).find? (fun b =>
    decide (b < t.bundles) && s.pdieOf (t.b0 + b) == p)

/-- The tensor's bundles of this P-die are sent: the sender goes on, and the last of the two posts the cleared token
(DEDUCED, assumption 41). -/
def Device.endTensor (s : Device) (p : Nat) (t : TensorRec) : Device :=
  let i := (s.pdie p).sendTensor
  let s := s.modPdie p (fun x => { x with sendTensor := i + 1, sendBundle := 0 })
  if i < (s.pdie (1 - p)).sendTensor then s.post t.cleared else s

/-- Tensors without a bundle left for this P-die are passed over. -/
def Device.settleSender (s : Device) (p : Nat) : Nat → Device
  | 0 => s
  | f + 1 =>
    match s.tensorRecs[(s.pdie p).sendTensor]? with
    | none => s
    | some t =>
      if s.reduction.readied.contains (s.pdie p).sendTensor && (s.nextSend p t).isNone then (s.endTensor p t).settleSender p f else s

/-- The ready token of a tensor is met for this step (R322, R382). -/
def Device.takeReady (s : Device) (i : Nat) (t : TensorRec) : Device :=
  if s.reduction.readied.contains i || !s.tokenMet t.ready 0 then s
  else { s.takeToken t.ready with reduction := { s.reduction with readied := s.reduction.readied ++ [i] } }

/-- A step cancelled after its first update runs its updates and gathers to completion (R337). -/
def Device.finishing (s : Device) : Bool := decide (s.job.state = 6) && s.job.discarding && s.job.cancelled

/-- REDUCTION_SEND_BUNDLE (R322, R337, R338) (DEDUCED, assumption 41). -/
def Device.sendBundle (s : Device) (p : Nat) : Device :=
  if !(s.running || s.finishing) || s.isHeld (.reductionSender p) then s
  else
    match s.tensorRecs[(s.pdie p).sendTensor]? with
    | none => s
    | some t =>
      let s := s.takeReady (s.pdie p).sendTensor t
      if !s.reduction.readied.contains (s.pdie p).sendTensor then s
      else
        match s.nextSend p t with
        | none => s.settleSender p 1
        | some b =>
          let bundle := t.b0 + b
          let toOwn := decide (s.shardOf bundle = s.replica) && !s.isBackup
          let k := s.redFlow true false bundle (s.shardOf bundle)
          let (inp, minima) := s.readContribution t b
          let lo := t.grad + 4096 * b
          let n := min 4096 (roundUp (2 * t.n) 512 - 4096 * b)
          if (s.waitsForDie t.grad).isSome || !s.sound lo n then s
          else if !toOwn && !s.hasCredit k (24 + 512 * maskCount inp.mask) then s
          else if !s.backed lo n then
            s.unbacked lo false (dpPdie p 2 0) (ctlMp p) (8 + p) (.reductionSender p)
          else
            let (s, sat) := if b = 0 then s.takeSat t.id else (s, 0)
            let inp := { inp with saturation := min 65535 sat }
            let s := s.zero lo (lo + n)
            let s := (s.bumpRed p 11 sat).bumpRed p 12 minima
            let s := if toOwn then s.modPdie p (fun x => { x with own := x.own ++ [(false, bundle, inp)] })
              else (s.send k 0x32 false 0 (bundle / 64) p (s.reducePayload false bundle inp)).bumpRed p 0 1
            (s.modPdie p (fun x => { x with sendBundle := b + 1 })).settleSender p 1

def execReductionSendBundle (p : Nat) (s : State) : Host.Outcome State Fault Refusal :=
  .next (s.onDev (fun d => d.sendBundle p))

/-! ## Rounds (R325 to R329) -/

def Device.round (s : Device) (p step b : Nat) (ph : Bool) : Option Round :=
  (s.pdie p).rounds.find? (fun r => r.step == step && r.bundle == b && r.partialPhase == ph)

def Device.setRound (s : Device) (p : Nat) (r : Round) : Device :=
  s.modPdie p (fun x => { x with rounds :=
    (x.rounds.filter (fun y => !(y.step == r.step && y.bundle == r.bundle && y.partialPhase == r.partialPhase))) ++ [r] })

/-- The places whose inputs a round combines: replicas in the contribution phase, ring positions in the partial phase. -/
def Device.places (s : Device) (ph : Bool) : List Nat := List.range (if ph then s.ringS else s.repD)

/-- The number of a place of the stage (R347). -/
def Device.placeNumber (s : Device) (ph : Bool) (x b : Nat) : Nat :=
  if ph then x * s.repD + s.shardOf b else s.ringPos * s.repD + x

def Round.primary (r : Round) (x : Nat) : Option RoundInput := r.inputs.find? (fun i => i.place == x && !i.backup)
def Round.backupOf (r : Round) (x : Nat) : Option RoundInput := r.inputs.find? (fun i => i.place == x && i.backup)

/-- What settles an input: the primary's copy, after the close the backup's, or zero after SKIP (R327, R329). -/
def Round.settled (r : Round) (x : Nat) : Bool :=
  (r.primary x).isSome || (r.closed && (r.backupOf x).isSome) || r.skipped.contains x

def Round.used (r : Round) (x : Nat) : Option RoundInput :=
  if r.skipped.contains x then none
  else match r.primary x with
    | some i => some i
    | none => r.backupOf x

/-- A record about a bundle. -/
def Device.bundleRec (s : Device) (code p b tag : Nat) (vals : List (Nat × Nat)) : Rec :=
  ⟨code, Code.severity code, dpPdie p 2 0, ctlMp p, 3, b + 0xFF * 2 ^ 56, tag, vals, 8 + p, 0⟩

/-- The signs of a reduced bundle (R321). -/
def signCode (v : Int) : Nat := if v = 0 then 0 else if 0 < v then 1 else 3

/-- The partial of a completed contribution round goes to its home, or is taken locally (R318). -/
def Device.forwardPartial (s : Device) (p b : Nat) (c : RoundInput) : Device :=
  let h := s.homeOf b
  if h = s.ringPos then s.modPdie p (fun x => { x with own := x.own ++ [(true, b, { c with place := h })] })
  else (s.send (s.redFlow false false b h) 0x32 false 0 (b / 64) p (s.reducePayload true b c)).bumpRed p 0 1

/-- The signs go to every other module of the shard, and to the backups (R318). -/
def Device.sendSigns (s : Device) (p b : Nat) (c : RoundInput) : Device :=
  let pay := s.chunkHeader 0 c.mask c.contributors c.saturation (s.tensorId b) ++
    ((List.range (maskCount c.mask)).flatMap (fun i =>
      leBytes 64 (packBits 2 (((c.values.drop (256 * i)).take 256).map signCode))))
  let peers := ((List.range s.ringS).filter (· != s.ringPos)) ++
    ((List.range s.ringS).filter (fun i => s.hasBackup i s.replica)).map (256 + ·)
  peers.foldl (fun s x => s.send (s.redFlow false true b x) 0x33 false 0 (b / 64) p pay) s

/-- A round whose inputs are all settled completes (R327). -/
def Device.completeRound (s : Device) (p : Nat) (r : Round) : Device :=
  if r.done || !(s.places r.partialPhase).all r.settled || s.isHeld (.round p r.bundle r.partialPhase) then s
  else
    let ins := (s.places r.partialPhase).filterMap r.used
    let c := combine ins
    let own := if r.partialPhase then s.ringPos else s.replica
    let remote := (ins.filter (fun i => i.backup || i.place != own)).length
    let taken := ((s.places r.partialPhase).filter (fun x => match r.used x with | some i => i.backup | none => false))
    let s := s.setRound p { r with done := true }
    let s := ((s.bumpRed p 2 1).bumpRed p 5 taken.length).bumpRed p 1 remote
    if r.partialPhase then
      let s := s.modPdie p (fun x => { x with ready := x.ready ++
        [⟨r.bundle, c.mask, c.contributors, c.saturation, c.values.map Int.sign⟩] })
      s.sendSigns p r.bundle c
    else s.forwardPartial p r.bundle c

/-- An input that passed the gauntlet joins its round (R327, R328). -/
def Device.joinRound (s : Device) (p step b : Nat) (ph : Bool) (inp : RoundInput) : Device :=
  let r := (s.round p step b ph).getD ⟨step, b, ph, [], [], false, false, false⟩
  let other := if inp.backup then r.primary inp.place else r.backupOf inp.place
  let differs := match other with | some o => o.checksum != inp.checksum | none => false
  let s := if other.isSome || r.skipped.contains inp.place then s.bumpRed p 6 1 else s
  let s := s.setRound p (if r.skipped.contains inp.place then r else { r with inputs := r.inputs ++ [inp] })
  let s := if inp.backup && r.closed && !r.done && other.isNone && !r.skipped.contains inp.place then
      s.log1 (s.bundleRec Code.redBackupTaken p b 0 [(1, s.placeNumber ph inp.place b), (4, b), (2, s.tensorId b)]) else s
  if differs then
    let s := s.bumpRed p 4 1
    let rec0 := s.bundleRec Code.redChecksumMismatch p b 18 [(1, if ph then 1 else 0), (2, inp.place), (4, b), (2, s.tensorId b),
      (4, ((other.map (·.checksum.toNat)).getD 0) % 2 ^ 32), (4, inp.checksum.toNat % 2 ^ 32)]
    if r.done then s.log1 { rec0 with severity := 0 } else s.hold rec0 (.round p b ph)
  else
    match s.round p step b ph with
    | some r => s.completeRound p r
    | none => s

/-- The gauntlet on one input (R325): the sum of the present elements against the checksum. -/
def Device.gauntlet (s : Device) (p step b : Nat) (ph : Bool) (peer : Nat) (inp : RoundInput) : Device × Bool :=
  let s := s.bumpRed p 3 1
  if checksumOf inp.values = inp.checksum then (s.joinRound p step b ph inp, true)
  else
    ((s.bumpRed p 4 1).hold (s.bundleRec Code.redChecksumMismatch p b 0
      [(1, if ph then 1 else 0), (2, peer), (4, b), (2, s.tensorId b), (4, inp.checksum.toNat % 2 ^ 32),
       (4, (checksumOf inp.values).toNat % 2 ^ 32)]) (.round p b ph), false)

/-! ### Order on a flow (R319, R330) -/

/-- What a flow carries: contributions, partials, signs or weights. -/
inductive Phase where
  | contribution | part | signs | weights
  deriving DecidableEq, Repr

/-- The bundle comes from this peer to this module in this phase (R318, R326). -/
def Device.owes (s : Device) (ph : Phase) (peer b : Nat) : Bool :=
  match ph with
  | .contribution => !s.isBackup && decide (s.shardOf b = s.replica) &&
      (if peer < 256 then decide (peer < s.repD) && peer != s.replica else s.hasBackup s.ringPos (peer - 256))
  | .part => !s.isBackup && decide (s.shardOf b = s.replica) && decide (s.homeOf b = s.ringPos) && decide (peer < s.ringS) &&
      peer != s.ringPos
  | .signs => decide (s.shardOf b = s.replica) && decide (s.homeOf b = peer) && (s.isBackup || peer != s.ringPos)
  | .weights => decide (s.shardOf b = peer) && decide (peer < s.repD) && peer != s.replica

/-- The lowest bundle from `b` on that the peer owes on the channel. -/
def Device.dueFrom (s : Device) (ph : Phase) (peer chan : Nat) : Nat → Nat → Option Nat
  | 0, _ => none
  | f + 1, b =>
    if s.planNB ≤ b then none
    else if b % 64 = chan ∧ s.owes ph peer b then some b
    else s.dueFrom ph peer chan f (b + 1)

/-- The step and bundle due on a flow. -/
def Device.dueOnFlow (s : Device) (ph : Phase) (k : Nat) : Option (Nat × Nat) :=
  let e := Tab.get 0 s.reduction.expect k
  let step := max s.job.step (e / 2 ^ 32)
  let b0 := if e / 2 ^ 32 = step then e % 2 ^ 32 else 0
  let fuel := 64 * max 1 s.repD * max 1 s.ringS + 64
  match s.dueFrom ph (keyPeer k) (keyFlow k % 64) fuel b0 with
  | some b => some (step, b)
  | none => (s.dueFrom ph (keyPeer k) (keyFlow k % 64) fuel 0).map (fun b => (step + 1, b))

def Device.noteFlow (s : Device) (k step b : Nat) : Device :=
  { s with reduction := { s.reduction with expect := Tab.set 0 s.reduction.expect k (step * 2 ^ 32 + b + 1) } }

/-- A message differs from the one due (R330). -/
def Device.redUnexpected (s : Device) (ph : Phase) (k b : Nat) (port : Nat) : Device :=
  let due := ((s.dueOnFlow ph k).map (·.2)).getD 0xFFFFFFFF
  let code := if s.owes ph (keyPeer k) b then Code.redOrderViolation else Code.updShardMismatch
  let r : Rec := ⟨code, 1, dpPort port (keyFlow k), s.ctlPort port, 3, b + 0xFF * 2 ^ 56, 0,
    [(2, keyFlow k), (2, keyPeer k), (4, b), (4, due)], s.portDomain port, 0⟩
  (s.hold r (.reductionFlow k)).grantFlow k 0

/-- The common checks of a reduction message: accepted, repeated or unexpected; `true` when it is the one due. -/
def Device.redOrder (s : Device) (ph : Phase) (k : Nat) (m : Msg) (ok : Bool) : Option Nat × Device × Bool :=
  let b := m.sub.toNat * 64 + keyFlow k % 64
  let e := Tab.get 0 s.reduction.expect k
  let mine := ok && decide (fld m.payload 10 2 = s.tensorId b) && zeros m.payload 12 4
  match s.dueOnFlow ph k with
  | some (step, due) =>
    if mine && decide (due = b) && decide (fld m.payload 0 4 = step % 2 ^ 32) then (some step, s, true)
    else if mine && s.owes ph (keyPeer k) b && decide (fld m.payload 0 4 = s.job.step % 2 ^ 32) &&
        decide (s.job.step * 2 ^ 32 + b < e) then
      (none, s.bumpRed (s.pdieOf b) 8 1, true)
    else (none, s.redUnexpected ph k b m.port, false)
  | none => (none, s.redUnexpected ph k b m.port, false)

/-- A reduction or gather message of a step that is being cancelled is passed over (R337). -/
def Device.redDiscard (s : Device) (m : Msg) : Bool :=
  s.job.discarding && !s.job.cancelled && decide (fld m.payload 0 4 = s.job.step % 2 ^ 32)

/-- REDUCE_CHUNK as it is delivered (R325, R330). -/
def Device.onReduce (s : Device) (k : Nat) (m : Msg) : Device × Bool :=
  let b := m.sub.toNat * 64 + keyFlow k % 64
  let c := m.payload
  let isPart := bit (fld c 4 1) 0
  let ph : Phase := if s.planePair true = keyPair k then .contribution else .part
  let w := if isPart then 3 else 2
  let n := 256 * maskCount (fld c 5 1)
  let peer := keyPeer k
  let ok := decide (keyFlow k < 320) && decide (c.length = 24 + w * n) && decide (fbits c 4 1 7 2 = 0) &&
    decide (isPart = (ph == .part)) && decide (bit (fld c 4 1) 1 = decide (256 ≤ peer))
  if s.redDiscard m then (s, true)
  else if s.isHeld (.reductionFlow k) then (s, false)
  else
    match s.redOrder ph k m ok with
    | (none, s, r) => (s, r)
    | (some step, s, _) =>
      let inp : RoundInput := ⟨peer % 256, decide (256 ≤ peer), fld c 5 1, BitVec.ofNat 64 (fld c 16 8), fld c 6 2, fld c 8 2,
        (List.range n).map (fun i => sext (8 * w) (fld c (24 + w * i) w))⟩
      let (s, ok) := s.gauntlet (s.pdieOf b) step b isPart peer inp
      (if ok then s.noteFlow k step b else s, ok)

/-- The P-die's own input (R325). -/
def Device.ownReduce (s : Device) (p b : Nat) (ph : Bool) : Device :=
  match (s.pdie p).own.find? (fun o => o.1 == ph && o.2.1 == b) with
  | none => s
  | some o =>
    (((s.modPdie p (fun x => { x with own := x.own.erase o })).gauntlet p s.job.step b ph
      (if ph then s.ringPos else s.replica) o.2.2).1)

/-- ROUND_WINDOW_CLOSE (R327). -/
def Device.windowClose (s : Device) (p b : Nat) (ph : Bool) : Device :=
  match s.round p s.job.step b ph with
  | none => s
  | some r =>
    if r.closed || r.done || r.inputs.isEmpty then s
    else
      let absent := (s.places ph).filter (fun x => (r.primary x).isNone)
      let taken := absent.filter (fun x => (r.backupOf x).isSome)
      let missing := absent.filter (fun x => (r.backupOf x).isNone)
      let s := s.setRound p { r with closed := true }
      let s := taken.foldl (fun s x =>
        s.log1 (s.bundleRec Code.redBackupTaken p b 0 [(1, s.placeNumber ph x b), (4, b), (2, s.tensorId b)])) s
      if missing.isEmpty then s.completeRound p { r with closed := true }
      else if s.isHeld (.round p b ph) then s
      else s.hold (s.bundleRec Code.redContributionMissing p b 0 (missing.map (fun x => (1, s.placeNumber ph x b)))) (.round p b ph)

def execRoundWindowClose (p bundle : Nat) (partialPhase : Bool) (s : State) : Host.Outcome State Fault Refusal :=
  .next (s.onDev (fun d => d.windowClose p bundle partialPhase))

/-- A decided round: SKIP counts the missing places as zero (R329); then it completes if it can. -/
def Device.resumeRound (s : Device) (p b : Nat) (ph skip : Bool) : Device :=
  match s.round p s.job.step b ph with
  | none => s
  | some r =>
    let missing := if skip then (s.places ph).filter (fun x => !r.settled x) else []
    let r := { r with skipped := r.skipped ++ missing, waitOk := true }
    ((s.setRound p r).bumpRed p 7 missing.length).completeRound p r

/-! ## The end of a tensor (R312, R334, R341) -/

/-- The policy of R312: exponent and clean count after a step. -/
def scalePolicy (sat interval : Nat) (e : Int) (clean : Nat) : Int × Nat :=
  if 0 < sat then (max (e - 1) (-128), 0)
  else if clean + 1 = interval then (min (e + 1) 127, 0) else (e, clean + 1)

/-- A record written once per module and step: the first is a new entry, a further one raises that entry's count whichever P-die
it comes from. -/
def Device.logOnce (s : Device) (first : Bool) (r : Rec) : Device :=
  if first then s.log1 r
  else
    match (s.log.entries.filter (fun e => e.code == r.code)).getLast? with
    | some e => s.log1 { r with dp := e.dataPath.toNat, key := 1 }
    | none => s.log1 r

/-- RED_SATURATION, once per module per step (R341). -/
def Device.reportSat (s : Device) (p id : Nat) : Device :=
  let r : Rec := { Rec.plain Code.redSaturation (dpPdie p 3 0) (ctlMp p) (8 + p) with vals := [(2, id)] }
  { s.logOnce (!s.reduction.satReported) r with reduction := { s.reduction with satReported := true } }

/-- When every bundle of the tensor is updated or received, e and clean are set and the weights token is posted (R334)
(DEDUCED, assumption 43). -/
def Device.bundleDone (s : Device) (p b sat : Nat) : Device :=
  match s.tensorOfBundle b with
  | none => s
  | some (i, t) =>
    let s := { s with reduction := { s.reduction with
      bundlesDone := s.reduction.bundlesDone ++ [b]
      tensorSat := if b = t.b0 then Tab.set 0 s.reduction.tensorSat i sat else s.reduction.tensorSat } }
    if (List.range t.bundles).all (fun j => s.reduction.bundlesDone.contains (t.b0 + j)) && !s.reduction.tensorsDone.contains i then
      let n := Tab.get 0 s.reduction.tensorSat i
      let pol := scalePolicy n t.interval (s.expo 0 t.id) (Tab.get 0 (s.die 0).clean t.id)
      let s := (List.range 4).foldl (fun s d => s.modDie d (fun x => { x with
        expo := Tab.set 0 x.expo t.id pol.1, clean := Tab.set 0 x.clean t.id pol.2 })) s
      let s := { s with reduction := { s.reduction with tensorsDone := s.reduction.tensorsDone ++ [i] } }
      (if 0 < n then s.reportSat p t.id else s).post t.weights
    else s

/-! ## The update engine (R331 to R333, R335) -/

/-- One weight's update: t and w2. -/
def updateWeight (lam eta w : Word) (g : Int) : Word × Word :=
  let sg : Word := if 0 < g then 0x3F800000 else if g < 0 then 0xBF800000 else 0
  let t := fFma lam w sg
  (t, fFma (eta ^^^ 0x80000000) t w)

def TensorRec.fmt (t : TensorRec) : Nat := if t.fp16 then 2 else 1

/-- The lowest nonzero working base. -/
def TensorRec.lowBase (t : TensorRec) : Nat := ((t.bases.filter (· != 0)).foldl (fun a b => if a = 0 then b else min a b) 0)

/-- The updated elements of a bundle: element, t, w2 and the working encoding. -/
def Device.updateElems (s : Device) (t : TensorRec) (x : SignedBundle) (w : Nat → Word) : List (Nat × Word × Word × Nat) :=
  let eta := s.etaOf t s.job.step
  let b := x.bundle - t.b0
  (((List.range 8).filter (bit x.mask)).flatMap (fun k => (List.range 256).map (fun i => 256 * k + i))).zip x.signs
    |>.filterMap (fun e =>
      let el := 2048 * b + e.1
      if el < t.n then
        let r := updateWeight t.lam eta (w e.1) e.2
        let u := if t.noMaster then roundBits s.job.keyRound s.job.step t.id el else 0
        some (e.1, r.1, r.2, (convertBare t.fmt (if t.noMaster then 2 else 0) u r.2).enc)
      else none)

/-- The weight an engine reads at an element of a bundle (R331). -/
def Device.weightAt (s : Device) (t : TensorRec) (b e : Nat) : Word :=
  if t.noMaster then
    enc32 (valueOf t.fmt (s.readNat (t.lowBase + 2 * (2048 * (b - t.b0) + e)) 2) 0 0)
  else BitVec.ofNat 32 (s.readNat (s.masterSlot b + 4 * e) 4)

/-- Write a working element to every base of the module (R332). -/
def Device.writeWorking (s : Device) (t : TensorRec) (b e enc : Nat) : Device :=
  (t.bases.filter (· != 0)).foldl (fun s a => s.writeNat (a + 2 * (2048 * (b - t.b0) + e)) 2 enc) s

/-- UPD_NONFINITE, once per module per step (R335). -/
def Device.reportNonfinite (s : Device) (p id el : Nat) : Device :=
  if s.reduction.nonfinite.contains id then s
  else
    let r : Rec := { Rec.plain Code.updNonfinite (dpPdie p 3 0) (ctlMp p) (8 + p) with
      vals := [(2, id), (4, el)] }
    { s.logOnce s.reduction.nonfinite.isEmpty r with reduction := { s.reduction with nonfinite := s.reduction.nonfinite ++ [id] } }

/-- The weights of an updated bundle go to the other replicas and the backups of their places (R318). -/
def Device.sendWeights (s : Device) (p b : Nat) (t : TensorRec) (mask contributors sat : Nat) : Device :=
  if s.isBackup then s
  else
    let a := t.lowBase + 2 * (2048 * (b - t.b0))
    let pay := s.chunkHeader 1 mask contributors sat t.id ++
      ((List.range 8).filter (bit mask)).flatMap (fun k => s.read (a + 512 * k) 512)
    let others := (List.range s.repD).filter (· != s.replica)
    (others ++ (others.filter (fun r => s.hasBackup s.ringPos r)).map (256 + ·)).foldl (fun s x =>
      s.send (s.redFlow true true b x) 0x33 false 0 (b / 64) p pay) s

/-- A working base lies in a die that is parked, so the write waits (R54, R338). -/
def Device.workingWaits (s : Device) (t : TensorRec) : Bool :=
  (t.bases.filter (· != 0)).any (fun a => (s.waitsForDie a).isSome)

/-- A checkpoint has not yet copied the bundle's slot (R373). -/
def Device.copyPending (s : Device) (p b : Nat) : Bool :=
  s.ops.any (fun o => o.handle / 2 ^ 24 == 2 && o.step == s.job.step && o.state ≤ 2) && !s.job.thermosAsked &&
    decide ((s.pdie p).copyNext ≤ s.shardLocal b / 2 + 2)

/-- The present chunks of a bundle in an array of `eb`-byte elements that starts at `a`: address and length. -/
def SignedBundle.chunks (x : SignedBundle) (a eb : Nat) : List (Nat × Nat) :=
  ((List.range 8).filter (bit x.mask)).map (fun k => (a + 256 * eb * k, 256 * eb))

/-- What an engine reads for a bundle: its masters, or its working copy at the lowest base (R331). -/
def Device.updateReads (s : Device) (t : TensorRec) (x : SignedBundle) : List (Nat × Nat) :=
  if t.noMaster then x.chunks (t.lowBase + 4096 * (x.bundle - t.b0)) 2 else x.chunks (s.masterSlot x.bundle) 4

/-- UPDATE_BUNDLE: the next bundle whose signs are known (DEDUCED, assumption 43); data that cannot be read, or is not, is
waited for (R51). -/
def Device.updateBundle (s : Device) (p : Nat) : Device :=
  match (s.pdie p).ready with
  | [] => s
  | x :: rest =>
    match s.tensorOfBundle x.bundle with
    | none => s
    | some (_, t) =>
      if s.isHeld (.update p) || decide (4 ≤ s.power.level) || s.workingWaits t || s.copyPending p x.bundle ||
          (s.updateReads t x).any (fun r => !s.sound r.1 r.2) then s
      else
      match (t.bases.filter (· != 0)).find? (fun a => !s.backed (a + 4096 * (x.bundle - t.b0)) 2) with
      | some a => s.unbacked (a + 4096 * (x.bundle - t.b0)) false (dpPdie p 3 0) (ctlMp p) (8 + p) (.update p)
      | none =>
        let es := s.updateElems t x (s.weightAt t x.bundle)
        let s := s.modPdie p (fun y => { y with ready := rest, updated := y.updated + 1 })
        let s := es.foldl (fun s e =>
          let s := if t.noMaster then s else s.writeNat (s.masterSlot x.bundle + 4 * e.1) 4 e.2.2.1.toNat
          s.writeWorking t x.bundle e.1 e.2.2.2) s
        let bad := es.find? (fun e => isNonfinite32 e.2.1 || isNonfinite32 e.2.2.1)
        let s := match bad with
          | some e => s.reportNonfinite p t.id (2048 * (x.bundle - t.b0) + e.1)
          | none => s
        let s := { s with job := { s.job with updatedAny := true } }
        let s := (s.bumpRed p 9 (maskCount x.mask)).bumpRed p 10 (8 - maskCount x.mask)
        (s.sendWeights p x.bundle t x.mask x.contributors x.saturation).bundleDone p x.bundle x.saturation

def execUpdateBundle (p : Nat) (s : State) : Host.Outcome State Fault Refusal :=
  .next (s.onDev (fun d => d.updateBundle p))

/-! ## Gathers (R321, R331, R332) -/

/-- The sign codes of a signs payload; `none` when one is the reserved code. -/
def signsOf (c : List Byte) : Option (List Int) :=
  let n := maskCount (fld c 5 1)
  let codes := (List.range (256 * n)).map (fun i => fbits c (16 + i / 4) 1 (2 * (i % 4) + 1) (2 * (i % 4)))
  if codes.contains 2 then none else some (codes.map (fun x => if x = 0 then 0 else if x = 1 then 1 else -1))

/-- While a start has not read its thermos the step of a weights message cannot be judged, and the message waits (R376). -/
def Device.restoreUnread (s : Device) : Bool :=
  decide (s.job.state = 5) && decide ((s.pdie 0).restoreNext = 0) && decide ((s.pdie 1).restoreNext = 0)

/-- GATHER_CHUNK as it is delivered. -/
def Device.onGather (s : Device) (k : Nat) (m : Msg) : Device × Bool :=
  let b := m.sub.toNat * 64 + keyFlow k % 64
  let c := m.payload
  let ph : Phase := if s.planePair true = keyPair k then .weights else .signs
  let n := maskCount (fld c 5 1)
  let signs := signsOf c
  let ok := decide (320 ≤ keyFlow k) && decide (fbits c 4 1 7 1 = 0) && decide (bit (fld c 4 1) 0 = (ph == .weights)) &&
    decide (c.length = 16 + (if ph = .weights then 512 else 64) * n) && (ph == .weights || signs.isSome)
  if s.redDiscard m then (s, true)
  else if s.isHeld (.reductionFlow k) || s.restoreUnread then (s, false)
  else
    match s.redOrder ph k m ok with
    | (none, s, r) => (s, r)
    | (some step, s, _) =>
      let p := s.pdieOf b
      if step ≠ s.job.step then (s, false)
      else if ph = .signs then
        ((s.modPdie p (fun x => { x with ready := x.ready ++
          [⟨b, fld c 5 1, fld c 6 2, fld c 8 2, signs.getD []⟩] })).noteFlow k step b, true)
      else
        match s.tensorOfBundle b with
        | none => (s, true)
        | some (_, t) =>
          if s.workingWaits t then (s, false)
          else
            let es := ((List.range 8).filter (bit (fld c 5 1))).flatMap (fun q => (List.range 256).map (fun i => 256 * q + i))
            let s := (es.zip (List.range es.length)).foldl (fun s e =>
              if 2048 * (b - t.b0) + e.1 < t.n then s.writeWorking t b e.1 (fld c (16 + 2 * e.2) 2) else s) s
            let s := s.noteFlow k step b
            (if s.job.state = 5 then { s with reduction := { s.reduction with bundlesDone := s.reduction.bundlesDone ++ [b] } }
             else s.bundleDone p b (fld c 8 2), true)

end Sys2Proof.Machine
end

