-- ==== Sys2Proof/Machine/Check.lean ====
section
/-! DEFINITION. The admission checks of loop tables, windows, vector programs and passes, field and move descriptors
(R143 to R145, R171 to R173, R193, R199, R45, R515). -/

namespace Sys2Proof.Machine

/-! ## Refusal records and ranges -/

/-- A refusal record: severity failed, written by the primary. -/
def Device.refusal (s : Device) (code dp tag : Nat) (vals : List (Nat × Nat)) : Rec :=
  ⟨code, 2, dp, ctlMp s.primary, 0, 0, tag, vals, 10 + s.primary, 0⟩

def sat32 (x : Nat) : Nat := min x 0xFFFFFFFE
def noVal : Nat := 0xFFFFFFFF

/-- What a failed check names: its code, the operand and the level record, and the two values of R145. -/
structure Finding where
  code : Nat
  operand : Nat
  level : Nat
  value : Nat
  limit : Nat
  deriving DecidableEq, Repr

def bad (code : Nat) : Finding := ⟨code, 0xFF, 0xFF, noVal, noVal⟩
def badAt (code operand level : Nat) : Finding := ⟨code, operand, level, noVal, noVal⟩
def over' (code operand level value limit : Nat) : Finding := ⟨code, operand, level, sat32 value, sat32 limit⟩

/-- A record that names a table or record as R145 does; a number beyond the position's 16 bits keeps its low bits. -/
def Device.refRefusal (s : Device) (d q number : Nat) (f : Finding) : Rec :=
  { s.refusal f.code (dpQuad d q 0) 0 [(1, f.operand), (4, f.value), (4, f.limit)] with
    posKind := 4, pos := number % 65536 + f.level * 2 ^ 16 }

/-- The first finding whose condition holds. -/
def firstBad : List (Bool × Finding) → Option Finding
  | [] => none
  | (b, f) :: t => if b then some f else firstBad t

/-- A byte range: first byte and length; ranges below address 0 are kept apart by `neg`. -/
structure Range where
  lo : Nat
  len : Nat
  neg : Bool
  deriving DecidableEq, Repr

/-- From a base, the bytes from `r.1` up to `r.2`. -/
def rangeAt (base : Nat) (r : Int × Int) : Range :=
  ⟨addInt base r.1, (r.2 - r.1).toNat, decide ((base : Int) + r.1 < 0)⟩

/-- The range lies wholly inside one backed region; a written one not in an input bank or accumulators (R515). -/
def Device.rangeOk (s : Device) (write : Bool) (r : Range) : Bool :=
  !r.neg && (match s.rangeRegion r.lo r.len with
    | some x => !write || decide (x.kind ≤ 2)
    | none => false)

def rangesMeet (a b : Range) : Bool := overlap a.lo a.len b.lo b.len

/-! ## Loop tables (R143) -/

def LoopTable.windowed (s : Device) (d i : Nat) : Bool := (s.window d i).isSome

/-- Raw level records of a table. -/
def levelBytes (t : List Byte) (l : Nat) : List Byte := sub t (64 + 32 * l) 32

/-- The reserved fields of level record `l` (R124, R125). -/
def levelReserved (t : List Byte) (l : Nat) : Bool :=
  let b := levelBytes t l
  if fld b 5 1 = 0xFF then zeros b 0 5 && zeros b 6 26
  else decide (fbits b 4 1 7 2 = 0) && !bit (fld b 6 1) 6 && decide (fbits b 7 1 7 1 = 0) && zeros b 28 4

/-- Records in use. -/
def usedRecords (t : List Byte) : List Nat := (List.range 6).filter (fun l => decide (fld (levelBytes t l) 5 1 ≠ 0xFF))

/-- Step 1 of R143. -/
def tableStep1 (b : List Byte) (i : Nat) (windowed : Bool) : Option Finding :=
  let t := tableOf b
  let e (op l : Nat) : Finding := badAt Code.loopTableMalformed op l
  let orders := (usedRecords b).map (fun l => fld (levelBytes b l) 5 1)
  firstBad (
    [(decide (fld b 2 1 ≠ 1) || decide (fbits b 0 2 15 12 ≠ 0) || decide (fbits b 3 1 7 5 ≠ 0) || decide (fbits b 7 1 7 6 ≠ 0),
        e 0xFF 0xFF)] ++
    ((List.range 6).map (fun l => (!levelReserved b l, e 0xFF l))) ++
    [(decide (t.reuseA ≠ 0 ∧ t.reuseA ≠ 2), e 0 0xFF), (decide (t.reuseB ≠ 1 ∧ t.reuseB ≠ 2), e 1 0xFF),
     (if t.cPresent then decide (t.reuseC ≠ 1 ∧ t.reuseC ≠ 2)
      else decide (t.reuseC ≠ 0) || decide (t.baseC ≠ 0) || t.levels.any (fun l => l.sC != 0), e 2 0xFF),
     (if t.form = 2 then decide (2047 < t.entry) else decide (t.entry ≠ 0xFFFF), e 0xFF 0xFF),
     (!(List.range orders.length).all orders.contains, e 0xFF 0xFF),
     (decide (1 < (t.levels.filter (·.member)).length), e 0xFF (((t.levels.filter (·.member)).map (·.record)).getLastD 0xFF)),
     (t.levels.any (fun l => l.member && l.kind == 2),
        e 0xFF (((t.levels.find? (fun l => l.member && l.kind == 2)).map (·.record)).getD 0xFF)),
     (decide (t.number ≠ i), e 0xFF 0xFF),
     (decide (t.baseA % 64 ≠ 0), e 0 0xFF), (decide (t.baseB % 64 ≠ 0), e 1 0xFF), (decide (t.baseC % 64 ≠ 0), e 2 0xFF),
     (decide (t.baseO % 64 ≠ 0), e 3 0xFF),
     (!windowed && decide (t.pitchA = 0), e 0 0xFF), (decide (t.pitchB = 0), e 1 0xFF), (decide (t.pitchO = 0), e 3 0xFF),
     (!fmtMX t.fmtA && decide (t.scaleA ≠ 0), e 0 0xFF), (!fmtMX t.fmtB && decide (t.scaleB ≠ 0), e 1 0xFF)])

/-- Step 2 of R143. -/
def tableStep2 (t : LoopTable) : Option Finding :=
  let e (op : Nat) := badAt Code.arrFormatPairInvalid op 0xFF
  firstBad [(decide (t.rounding = 3), e 0xFF), (decide (fmtGroup t.fmtA = 0), e 0), (decide (fmtGroup t.fmtB = 0), e 1),
    (decide (0xD < t.fmtO), e 3), (decide (fmtGroup t.fmtA ≠ fmtGroup t.fmtB), e 0xFF)]

/-- Step 3 of R143: R140. An epilogue may name Triple-BF16, which R57 gives no array output: R140 leaves an epilogue's format
to the checks of the vector program, no check there refuses it, and OUT then writes the lane's 32 bits as for FP32
(DESIGN CHOICE, assumption 44). -/
def tableStep3 (t : LoopTable) : Option Finding :=
  let isInt := decide (fmtGroup t.fmtA = 5)
  let ok := match t.form with
    | 0 => decide (t.fmtO = if isInt then 0xD else 0)
    | 1 => !isInt && decide (1 ≤ t.fmtO ∧ t.fmtO ≤ 0xA)
    | 2 => true
    | _ => !isInt && decide (t.fmtO = 0xC)
  if ok then none else some (badAt Code.loopTableMalformed 3 0xFF)

/-- The element steps of the levels of a kind, innermost first (R126): the first that breaks the rule, with the step it
should have. -/
def stepsBad : List Level → Nat → Option (Level × Nat)
  | [], _ => none
  | l :: t, want => if l.step ≠ want then some (l, want) else stepsBad t (l.step * l.bound)

/-- Microscaling rules of an operand (R133, R135). -/
def mxBad (t : LoopTable) (fmt op pitch : Nat) (stride : Level → Int) : List (Bool × Finding) :=
  let bb := mxBlockBytes fmt
  let c := Code.loopBoundInvalid
  if fmtMX fmt then
    [(decide (t.red % 32 ≠ 0), over' c op 0xFF t.red 32), (decide (64 * pitch % bb ≠ 0), over' c op 0xFF (64 * pitch) bb)] ++
      t.levels.map (fun l => (decide (stride l % bb ≠ 0), over' c op l.record (wrapInt 32 (stride l)) bb))
  else []

def popcount (mask : Nat) : Nat := (maskMembers mask).length

/-- Step 4 of R143. -/
def tableStep4 (t : LoopTable) : Option Finding :=
  let c := Code.loopBoundInvalid
  let held := weightBytes t.fmtB t.red t.cols
  let heldCap := if 2 ≤ t.shape then 32768 else 65536
  let regs (k : Nat) := ((t.levels.filter (fun l => l.kind == k && l.regOn)).map (·.reg)).eraseDups
  let bbO := mxBlockBytes t.fmtO
  firstBad (
    [(decide (t.rows = 0 ∨ shapeRows t.shape < t.rows), over' c 0 0xFF t.rows (shapeRows t.shape)),
     (decide (t.cols = 0 ∨ shapeCols t.shape < t.cols), over' c 1 0xFF t.cols (shapeCols t.shape)),
     (decide (t.red = 0 ∨ 32768 < t.red), over' c 0xFF 0xFF t.red 32768)] ++
    t.levels.map (fun l => (decide (l.bound = 0 ∨ 16777216 < l.bound), over' c 0xFF l.record l.bound 16777216)) ++
    [0, 1, 2].map (fun k => match stepsBad ((t.levels.filter (fun l => l.kind == k)).reverse) (t.tile k) with
      | some (l, want) => (true, over' c 0xFF l.record l.step want)
      | none => (false, bad c)) ++
    [0, 1, 2].map (fun k => (decide (2 ^ 32 ≤ t.coverage k), over' c 0xFF 0xFF (t.coverage k) (2 ^ 32 - 1))) ++
    [(decide (t.frames.2.2 < 2), over' c 0 0xFF t.frames.2.2 2),
     (t.replay && decide (heldCap < held), over' c 1 0xFF held heldCap)] ++
    mxBad t t.fmtA 0 t.pitchA (·.sA) ++ mxBad t t.fmtB 1 t.pitchB (·.sB) ++
    (t.levels.filter (·.member)).map (fun l =>
      (decide (l.bound ≠ popcount t.mask), over' c 0xFF l.record l.bound (popcount t.mask))) ++
    [0, 1, 2].map (fun k => (decide (1 < (regs k).length), over' c 0xFF 0xFF (regs k).length 1)) ++
    (if fmtMX t.fmtO then
      [(decide (t.cols % 32 ≠ 0), over' c 3 0xFF t.cols 32), (decide (64 * t.pitchO % bbO ≠ 0), over' c 3 0xFF (64 * t.pitchO) bbO)] ++
      t.levels.map (fun l => (l.kind == 3 && decide (l.step % 32 ≠ 0), over' c 3 l.record l.step 32)) ++
      t.levels.map (fun l => (decide (l.sO < 0 ∨ l.sO % (bbO : Int) ≠ 0), over' c 3 l.record (wrapInt 32 l.sO) bbO)) ++
      t.levels.map (fun l => (t.cPresent && decide (l.sC < 0 ∨ l.sC % (bbO : Int) ≠ 0), over' c 2 l.record (wrapInt 32 l.sC) bbO))
    else []))

/-- Step 5 of R143, for a quadrant. -/
def Device.tableStep5 (s : Device) (d q : Nat) (t : LoopTable) : Option Finding :=
  let c := Code.loopMulticastMaskInvalid
  firstBad [(decide (t.mask = 0), bad c),
    (decide (1 < popcount t.mask) && !t.levels.any (·.member), bad c),
    ((t.aLocal || t.bLocal) && (maskMembers t.mask).any (fun m => s.clusterOut (gOf d q m)),
      badAt c (if t.aLocal then 0 else 1) 0xFF)]

/-- Steps 6 and 7 of R143. -/
def tableStep67 (t : LoopTable) : Option Finding :=
  let c := Code.loopSlotsExceeded
  let cap := if 2 ≤ t.shape then 4 else 8
  let h := t.shape - 2
  firstBad [(decide (cap < t.liveCount), over' c 0xFF 0xFF t.liveCount cap), (decide (cap < t.declared), over' c 0xFF 0xFF t.declared cap),
    (decide (t.slotCount < t.liveCount), over' c 0xFF 0xFF t.slotCount t.liveCount),
    (decide (8 < t.slotBase + t.slotCount), over' c 0xFF 0xFF (t.slotBase + t.slotCount) 8),
    (decide (2 ≤ t.shape) && (decide (t.slotBase < 4 * h) || decide (4 * h + 4 < t.slotBase + t.slotCount)),
      over' c 0xFF 0xFF (if t.slotBase < 4 * h then t.slotBase else t.slotBase + t.slotCount) (if t.slotBase < 4 * h then 4 * h else 4 * h + 4)),
    (decide (t.declared ≠ t.liveCount), over' Code.loopBoundInvalid 0xFF 0xFF t.declared t.liveCount)]

/-- The ranges of A or B, elements and scale array, from its base (R134, R135, R143 step 8). -/
def LoopTable.inRanges (t : LoopTable) (isB : Bool) : List (Int × Int) :=
  let fmt := if isB then t.fmtB else t.fmtA
  let r := rangeOver t (if isB then (·.sB) else (·.sA)) (if isB then t.cols else t.rows) (64 * (if isB then t.pitchB else t.pitchA))
    (runBytes fmt t.red)
  let sc := if isB then t.scaleB else t.scaleA
  let bb : Int := mxBlockBytes fmt
  if fmtMX fmt then [r, (sc + r.1 / bb, sc + (r.2 + bb - 1) / bb)] else [r]

/-- The ranges of O or C with the scale array (R514). -/
def LoopTable.outRanges (t : LoopTable) (w : Option Window) (isC : Bool) : List (Int × Int) :=
  let r := t.outRange w isC
  if fmtMX t.fmtO then
    let e : Int := roundUp (r.2).toNat 64
    [r, (e, e + ceilDiv t.elements 32)]
  else [r]

/-- The absolute ranges of an operand: 0 A, 1 B, 2 C, 3 O; a local one in each member's tile store. -/
def Device.opRanges (s : Device) (d q : Nat) (t : LoopTable) (w : Option Window) (op : Nat) : List Range :=
  let put (loc : Bool) (base : Nat) (rs : List (Int × Int)) : List Range :=
    if loc then (maskMembers t.mask).flatMap (fun m => rs.map (rangeAt (clusterWindow (gOf d q m) + base)))
    else rs.map (rangeAt base)
  match op with
  | 0 => if w.isSome then [] else put t.aLocal t.baseA (t.inRanges false)
  | 1 => put t.bLocal t.baseB (t.inRanges true)
  | 2 => if t.cPresent then put false t.baseC (t.outRanges w true) else []
  | _ => put false t.baseO (t.outRanges w false)

/-- Step 8 of R143, for a quadrant. -/
def Device.tableStep8 (s : Device) (d q : Nat) (t : LoopTable) (w : Option Window) : Option Finding :=
  let c := Code.loopAddrOutOfWindow
  let localOut (rs : List (Int × Int)) (base : Nat) : Bool :=
    decide (0x2FFFFF < base) || rs.any (fun r => decide ((base : Int) + r.1 < 0) || decide (0x300000 < (base : Int) + r.2))
  let rs (op : Nat) := s.opRanges d q t w op
  firstBad [
    (t.aLocal && w.isNone && localOut (t.inRanges false) t.baseA, badAt c 0 0xFF),
    (t.aLocal && w.isSome && decide (0x2FFFFF < t.baseA), badAt c 0 0xFF),
    (t.bLocal && localOut (t.inRanges true) t.baseB, badAt c 1 0xFF),
    (decide (t.reuseB = 2) && !t.bLocal, badAt c 1 0xFF),
    (!(rs 0).all (s.rangeOk false), badAt c 0 0xFF), (!(rs 1).all (s.rangeOk false), badAt c 1 0xFF),
    (!(rs 2).all (s.rangeOk false), badAt c 2 0xFF), (!(rs 3).all (s.rangeOk true), badAt c 3 0xFF),
    ((rs 3).any (fun o => (rs 0 ++ rs 1 ++ rs 2).any (rangesMeet o)), badAt c 3 0xFF)]

/-- The first step a table fails for a quadrant (DEDUCED, assumption 44). -/
def Device.tableCheck (s : Device) (d q i : Nat) : Option Finding :=
  let b := s.tableBytes d i
  let t := tableOf b
  let w := s.window d i
  (tableStep1 b i w.isSome).orElse fun _ => (tableStep2 t).orElse fun _ => (tableStep3 t).orElse fun _ =>
    (tableStep4 t).orElse fun _ => (s.tableStep5 d q t).orElse fun _ => (tableStep67 t).orElse fun _ => s.tableStep8 d q t w

/-! ## Job program commands (R354) -/

/-- Commands of a quadrant's program. -/
def Device.programCmds (s : Device) (d q : Nat) : List (List Byte) :=
  let b := s.sec 0x19 d q 255
  (List.range (fld b 0 4)).map (fun i => sub b (320 + 16 * i) 16)

def cmdPlay (c : List Byte) : Nat := fbits c 1 1 2 0
def cmdIndex (c : List Byte) : Nat := fld c 4 4

/-- The contexts an opcode's index is issued into: quadrant, context, index. -/
def Device.issuesOf (s : Device) (d op : Nat) : List (Nat × Nat × Nat) :=
  (List.range 4).flatMap (fun q => ((s.programCmds d q).filter (fun c => fld c 0 1 == op)).map (fun c =>
    (q, cmdPlay c % 4, cmdIndex c)))

def Device.tableCount (s : Device) (d : Nat) : Nat := (s.sec 0x10 d 255 255).length / 256

/-- The quadrants for which a table's checks are made: those whose programs issue it, or quadrant 0 (R143). -/
def Device.checkQuads (s : Device) (d i : Nat) : List Nat :=
  let iss := s.issuesOf d 0x01
  let qs := (List.range 4).filter (fun q => iss.any (fun e => e.1 == q && e.2.2 == i))
  if qs.isEmpty then [0] else qs

/-- The record of a failing table, if it fails (R143). Where different quadrants fail different steps, the model runs all steps
for a quadrant before the next quadrant (DESIGN CHOICE, assumption 44). -/
def Device.tableBad (s : Device) (d i : Nat) : Option Rec :=
  (s.checkQuads d i).findSome? (fun q => (s.tableCheck d q i).map (s.refRefusal d q i))

/-- Every failing table of a die (R143), and a record of a die that is given more than 4,096 (R120): its place and values are
those of R145 with no table, the count and the limit (DESIGN CHOICE, assumption 44). -/
def Device.tablesBad (s : Device) (d : Nat) : List Rec :=
  (if 4096 < s.tableCount d then
    [s.refRefusal d 0 0xFFFF (over' Code.loopTableCountExceeded 0xFF 0xFF (s.tableCount d) 4096)] else []) ++
    (List.range (s.tableCount d)).filterMap (s.tableBad d)

/-- Two issues of a quadrant, each a context and a table, break R144. -/
def Device.slotsMeet (s : Device) (d : Nat) (x y : Nat × Nat) : Bool :=
  let a := s.table d x.2
  let b := s.table d y.2
  decide (x.1 ≠ y.1) && decide (a.mask &&& b.mask ≠ 0) && overlap a.slotBase a.slotCount b.slotBase b.slotCount

/-- A table is in no conflict of R144. -/
def Device.slotsClear (s : Device) (d i : Nat) : Bool :=
  let iss := s.issuesOf d 0x01
  iss.all (fun x => iss.all (fun y => !(x.1 == y.1 && x.2.2 == i && s.slotsMeet d x.2 y.2)))

/-- Slot conflicts between issues into different contexts of a quadrant (R144). A record's reference is the table of the lower
context, and the other table's number follows the values of R145 in 2 bytes; issues of one table into one context are taken
together, so that a conflict is reported once (DESIGN CHOICE, assumption 44). -/
def Device.slotConflicts (s : Device) (d : Nat) : List Rec :=
  let iss := (s.issuesOf d 0x01).eraseDups
  (List.range 4).flatMap (fun q =>
    let l := iss.filter (fun e => e.1 == q)
    l.flatMap (fun x => l.filterMap (fun y =>
      if x.2.1 < y.2.1 ∧ s.slotsMeet d x.2 y.2 then
        some { s.refusal Code.loopSlotConflict (dpQuad d q 0) 0 [(1, 0xFF), (4, noVal), (4, noVal), (2, y.2.2)] with
               posKind := 4, pos := x.2.2 + 0xFF * 2 ^ 16 }
      else none)))

/-! ## Window descriptors (R193) -/

def axisBad (a : Axis) (used : Bool) : Bool :=
  if used then decide (a.size = 0 ∨ 16777216 < a.size ∨ a.k = 0 ∨ a.stride = 0 ∨ a.dil = 0)
  else decide (a ≠ ⟨1, 1, 1, 1, 0, 0⟩)

/-- The plane, or block, extent of a windowed input in bytes (R189). -/
def Window.extent (w : Window) (eb : Nat) : Nat := w.x.size * w.y.size * w.z.size * eb * w.block

/-- The first step of R193 a descriptor fails for a quadrant; a finding's level holds the axis, 0xFF for none. -/
def Device.windowCheck (s : Device) (d q : Nat) (b : List Byte) : Option Finding :=
  let w := windowOf b
  let t := s.table d w.table
  let e (ax : Nat) := badAt Code.fldWindowInvalid 0xFF ax
  let lay := badAt Code.fldLayoutMismatch 0 0xFF
  let eb := outBytes t.fmtA
  let gs := t.levels.filter (fun l => l.kind == 3)
  let sa := rangeOver { t with levels := gs } (·.sA) 1 0
    ((ceilDiv w.cg w.block - 1) * w.pitch + w.extent eb)
  let rs := if t.aLocal then (maskMembers t.mask).map (fun m => rangeAt (clusterWindow (gOf d q m) + t.baseA) sa)
    else [rangeAt t.baseA sa]
  firstBad [
    (decide (s.tableCount d ≤ w.table), e 0xFF),
    (decide (1 < ((s.windowBytes d).filter (fun x => (windowOf x).table == w.table)).length), e 0xFF),
    (decide (fld b 2 1 ≠ 1) || decide (fbits b 0 2 15 12 ≠ 0) || decide (fbits b 3 1 7 5 ≠ 0) || !zeros b 6 2 || !zeros b 58 6 ||
      decide (w.dims = 0) || decide (w.layout = 3) || decide (w.cg = 0) || decide (w.pitch = 0), e 0xFF),
    (axisBad w.x true, e 0), (axisBad w.y (decide (2 ≤ w.dims)), e 1), (axisBad w.z (decide (3 ≤ w.dims)), e 2),
    (t.levels.any (fun l => l.kind != 3 && l.sA != 0) || decide (t.coverage 2 ≠ w.cg * w.taps) ||
      t.levels.any (fun l => l.kind == 2 && l.regOn) || decide (t.pitchA ≠ 0) || decide (t.scaleA ≠ 0), e 0xFF),
    (!(decide (1 ≤ t.fmtA ∧ t.fmtA ≤ 4) || decide (t.fmtA = 0xA)) || decide (2 ^ fmtBits t.fmtA ≤ w.pad), lay),
    (decide (w.layout ≠ 0) && gs.any (fun l => decide (l.sA % w.pitch ≠ 0)), lay),
    (decide (w.layout ≠ 0) && gs.any (fun l => decide (l.sA ≠ 0)) && decide (w.cg % w.block ≠ 0), lay),
    (decide (w.pitch < w.extent eb), lay),
    (w.planarOut && decide (t.form = 3), lay),
    (!rs.all (s.rangeOk false), badAt Code.loopAddrOutOfWindow 0 0xFF),
    (t.aLocal && (decide ((t.baseA : Int) + sa.1 < 0) || decide (0x300000 < (t.baseA : Int) + sa.2)),
      badAt Code.loopAddrOutOfWindow 0 0xFF),
    ((s.opRanges d q t (some w) 3).any (fun o => rs.any (rangesMeet o)), badAt Code.loopAddrOutOfWindow 3 0xFF)]

/-- A window's record: the place and values of R145, and after them the axis in 1 byte, 0xFF for none
(DESIGN CHOICE, assumption 44). -/
def Device.windowRefusal (s : Device) (d q number : Nat) (f : Finding) : Rec :=
  let r := s.refRefusal d q number { f with level := 0xFF }
  { r with vals := r.vals ++ [(1, f.level)] }

/-- Failing windows of a die (R193): those whose table has passed R143 and R144, which is made when every table has passed R143,
and those that name no table. -/
def Device.windowsBad (s : Device) (d : Nat) (tablesPass : Bool) : List Rec :=
  (s.windowBytes d).filterMap (fun b =>
    let i := (windowOf b).table
    if i < s.tableCount d ∧ !(tablesPass && s.slotsClear d i) then none
    else (s.checkQuads d i).findSome? (fun q => (s.windowCheck d q b).map (s.windowRefusal d q i)))

/-! ## Vector programs (R171, R172) -/

/-- The fields an opcode uses, as a mask of its word (R158, R159, R160); `none` for an unlisted opcode. -/
def opFields (op : Nat) : Option Nat :=
  let vd := 31 * 2 ^ 51
  let pd := 7 * 2 ^ 51
  let va := 31 * 2 ^ 46
  let pa := 7 * 2 ^ 46
  let vb := 31 * 2 ^ 41
  let pb := 7 * 2 ^ 41
  let vc := 31 * 2 ^ 36
  let pc := 7 * 2 ^ 36
  let pg := 7 * 2 ^ 33
  let g := 15 * 2 ^ 32
  let imm := 2 ^ 32 - 1
  match op with
  | 0x00 => some 0
  | 0x01 => some 0
  | 0x02 => some 0x7FF
  | 0x03 => some (pa + pg + 0x7FF)
  | 0x04 => some (pa + pg + 0x7FF)
  | 0x08 => some (vd + pa + g)
  | 0x09 => some (vd + g)
  | 0x0A => some (va + pg)
  | 0x0C => some (va + pg + 0x3FFFF)
  | 0x0E => some (vd + g + 0xF)
  | 0x0F => some (vd + 3)
  | 0x10 => some (va + pg + 3)
  | 0x11 => some (vd + va + g)
  | 0x12 => some (vd + g + imm)
  | 0x13 => some (vd + va + vb + pc + g)
  | 0x23 => some (vd + va + vb + vc + g)
  | 0x26 => some (vd + va + g + imm)
  | 0x27 => some (vd + va + g + imm)
  | 0x28 => some (vd + va + g)
  | 0x29 => some (vd + va + g)
  | 0x2A => some (pd + va + vb + g + 7)
  | 0x46 => some (vd + va + g + 31)
  | 0x47 => some (vd + va + g + 31)
  | 0x48 => some (vd + va + g + 31)
  | 0x49 => some (vd + va + g + imm)
  | 0x4A => some (pd + va + vb + g + 3)
  | 0x4E => some (vd + va + g)
  | 0x4F => some (vd + va + g)
  | 0x50 => some (vd + va + g + 0x3F)
  | 0x51 => some (vd + va + g + 0xF)
  | 0x70 => some (pd + pa + pb)
  | 0x71 => some (pd + pa + pb)
  | 0x72 => some (pd + pa + pb)
  | 0x73 => some (pd + pa)
  | 0x74 => some (pd + 0x7F)
  | 0x75 => some (pd + 3)
  | op =>
    if op = 0x20 ∨ op = 0x21 ∨ op = 0x22 ∨ op = 0x24 ∨ op = 0x25 ∨ (0x40 ≤ op ∧ op ≤ 0x45) ∨ op = 0x4B ∨ op = 0x4C then
      some (vd + va + vb + g)
    else if (0x30 ≤ op ∧ op ≤ 0x35) ∨ (0x60 ≤ op ∧ op ≤ 0x63) then some (vd + va + g)
    else none

/-- The OUTR form of R169. -/
def outrOk (imm : Nat) : Bool :=
  let w := if imm % 4 = 0 then 4 else 2
  let off := bits imm 9 2
  let pitch := bits imm 17 10
  decide (imm % 4 ≤ 1) && decide (2 ≤ pitch) && decide (off % w = 0) && decide (pitch % w = 0) && decide (off + w ≤ pitch)

/-- A word is legal (R171). -/
def wordOk (w : Nat) : Bool :=
  let op := w / 2 ^ 56
  let imm := w % 2 ^ 32
  if op = 0x0D then decide (bits w 55 48 = 0) && decide (w % 4 = 0)
  else
    match opFields op with
    | none => false
    | some m =>
      decide (w % 2 ^ 56 &&& m = w % 2 ^ 56) &&
      (!decide (op ∈ [0x2A, 0x4A, 0x70, 0x71, 0x72, 0x73, 0x74, 0x75]) || decide (bits w 53 51 ≠ 0)) &&
      (!decide (op = 0x08) || decide (bits w 48 46 ≠ 0)) &&
      (match op with
       | 0x0C => outrOk imm
       | 0x0E => decide (imm ≤ 5)
       | 0x2A => decide (imm ≤ 5)
       | 0x50 => decide (imm % 16 ∈ [1, 2, 3, 4, 0xA]) && decide (imm / 16 ≤ 1)
       | 0x51 => decide (imm ∈ [1, 2, 3, 4, 0xA, 0xC, 0xD])
       | 0x74 => decide (imm ≤ 64)
       | 0x75 => decide (imm ≤ 2)
       | _ => true)

/-- A record about a program word: quadrant, context and index. -/
def Device.wordRefusal (s : Device) (code d q k i : Nat) : Rec := s.refusal code (dpQuad d q 0) 0 [(1, k), (2, i)]

def Device.programWords (s : Device) (d q k : Nat) : List Nat :=
  let b := s.sec 0x18 d q k
  (List.range (b.length / 8)).map (fun i => fld b (8 * i) 8)

def Device.vecBad (s : Device) (d q k : Nat) : List Rec :=
  let ws := s.programWords d q k
  if 2048 < ws.length then [s.wordRefusal Code.vecProgramTooLong d q k 2048]
  else (List.range ws.length).filterMap (fun i =>
    if wordOk (nth 0 ws i) then none else some (s.wordRefusal Code.vecIllegalOp d q k i))

/-- Every point paths from an entry reach: an index, and whether a ROWBASE came before (R172). -/
def reachWords (ws : List Nat) : Nat → List (Nat × Bool) → List (Nat × Bool) → List (Nat × Bool)
  | 0, _, seen => seen
  | _, [], seen => seen
  | f + 1, x :: todo, seen =>
    if seen.contains x then reachWords ws f todo seen
    else
      let w := nth 0 ws x.1
      let op := w / 2 ^ 56
      let rb := x.2 || op == 0x0D
      let next := if 2047 < x.1 ∨ op = 0x01 then []
        else if op = 0x02 then [(w % 2048, rb)]
        else if op = 0x03 ∨ op = 0x04 then [(w % 2048, rb), (x.1 + 1, rb)]
        else [(x.1 + 1, rb)]
      reachWords ws f (next ++ todo) (x :: seen)

def reachable (ws : List Nat) (entry : Nat) : List (Nat × Bool) := reachWords ws 16384 [(entry, false)] []

/-- A path leaves the store without END, or an OUTR comes before any ROWBASE. -/
def pathIllegal (ws : List Nat) (entry : Nat) : Bool :=
  (reachable ws entry).any (fun x => decide (2047 < x.1) || (decide (nth 0 ws x.1 / 2 ^ 56 = 0x0C) && !x.2))

def pathMismatch (ws : List Nat) (entry : Nat) (cPresent mx : Bool) : Bool :=
  (reachable ws entry).any (fun x =>
    let w := nth 0 ws x.1
    decide (x.1 ≤ 2047) && ((decide (w / 2 ^ 56 = 0x09) && !cPresent) || (decide (w / 2 ^ 56 = 0x0A) && mx && decide (bits w 35 33 ≠ 0))))

/-- The entry of a table or pass, in the context it is issued into (R172). -/
def Device.entryBad (s : Device) (d q k entry : Nat) (cPresent mx : Bool) : Option Nat :=
  let ws := s.programWords d q k
  if pathIllegal ws entry then some Code.vecIllegalOp
  else if pathMismatch ws entry cPresent mx then some Code.vecEpilogueMismatch
  else none

/-- Entries of tables with epilogue readout. R200 refuses an index of the maximum over more than 65,536 channels: the model
takes for one every table whose epilogue reaches RARGMAX (DESIGN CHOICE, assumption 44). -/
def Device.epilogueBad (s : Device) (d : Nat) : List Rec :=
  (s.issuesOf d 0x01).eraseDups.filterMap (fun e =>
    let t := s.table d e.2.2
    if t.form ≠ 2 ∨ t.entry = 0xFFFF then none
    else
      let ws := s.programWords d e.1 e.2.1
      let argmax := (reachable ws t.entry).any (fun x => decide (nth 0 ws x.1 / 2 ^ 56 = 0x63))
      if argmax ∧ 65536 < t.coverage 1 then some (s.refRefusal d e.1 e.2.2 (bad Code.vecEpilogueMismatch))
      else (s.entryBad d e.1 e.2.1 t.entry t.cPresent (fmtMX t.fmtO)).map (fun c => s.refRefusal d e.1 e.2.2 (bad c)))

def Device.vpassCount (s : Device) (d q : Nat) : Nat := (s.sec 0x1B d q 255).length / 32

/-- Bytes of a vector pass operand over all its rows; a Microscaling output with its scale array (R154). -/
def VPass.inBytes (v : VPass) : Nat := v.rows * v.pitch v.fmtI
def VPass.outBytes (v : VPass) : Nat := v.rows * v.pitch v.fmtO + (if fmtMX v.fmtO then v.rows * ceilDiv v.len 32 else 0)

/-- R173. -/
def Device.vpassCheck (s : Device) (d q i : Nat) : Bool :=
  let b := elemAt (s.sec 0x1B d q 255) 32 i
  let v := vpassOf b
  let rI : Range := ⟨v.baseI, v.inBytes, false⟩
  let rO : Range := ⟨v.baseO, v.outBytes, false⟩
  let rC : List Range := if v.cPresent then [⟨v.baseC, v.inBytes, false⟩] else []
  decide (fbits b 0 2 15 11 = 0) && decide (fbits b 3 1 7 4 = 0) && decide (fld b 7 1 = 0) && decide (fbits b 8 2 15 13 = 0) &&
    decide (v.fmtI ∈ [0, 1, 2, 0xC, 0xD]) && decide (v.fmtO ≤ 0xD ∧ v.fmtO ≠ 0xB) && decide (v.rounding ≤ 2) &&
    decide (v.rows ≠ 0) && decide (1 ≤ v.len ∧ v.len ≤ 4096) && decide (v.energy ≠ 0) &&
    decide (v.baseI % 64 = 0 ∧ v.baseO % 64 = 0 ∧ v.baseC % 64 = 0) && (v.cPresent || decide (v.baseC = 0)) &&
    s.rangeOk false rI && s.rangeOk true rO && rC.all (s.rangeOk false) && !(rI :: rC).any (rangesMeet rO)

/-- Vector passes and their entries: records name the quadrant and the descriptor. -/
def Device.vpassesBad (s : Device) (d q : Nat) : List Rec :=
  ((List.range (s.vpassCount d q)).filterMap (fun i =>
    if s.vpassCheck d q i then none else some (s.refusal Code.vecDescriptorInvalid (dpQuad d q 0) 0 [(4, i)]))) ++
  (((s.issuesOf d 0x03).filter (fun e => e.1 == q)).eraseDups.filterMap (fun e =>
    if s.vpassCount d q ≤ e.2.2 then none
    else
      let v := s.vpass d q e.2.2
      (s.entryBad d q e.2.1 v.entry v.cPresent (fmtMX v.fmtO)).map (fun c => s.refRefusal d q e.2.2 (bad c))))

/-! ## Field and move descriptors (R199, R45) -/

def Device.fieldCount (s : Device) (d q : Nat) : Nat := (s.sec 0x1C d q 255).length / 64

/-- Planes of the input and the output of a field descriptor, with their elements. -/
def FieldDesc.planes (f : FieldDesc) : (Nat × Nat) × (Nat × Nat) :=
  let full := f.x * f.y * f.z
  let b := f.bx * f.bb * f.bz
  match f.kind with
  | 0 => ((f.c, full), (f.c * b, full / max 1 b))
  | 1 => ((f.c * b, full / max 1 b), (f.c, full))
  | _ => ((f.c, full), (f.boxes * f.c, f.ow * f.oh))

def planeRange (base n pitch elems eb : Nat) : Range := ⟨base, if n = 0 then 0 else (n - 1) * pitch + elems * eb, false⟩

/-- Input, output and box ranges. -/
def FieldDesc.ranges (f : FieldDesc) : Range × Range × List Range :=
  let p := f.planes
  (planeRange f.baseI p.1.1 f.pitchI p.1.2 f.eb, planeRange f.baseO p.2.1 f.pitchO p.2.2 f.eb,
   if f.kind = 2 then [⟨f.baseB, 16 * f.boxes, false⟩] else [])

def Device.fieldCheck (s : Device) (d q i : Nat) : Bool :=
  let b := elemAt (s.sec 0x1C d q 255) 64 i
  let f := fieldOf b
  let crop := decide (f.kind = 2)
  let p := f.planes
  let r := f.ranges
  let used (x : Range) : Bool := decide (x.len = 0)
  decide (f.kind ≤ 2) && decide (fbits b 0 1 7 4 = 0) && decide (fbits b 1 1 7 4 = 0) && decide (fbits b 2 1 7 2 = 0) &&
    zeros b 3 1 && zeros b 62 2 && (crop || zeros b 23 1) &&
    decide (f.fmt ∈ [0, 1, 2, 3, 4, 0xA]) && (if crop then decide (f.rounding ≤ 2) else decide (f.rounding = 0)) &&
    (if crop then decide (f.dims = 2) else decide (f.dims = 2 ∨ f.dims = 3)) && decide (1 ≤ f.c ∧ f.c ≤ 65535) &&
    decide (1 ≤ f.x ∧ f.x ≤ 16777216 ∧ 1 ≤ f.y ∧ f.y ≤ 16777216 ∧ 1 ≤ f.z ∧ f.z ≤ 16777216) &&
    (decide (f.dims = 3) || decide (f.z = 1)) &&
    (if crop then decide (1 ≤ f.ow ∧ f.ow ≤ 4096 ∧ 1 ≤ f.oh ∧ f.oh ≤ 4096 ∧ f.boxes ≤ 4096 ∧ f.baseB % 16 = 0)
     else decide (1 ≤ f.bx ∧ f.bx ≤ 64 ∧ 1 ≤ f.bb ∧ f.bb ≤ 64 ∧ 1 ≤ f.bz ∧ f.bz ≤ 64) &&
       decide (f.x % max 1 f.bx = 0 ∧ f.y % max 1 f.bb = 0 ∧ f.z % max 1 f.bz = 0) && decide (f.boxes = 0 ∧ f.pad = 0 ∧ f.baseB = 0)) &&
    decide (f.baseI % 64 = 0 ∧ f.baseO % 64 = 0) && decide (f.energy ≠ 0) &&
    decide (f.pad < 2 ^ fmtBits f.fmt) && !isNonfinite32 (enc32 (valueOf f.fmt f.pad 0 0)) &&
    decide (p.1.2 * f.eb ≤ f.pitchI) && decide (p.2.2 * f.eb ≤ f.pitchO) &&
    s.rangeOk false r.1 && (used r.2.1 || s.rangeOk true r.2.1) && r.2.2.all (fun x => used x || s.rangeOk false x) &&
    !(r.1 :: r.2.2).any (rangesMeet r.2.1)

/-- A descriptor's index is a number with no declared range, of 4 bytes (R495). -/
def Device.fieldsBad (s : Device) (d q : Nat) : List Rec :=
  (List.range (s.fieldCount d q)).filterMap (fun i =>
    if s.fieldCheck d q i then none else some (s.refusal Code.fldDescriptorInvalid (dpQuad d q 0) 0 [(4, i)]))

/-- R45 (DEDUCED, assumption 44). -/
def Device.moveCheck (s : Device) (b : List Byte) : Bool :=
  let src : Range := ⟨fld b 0 6, fld b 12 4, false⟩
  let dst : Range := ⟨fld b 6 6, fld b 12 4, false⟩
  let kindOf (a : Nat) : Nat := match s.regionOf a with | some r => r.kind | none => 9
  decide (src.lo % 512 = 0 ∧ dst.lo % 512 = 0 ∧ src.len % 512 = 0 ∧ 512 ≤ src.len) && s.rangeOk false src && s.rangeOk true dst &&
    (match fld b 26 1 with
     | 0 => decide (kindOf src.lo = 0 ∧ kindOf dst.lo = 1)
     | 1 => decide (kindOf src.lo = 1 ∧ kindOf dst.lo = 0)
     | 2 => true
     | _ => false) && !rangesMeet src dst && zeros b 27 1 && zeros b 30 2

def Device.movesBad (s : Device) (d q : Nat) : List Rec :=
  let l := s.sec 0x1A d q 255
  (List.range (l.length / 32)).filterMap (fun i =>
    if s.moveCheck (elemAt l 32 i) then none else some (s.refusal Code.memMoveInvalid (dpQuad d q 0) 0 [(4, i)]))

end Sys2Proof.Machine
end

