-- ==== Sys2Proof/Machine/Admission.lean ====
section
/-! DEFINITION. Admission of a job image: structure and signature, mapping, memory and checkpoint plans, tensor declarations,
job programs, attention, carousel, ingest and reduction structures (R342 to R350, R359, R371, R383, R217, R250, R277,
R317). -/

namespace Sys2Proof.Machine

/-! ## The staged image (R342, R345) -/

def stagingBase : Nat := 0x23C0000000
def trailerLen : Nat := 29856

/-- Section types of R343: scope (0 module, 1 die, 2 die and quadrant, 3 context), header bytes and element bytes; the
reduction plan's header includes its schedules. -/
def sectionSpec (kind : Nat) (body : List Byte) : Option (Nat × Nat × Nat) :=
  match kind with
  | 0x01 => some (0, 0, 64)
  | 0x02 => some (0, 64, 32)
  | 0x03 => some (0, 0, 32)
  | 0x04 => some (0, 0, 64)
  | 0x05 => some (0, 64 + 256 * fld body 24 1, 64)
  | 0x06 => some (0, 128, 64)
  | 0x10 => some (1, 0, 256)
  | 0x11 => some (1, 0, 64)
  | 0x12 => some (1, 0, 32)
  | 0x13 => some (1, 0, 128)
  | 0x14 => some (1, 0, 64)
  | 0x18 => some (3, 0, 8)
  | 0x19 => some (2, 320, 16)
  | 0x1A => some (2, 0, 32)
  | 0x1B => some (2, 0, 32)
  | 0x1C => some (2, 0, 64)
  | 0x1D => some (2, 0, 16)
  | _ => none

def scopeOk (scope d q c : Nat) : Bool :=
  match scope with
  | 0 => decide (d = 255 ∧ q = 255 ∧ c = 255)
  | 1 => decide (d < 4 ∧ q = 255 ∧ c = 255)
  | 2 => decide (d < 4 ∧ q < 4 ∧ c = 255)
  | _ => decide (d < 4 ∧ q < 4 ∧ c < 4)

/-- A directory entry: its section, offset and length. -/
def dirEntry (body : List Byte) (i : Nat) : Section × Nat × Nat :=
  let e := sub body (128 + 16 * i) 16
  (⟨fld e 0 1, fld e 1 1, fld e 2 1, fld e 3 1, fld e 4 4, sub body (fld e 8 4) (fld e 12 4)⟩, fld e 8 4, fld e 12 4)

def sameScope (a b : Section) : Bool := a.kind == b.kind && a.die == b.die && a.quad == b.quad && a.ctx == b.ctx

/-- One entry is well formed inside a body of `len` bytes whose directory ends at `dirEnd` (R346 step 3). -/
def entryOk (len dirEnd : Nat) (e : Section × Nat × Nat) : Bool :=
  match sectionSpec e.1.kind e.1.bytes with
  | none => false
  | some (scope, hdr, el) =>
    scopeOk scope e.1.die e.1.quad e.1.ctx && decide (e.2.1 % 64 = 0) && decide (dirEnd ≤ e.2.1) && decide (e.2.1 + e.2.2 ≤ len) &&
      decide (hdr + el * e.1.count = e.2.2)

def pairwise {α : Type} (p : α → α → Bool) : List α → Bool
  | [] => true
  | x :: t => t.all (p x) && pairwise p t

/-- Step 3 of R346. -/
def structureOk (body : List Byte) : Bool :=
  let n := fld body 64 2
  let es := (List.range n).map (dirEntry body)
  decide (fld body 0 4 = 0x4A4B4D4E) && decide (fld body 4 1 = 1) && zeros body 5 3 && zeros body 66 62 &&
    decide (1 ≤ n ∧ n ≤ 4096) && decide (128 + 16 * n ≤ body.length) &&
    es.all (entryOk body.length (128 + 16 * n)) &&
    pairwise (fun a b => !overlap a.2.1 a.2.2 b.2.1 b.2.2 && !sameScope a.1 b.1) es &&
    [1, 2, 3, 4, 5].all (fun k => es.any (fun e => e.1.kind == k)) &&
    (List.range 4).all (fun d => (List.range 4).all (fun q => es.any (fun e => e.1.kind == 0x19 && e.1.die == d && e.1.quad == q))) &&
    es.all (fun e => (e.1.kind != 1 && e.1.kind != 4) || e.1.count == 1) &&
    es.all (fun e => e.1.kind != 0x12 || e.1.count ≤ 1)

/-- The owner key hash: the lowest entry that is written and not revoked (R438). -/
def Fuses.ownerHash (f : Fuses) : Option (List Byte) := (f.owners.find? (fun o => !o.revoked)).map (·.hash)

/-- R344. -/
def Device.imageSigned (s : Device) (body trailer : List Byte) : Bool :=
  match (s.fuse s.primary).ownerHash with
  | some h => decide (shake256 (trailer.take 64) 64 = h) && Config.slhVerify (trailer.take 64) (shake256 body 64) (trailer.drop 64)
  | none => false

/-- R347 and R348. -/
def mappingOk (m : List Byte) : Bool :=
  let p := fld m 0 2
  let r := fld m 2 2
  let d := fld m 4 2
  let map := fld m 24 32
  decide (1 ≤ p ∧ p ≤ 255 ∧ 1 ≤ r ∧ r ≤ 64 ∧ 1 ≤ d ∧ d ≤ 256 ∧ fld m 6 2 < p ∧ fld m 8 2 < r ∧ fld m 10 2 < d) &&
    decide (fbits m 12 1 7 1 = 0) && zeros m 13 11 && zeros m 56 8 && decide (r * d ≤ 256) && decide (map < 2 ^ (r * d)) &&
    (!bit (fld m 12 1) 0 || bit map (fld m 8 2 * d + fld m 10 2))

/-- The sections of a body. -/
def bodySections (body : List Byte) : List Section := (List.range (fld body 64 2)).map (fun i => (dirEntry body i).1)

def secBytes (l : List Section) (k : Nat) : List Byte := match findSec l k 255 255 255 with | some x => x.bytes | none => []

/-- Steps 1 to 4 of R346: the first failing record, or the parsed image. -/
def Device.admitEarly (s : Device) : Option Rec × Job :=
  let data := s.read stagingBase s.job.total
  let len := fld data 8 8
  let body := data.take len
  let fail (c : Nat) : Option Rec × Job := (some (s.refusal c 0 0 []), s.job)
  if len + trailerLen ≠ s.job.total ∨ len < 4096 ∨ 1073711968 < len then fail Code.jobImageMalformed
  else if !s.imageSigned body (data.drop len) then fail Code.jobImageSignature
  else if !structureOk body then fail Code.jobImageMalformed
  else
    let secs := bodySections body
    if !mappingOk (secBytes secs 1) then fail Code.jobMappingMismatch
    else (none, { s.job with
      checked := true, image := secs, jobId := sub body 16 16, seed := sub body 32 32, measure := shake256 body 64
      digest := s.digestOf (sub body 16 16) (secBytes secs 1) (secBytes secs 2) (secBytes secs 4) })

/-! ## Attention (R204, R212, R214, R217) -/

/-- Local tokens of a module: 2T. -/
def Device.localTokens (s : Device) (d : Nat) : Nat := 2 * (s.geometry d).stretch s.ringS

def inDie (d : Nat) (r : Range) : Bool := decide (d * hbmSize ≤ r.lo) && decide (r.lo + r.len ≤ (d + 1) * hbmSize)

/-- Home frames and carousel buffer of a die. -/
def Device.frameRanges (s : Device) (d : Nat) : List Range :=
  let y := s.geometry d
  [⟨y.homeBase, s.localTokens d / 16 * y.homePitch, false⟩, ⟨y.bufBase, y.bufSlots * y.visitPitch, false⟩]

def Device.geometryCheck (s : Device) (d : Nat) : Option Finding :=
  let b := s.sec 0x12 d 255 255
  if b.isEmpty then none
  else
    let y := s.geometry d
    let e := bad Code.attWalkInvalid
    firstBad [
      (decide (1048576 < y.nCap) || decide (y.nCap % (32 * s.ringS) ≠ 0), bad Code.attPageMapFull),
      (decide (y.layers = 0) || decide (y.groups = 0) || decide (fbits b 1 1 7 4 ≠ 0) || decide (fbits b 2 1 7 4 ≠ 0) ||
        !decide (y.fmt = 1 ∨ y.fmt = 2) || !decide (y.width = 64 ∨ y.width = 128) || decide (y.nCap = 0) ||
        decide (y.homePitch < 64 + y.layers * y.groups * y.recBytes) || decide (y.visitPitch < 64 + y.groups * y.recBytes) ||
        decide (y.homeBase % 64 ≠ 0 ∨ y.bufBase % 64 ≠ 0) || decide (y.bufSlots = 0) || !zeros b 30 2, e),
      ((s.frameRanges d).any (fun r => !s.rangeOk true r || !inDie d r), bad Code.loopAddrOutOfWindow)]

/-- Query rows of a record: 2T·H_g. -/
def Device.walkRows (s : Device) (d : Nat) (w : WalkRec) : Nat := s.localTokens d * w.heads

/-- What a walk record reads and writes (R215). -/
def Device.walkRanges (s : Device) (d : Nat) (w : WalkRec) : List Range × List Range :=
  let y := s.geometry d
  let n := s.walkRows d w
  let bwd := decide (w.kind ≠ 0)
  let at' (a len : Nat) : Range := ⟨a, len, false⟩
  let stats := at' w.baseS (8 * n)
  let out := if w.kind = 2 then at' w.baseO (y.nCap / 16 * 32 * y.width * 4) else at' w.baseO (n * roundUp (y.width * outBytes w.fmtO) 64)
  let tr := roundUp (n * y.eb) 64 * y.width
  (at' w.baseQ (n * y.width * y.eb) :: (if bwd then [stats, at' w.basedO (n * y.width * y.eb), at' w.baseD (4 * n)] else []) ++
     (if w.segment then [at' w.baseM (2 * s.localTokens d)] else []) ++
     (if w.kind = 2 then [at' w.baseQT tr, at' w.basedOT tr] else []),
   out :: (if bwd then [] else [stats]))

/-- The working area of R218. -/
def Device.workArea (s : Device) (d : Nat) (w : WalkRec) : Nat :=
  let y := s.geometry d
  match w.kind with
  | 0 => 256 * y.width * (y.eb + 4) + 65536
  | 1 => 256 * y.width * (2 * y.eb + 4) + 65536
  | _ => 16384

def Device.walkCount (s : Device) (d : Nat) : Nat := (s.sec 0x13 d 255 255).length / 128

def walkReserved (b : List Byte) : Bool :=
  decide (fbits b 0 2 15 10 = 0) && !bit (fld b 3 1) 7 && decide (fbits b 6 1 7 4 = 0) && decide (fbits b 16 1 7 6 = 0) &&
    decide (fbits b 17 1 7 4 = 0) && zeros b 90 38

/-- Other issues in the same quadrant but another context that share a member (R217 step 5). -/
def Device.walkConflict (s : Device) (d i : Nat) : Bool :=
  let w := s.walkRec d i
  let mine := (s.issuesOf d 0x02).filter (fun e => e.2.2 == i)
  let tabs := s.issuesOf d 0x01
  let walks := s.issuesOf d 0x02
  mine.any (fun e =>
    tabs.any (fun x => x.1 == e.1 && x.2.1 != e.2.1 && decide ((s.table d x.2.2).mask &&& w.mask ≠ 0)) ||
    walks.any (fun x => x.1 == e.1 && x.2.1 != e.2.1 && decide ((s.walkRec d x.2.2).mask &&& w.mask ≠ 0)))

/-- A ROWBASE on the closing entry's paths differs from base statistics (R217 step 7). -/
def Device.closingBad (s : Device) (d i : Nat) : Bool :=
  let w := s.walkRec d i
  decide (w.kind = 0) && ((s.issuesOf d 0x02).filter (fun e => e.2.2 == i)).any (fun e =>
    let ws := s.programWords d e.1 e.2.1
    pathIllegal ws w.closing || pathMismatch ws w.closing false false ||
      (reachable ws w.closing).any (fun x => decide (nth 0 ws x.1 / 2 ^ 56 = 0x0D) && decide (nth 0 ws x.1 % 2 ^ 48 ≠ w.baseS)))

def Device.walkCheck (s : Device) (d i : Nat) : Option Finding :=
  let b := elemAt (s.sec 0x13 d 255 255) 128 i
  let w := walkOf b
  let y := s.geometry d
  let f := s.walkRec d w.forward
  let e := bad Code.attWalkInvalid
  let r := s.walkRanges d w
  let blocks := ceilDiv (s.walkRows d w) 256
  let frames := s.frameRanges d
  firstBad [
    (!walkReserved b || decide (fld b 2 1 ≠ 1) || decide (2 < w.kind) || decide (w.number ≠ i), e),
    (decide (w.rounding = 3) || decide (w.fmt ≠ y.fmt) || (if w.kind = 2 then decide (w.fmtO ≠ 0) else decide (4 < w.fmtO)) ||
      decide (y.layers ≤ w.layer) || decide (y.groups ≤ w.group) || decide (w.heads = 0) || isNonfinite32 w.scale ||
      decide (w.scale.toNat % 2 ^ 31 = 0) || decide (w.count = 0) || decide (w.energy = 0) || decide (w.work % 64 ≠ 0) ||
      [w.baseQ, w.baseO, w.baseS, w.basedO, w.baseD, w.baseM, w.baseQT, w.basedOT].any (fun a => decide (a % 64 ≠ 0)), e),
    ((if w.kind = 0 then decide (2047 < w.closing) || decide (w.forward ≠ 0xFFFF) || decide (w.basedO ≠ 0 ∨ w.baseD ≠ 0)
      else decide (w.closing ≠ 0xFFFF) || decide (s.walkCount d ≤ w.forward) || decide (f.kind ≠ 0) ||
        decide (f.layer ≠ w.layer ∨ f.group ≠ w.group ∨ f.heads ≠ w.heads ∨ f.baseQ ≠ w.baseQ ∨ f.baseS ≠ w.baseS)) ||
      (!w.segment && decide (w.baseM ≠ 0)) || (decide (w.kind ≠ 2) && decide (w.baseQT ≠ 0 ∨ w.basedOT ≠ 0)) ||
      (if w.kind = 2 then decide (w.stride = 0) || decide (w.stride ≤ w.phase) else decide (w.stride ≠ 0 ∨ w.phase ≠ 0)), e),
    (decide (w.kind = 2) && (decide (w.first ≠ 0) || decide (w.count ≠ blocks)), e),
    (decide (w.mask = 0) || (s.issuesOf d 0x02).any (fun x => x.2.2 == i && (maskMembers w.mask).any (fun m => s.clusterOut (gOf d x.1 m))),
      bad Code.loopMulticastMaskInvalid),
    (s.walkConflict d i || decide (0x300000 < w.work + s.workArea d w), bad Code.loopSlotConflict),
    (!r.1.all (s.rangeOk false) || !r.2.all (s.rangeOk true) || r.2.any (fun o => (r.1 ++ frames).any (rangesMeet o)), bad Code.loopAddrOutOfWindow),
    (s.closingBad d i, bad Code.vecEpilogueMismatch)]

/-- A seal descriptor (R212). -/
def Device.sealCheck (s : Device) (d q i : Nat) : Option Finding :=
  let b := s.sealBytes d q i
  let pages := s.localTokens d / 16
  firstBad [
    (decide (pages ≤ fld b 0 4) || decide (fld b 4 4 = 0 ∨ pages < fld b 0 4 + fld b 4 4) || decide (fbits b 8 1 7 6 ≠ 0) ||
      !zeros b 15 1, bad Code.attWalkInvalid),
    (decide (fld b 9 6 ≠ 0) && !s.rangeOk false ⟨fld b 9 6 + 32 * fld b 0 4, 32 * fld b 4 4, false⟩,
      bad Code.loopAddrOutOfWindow)]

def Device.attentionBad (s : Device) (d : Nat) : List Rec :=
  ((s.geometryCheck d).map (s.refRefusal d 0 0xFFFF)).toList ++
  (List.range 4).flatMap (fun q =>
    (List.range ((s.sec 0x1D d q 255).length / 16)).filterMap (fun i =>
      (s.sealCheck d q i).map (s.refRefusal d q i))) ++
  (List.range (s.walkCount d)).filterMap (fun i => (s.walkCheck d i).map (s.refRefusal d 0 i))

/-! ## Tours (R248 to R250) -/

def Device.tourCount (s : Device) (d : Nat) : Nat := (s.sec 0x14 d 255 255).length / 64

/-- Result frames of a backward tour. -/
def Device.tourResult (s : Device) (d : Nat) (t : TourDesc) : Range :=
  ⟨t.result, s.localTokens d / 16 * (s.geometry d).groups * 32 * (s.geometry d).width * 4, false⟩

def Device.tourCheck (s : Device) (d i : Nat) : Option Finding :=
  let b := elemAt (s.sec 0x14 d 255 255) 64 i
  let t := tourOf b
  let y := s.geometry d
  let e := bad Code.carTourInvalid
  let recs := t.records.map (s.walkRec d)
  let k2 := recs.filter (fun w => w.kind == 2)
  let grads := (List.range (s.walkCount d)).filterMap (fun j =>
    let w := s.walkRec d j
    if w.kind = 2 then (s.walkRanges d w).2.head? else none)
  firstBad [
    (decide (fbits b 0 2 15 10 ≠ 0) || decide (fld b 2 1 ≠ 1) || decide (fbits b 3 1 7 1 ≠ 0) || decide (fbits b 5 1 7 5 ≠ 0) ||
      decide (fbits b 8 1 7 6 ≠ 0) || !zeros b 9 7 || !zeros b 22 2 || !zeros b 56 8 || decide (t.number ≠ i) ||
      decide (y.layers ≤ t.layer) || decide (fbits b 5 1 4 0 = 0 ∨ 16 < fbits b 5 1 4 0) || decide (t.timeout = 0) ||
      (if t.backward then decide (t.result % 64 ≠ 0) else decide (t.result ≠ 0)) ||
      (List.range 16).any (fun j => decide (fbits b 5 1 4 0 ≤ j) && decide (fld b (24 + 2 * j) 2 ≠ 0xFFFF)), e),
    (t.records.any (fun r => decide (s.walkCount d ≤ r)) || recs.any (fun w => w.layer != t.layer) ||
      (if t.backward then recs.any (fun w => w.kind == 0) || !(List.range y.groups).all (fun g => k2.any (fun w => w.group == g)) ||
         k2.any (fun a => k2.any (fun c => a.group == c.group && a.baseO != c.baseO))
       else recs.any (fun w => w.kind != 0)), e),
    (decide (y.bufSlots < (s.ringS - 1) * (s.localTokens d / 16)), e),
    (t.backward && (!s.rangeOk true (s.tourResult d t) || !inDie d (s.tourResult d t) ||
      (s.frameRanges d ++ grads).any (rangesMeet (s.tourResult d t))), bad Code.loopAddrOutOfWindow)]

def Device.toursBad (s : Device) (d : Nat) : List Rec :=
  (List.range (s.tourCount d)).filterMap (fun i => (s.tourCheck d i).map (s.refRefusal d 0 i))

/-! ## The recipe (R274, R275, R277) -/

def Entry.outLen (e : Entry) (row : Nat) : Nat :=
  let plane := (if row = 0 then e.cw * e.ch else row) * e.eb
  if e.planes = 0 then 0 else (e.planes - 1) * e.pitch + plane

def Device.refRange (s : Device) (i : Nat) : Range :=
  let e := s.entry i
  ⟨e.refBase, (e.z * e.c - 1) * e.pitch + e.cw * e.ch * e.eb, false⟩

/-- Staging bases of the two P-dies. -/
def Device.stagingRange (s : Device) (r : Recipe) (p : Nat) : Range := ⟨fld s.recipeBytes (58 + 6 * p) 6, r.staging, false⟩
def Recipe.ringRange (r : Recipe) : Range := ⟨r.ring, r.slots * r.slotStride, false⟩

def inLp (p : Nat) (r : Range) : Bool := decide (lpBase + p * lpWindow ≤ r.lo) && decide (r.lo + r.len ≤ lpBase + (p + 1) * lpWindow)

/-- The areas of a recipe beside its ring: the staging areas and the reference areas of the entries that repeat. -/
def Device.recipeAreas (s : Device) : List Range :=
  match s.recipe with
  | none => []
  | some r => s.stagingRange r 0 :: s.stagingRange r 1 ::
      (List.range r.entries).flatMap (fun i => if (s.entry i).method = 0 then [s.refRange i] else [])

/-- What lies in a slot: directory, outputs, marks, positions. -/
def Device.slotParts (s : Device) (r : Recipe) : List Range :=
  ⟨0, 256, false⟩ :: (List.range r.entries).map (fun i => ⟨(s.entry i).outOff, (s.entry i).outLen (if r.packing then r.rowLen else 0), false⟩) ++
    (if r.packing then [⟨r.marks, 2 * r.rowLen, false⟩, ⟨r.positions, 4 * r.rowLen, false⟩] else [])

def Device.headerBad (s : Device) (r : Recipe) (job : List Range) : Bool :=
  let b := s.recipeBytes
  let parts := s.slotParts r
  decide (fld b 0 1 ≠ 1) || decide (fbits b 1 1 7 2 ≠ 0) || decide (fbits b 2 1 7 4 ≠ 0) || decide (fbits b 3 1 7 2 ≠ 0) || !zeros b 41 1 ||
    !zeros b 70 2 || !zeros b 80 48 || decide (r.entries = 0 ∨ 8 < r.entries) || decide (b.length ≠ 128 + 64 * r.entries) ||
    decide (1 < r.rounding) || decide (r.periodUs < 100 ∨ 60000000 < r.periodUs) || decide (r.nRec = 0 ∨ 4096 < r.nRec) ||
    decide (r.slots < 2 * r.nRec ∨ 8192 < r.slots) || decide (r.stride = 0) || decide (r.ring % 64 ≠ 0) || decide (r.slotStride % 64 ≠ 0) ||
    decide (r.budget < 2) || decide (r.initial = 0 ∨ 60000000 < r.initial) ||
    (if r.packing then decide (r.rowLen < 16 ∨ 1048576 < r.rowLen) || decide (r.marks % 64 ≠ 0 ∨ r.positions % 64 ≠ 0) ||
       decide (r.entries ≠ 1) || decide (1 < s.ringS)
     else decide (r.rowLen ≠ 0 ∨ r.marks ≠ 0 ∨ r.positions ≠ 0)) ||
    (List.range 2).any (fun p => decide ((s.stagingRange r p).lo % 4096 ≠ 0) || !inLp p (s.stagingRange r p) || !s.rangeOk true (s.stagingRange r p)) ||
    decide (r.staging % 4096 ≠ 0 ∨ r.staging < 0x4000000) || (!r.conceal && decide (1 < s.ringS)) ||
    parts.any (fun x => decide (r.slotStride < x.lo + x.len)) || !pairwise (fun a c => !rangesMeet a c) parts ||
    !s.rangeOk true r.ringRange || (job ++ s.recipeAreas).any (rangesMeet r.ringRange) ||
    !(decide (0xF000 ≤ r.token ∧ r.token < 0xFFFF) && decide (0xF000 ≤ r.release ∧ r.release < 0xFFFF))

def Device.recipeEntryBad (s : Device) (r : Recipe) (i : Nat) : Bool :=
  let b := sub s.recipeBytes (128 + 64 * i) 64
  let e := entryOf b
  let sizeOk (x : Nat) : Bool := decide (1 ≤ x ∧ x ≤ 16777216)
  decide (fbits b 0 1 7 6 ≠ 0) || decide (fbits b 1 1 7 5 ≠ 0) || decide (fbits b 2 1 7 4 ≠ 0) || decide (fbits b 3 1 7 5 ≠ 0) || !zeros b 46 2 ||
    decide (2 < e.method) || decide (2 < e.fmt) || !sizeOk e.x || !sizeOk e.y || !sizeOk e.z || decide (e.c = 0 ∨ 65535 < e.c) ||
    (r.packing && decide (e.y ≠ 1 ∨ e.z ≠ 1)) || decide (e.maxLen = 0 ∨ 2 ^ 40 < e.maxLen) || decide (e.outOff % 64 ≠ 0 ∨ e.outOff < 256) ||
    decide (e.refBase % 64 ≠ 0) || (decide (e.method ≠ 0) && decide (e.refBase ≠ 0)) ||
    (if bit e.aug 0 then decide (e.cw = 0 ∨ e.x < e.cw ∨ e.ch = 0 ∨ e.y < e.ch) else decide (e.cw ≠ e.x ∨ e.ch ≠ e.y)) ||
    (if bit e.aug 3 then isNonfinite32 e.noise || decide (e.noise = 0) || decide (2 ^ 31 ≤ e.noise.toNat) else decide (e.noise ≠ 0)) ||
    (if bit e.aug 4 then decide (e.spanLen = 0) || decide (e.cw * e.ch * e.z < e.spanLen) else decide (e.spanLen ≠ 0)) ||
    (List.range i).any (fun j => (s.entry j).stream == e.stream && (s.entry j).offset == e.offset) ||
    (bit e.aug 1 && decide (e.cw ≠ e.ch)) || decide (e.pitch < e.cw * e.ch * e.eb) ||
    (r.packing && decide (r.rowLen < e.x)) || (decide (e.method = 0) && !s.rangeOk true (s.refRange i))

/-- The hamper's ingest bounds (R443). -/
def Device.stagingAbove (s : Device) (r : Recipe) : Bool :=
  match s.hamper with | some h => (match h.maxStaging with | some b => decide (b < r.staging) | none => false) | none => false
def Device.lengthAbove (s : Device) (e : Entry) : Bool :=
  match s.hamper with | some h => (match h.maxCompressed with | some b => decide (b < e.maxLen) | none => false) | none => false

/-- R277 and R443, with the ranges every other section names. -/
def Device.recipeBad (s : Device) (job : List Range) : List Rec :=
  match s.recipe with
  | none => []
  | some r =>
    let e (n : Nat) : Rec := s.refusal Code.ingRecipeInvalid 0 0 [(1, n)]
    (if s.headerBad r job || s.stagingAbove r then [e 0xFF] else []) ++
      (List.range r.entries).filterMap (fun i => if s.recipeEntryBad r i || s.lengthAbove (s.entry i) then some (e i) else none)

/-! ## The reduction plan (R313 to R317) -/

def Device.masterRange (s : Device) (p : Nat) : Range :=
  ⟨fld s.plan (12 + 6 * p) 6, ceilDiv s.planNB (2 * max 1 s.repD) * 8192, false⟩

def TensorRec.gradRange (t : TensorRec) : Range := ⟨t.grad, 512 * ceilDiv t.n 256, false⟩
def TensorRec.workRanges (t : TensorRec) : List Range := (t.bases.filter (· != 0)).map (fun a => ⟨a, 2 * t.n, false⟩)

def Device.planRanges (s : Device) : List Range :=
  s.tensorRecs.flatMap (fun t => t.gradRange :: t.workRanges) ++
    (if s.tensorRecs.any (fun t => !t.noMaster) then [s.masterRange 0, s.masterRange 1] else [])

/-- A schedule record breaks R314. -/
def scheduleBad (r : List Byte) : Bool :=
  let first (k : Nat) := fld r (16 * k) 6
  let used := (List.range 16).filter (fun k => decide (first k ≠ 0xFFFFFFFFFFFF))
  decide (first 0 ≠ 0) || (List.range 16).any (fun k => !zeros r (16 * k + 6) 2 || !zeros r (16 * k + 12) 4) ||
    (List.range 16).any (fun k =>
      let eta : Word := BitVec.ofNat 32 (fld r (16 * k + 8) 4)
      if used.contains k then isNonfinite32 eta || decide (2 ^ 31 < eta.toNat) else decide (eta ≠ 0)) ||
    !pairwise (fun a b => decide (a < b)) (used.map first)

def Device.planHeaderBad (s : Device) : Bool :=
  let b := s.plan
  let win := fld b 8 4
  let sch := fld b 24 1
  decide (fld b 0 1 ≠ 1) || !zeros b 1 1 || decide (fld b 2 2 = 0) || decide (s.planNB = 0) ||
    (decide (win ≠ 0) && decide (win < 10 ∨ 1000000 < win)) || decide (sch = 0 ∨ 16 < sch) || !zeros b 25 39 ||
    (List.range 2).any (fun p => decide ((s.masterRange p).lo % 4096 ≠ 0) || !inLp p (s.masterRange p)) ||
    (List.range sch).any (fun i => scheduleBad (sub b (64 + 256 * i) 256)) ||
    decide (b.length ≠ 64 + 256 * sch + 64 * fld b 2 2) || decide (256 < s.ringS * s.repD) ||
    decide (s.planNB ≠ (s.tensorRecs.map (·.bundles)).foldl (· + ·) 0)

/-- Identifiers that structures of a die name as output tensors, and those of INT16-gradient outputs. -/
def Device.outTensors (s : Device) (d : Nat) : List (Nat × Bool) :=
  (List.range (s.tableCount d)).map (fun i => ((s.table d i).tensor, (s.table d i).form == 3 || ((s.table d i).form == 2 && (s.table d i).fmtO == 0xC))) ++
  (List.range 4).flatMap (fun q =>
    (List.range (s.vpassCount d q)).map (fun i => ((s.vpass d q i).tensor, (s.vpass d q i).fmtO == 0xC)) ++
    (List.range (s.fieldCount d q)).map (fun i => ((s.fieldDesc d q i).tensor, false)))

def Device.tensorBad (s : Device) (i : Nat) : Bool :=
  let raw := nth [] s.planTensors i
  let t := tensorRecOf raw
  let before := (s.tensorRecs.take i)
  decide (fbits raw 2 1 7 2 ≠ 0) || decide (t.n = 0 ∨ 2 ^ 31 < t.n) || decide (t.grad % 512 ≠ 0) || decide (4 * hbmSize ≤ t.grad) ||
    decide (fld s.plan 24 1 ≤ t.sched) || t.bases.any (fun a => decide (a % 64 ≠ 0)) || t.bases.all (· == 0) ||
    (List.range 4).any (fun d => nth 0 t.bases d != 0 && decide (nth 0 t.bases d / hbmSize ≠ d)) ||
    isNonfinite32 t.lam || decide (2 ^ 31 < t.lam.toNat) || !zeros raw 56 8 || before.any (fun x => x.id == t.id) ||
    decide (t.b0 ≠ (before.map (·.bundles)).foldl (· + ·) 0) ||
    (List.range 4).any (fun d => nth 0 t.bases d == 0 && (s.outTensors d).any (fun x => x.1 == t.id))

/-- R317. -/
def Device.planBad (s : Device) : List Rec :=
  let e (n : Nat) : Rec := s.refusal Code.redPlanInvalid 0 0 [(2, n)]
  let lacking := (List.range 4).any (fun d => (s.outTensors d).any (fun x => x.2 && !s.tensorRecs.any (fun t => t.id == x.1)))
  let rs := s.planRanges
  (if s.planHeaderBad || lacking then [e 0xFFFF] else []) ++
    (List.range s.tensorRecs.length).filterMap (fun i => if s.tensorBad i then some (e i) else none) ++
    (if !rs.all (s.rangeOk true) || !pairwise (fun a b => !rangesMeet a b) rs then [s.refusal Code.loopAddrOutOfWindow 0 0 []] else [])

/-! ## Memory and checkpoint plans (R349, R371) -/

/-- Every range sections name or imply (R349), those of memory plan and checkpoint plan apart. -/
def Device.sectionRanges (s : Device) : List Range :=
  (List.range 4).flatMap (fun d =>
    (List.range (s.tableCount d)).flatMap (fun i =>
      let t := s.table d i
      let w := s.window d i
      (if t.aLocal then [] else match w with
        | some w =>
          [rangeAt t.baseA (rangeOver { t with levels := t.levels.filter (fun l => l.kind == 3) } (·.sA) 1 0
            ((ceilDiv w.cg w.block - 1) * w.pitch + w.extent (outBytes t.fmtA)))]
        | none => s.opRanges d 0 t w 0) ++
      (if t.bLocal then [] else s.opRanges d 0 t w 1) ++ s.opRanges d 0 t w 2 ++ s.opRanges d 0 t w 3) ++
    (List.range 4).flatMap (fun q =>
      (List.range (s.vpassCount d q)).flatMap (fun i =>
        let v := s.vpass d q i
        [⟨v.baseI, v.inBytes, false⟩, ⟨v.baseO, v.outBytes, false⟩] ++ (if v.cPresent then [⟨v.baseC, v.inBytes, false⟩] else [])) ++
      (List.range (s.fieldCount d q)).flatMap (fun i =>
        let r := (s.fieldDesc d q i).ranges
        r.1 :: r.2.1 :: r.2.2) ++
      (List.range ((s.sec 0x1A d q 255).length / 32)).flatMap (fun i =>
        let b := s.moveBytes d q i
        [⟨fld b 0 6, fld b 12 4, false⟩, ⟨fld b 6 6, fld b 12 4, false⟩]) ++
      (List.range ((s.sec 0x1D d q 255).length / 16)).flatMap (fun i =>
        let b := s.sealBytes d q i
        if fld b 9 6 = 0 then [] else [⟨fld b 9 6 + 32 * fld b 0 4, 32 * fld b 4 4, false⟩]) ++
      (s.programCmds d q).flatMap (fun c =>
        let op := fld c 0 1
        if 0x0C ≤ op ∧ op ≤ 0x0F then [⟨fld c 8 6, fld c 4 4, false⟩] else if op = 0x0B then [⟨fld c 8 6, 4, false⟩] else [])) ++
    (if (s.sec 0x12 d 255 255).isEmpty then [] else s.frameRanges d) ++
    (List.range (s.walkCount d)).flatMap (fun i => (s.walkRanges d (s.walkRec d i)).1 ++ (s.walkRanges d (s.walkRec d i)).2) ++
    (List.range (s.tourCount d)).flatMap (fun i => if (s.tourDesc d i).backward then [s.tourResult d (s.tourDesc d i)] else [])) ++
  s.planRanges

def Device.recipeRanges (s : Device) : List Range :=
  match s.recipe with
  | none => []
  | some r => r.ringRange :: s.recipeAreas

/-- Regions of the memory plan (R349). -/
def planRegions (b : List Byte) : List Range :=
  (List.range (fld b 0 2)).map (fun i => ⟨fld b (64 + 32 * i) 6, fld b (64 + 32 * i + 8) 8, false⟩)

/-- The bytes of a range that regions cover. -/
def covered (regions : List Range) (r : Range) : Nat :=
  (regions.map (fun g => min (r.lo + r.len) (g.lo + g.len) - max r.lo g.lo)).foldl (· + ·) 0

/-- A range of HBM or LPDDR5X. -/
def inTiers (r : Range) : Bool := decide (r.lo < 4 * hbmSize) || (decide (lpBase ≤ r.lo) && decide (r.lo < lpBase + 2 * lpWindow))

/-- The generation length of R371, and the thermos and mirror ranges. -/
def Device.genLen (s : Device) : Nat := 327680 + ceilDiv s.planNB (2 * max 1 s.repD) * 8192
def Device.ckpt (s : Device) : List Byte := s.sec 0x04 255 255 255
def Device.thermosBase (s : Device) (p : Nat) : Nat := fld s.ckpt (6 * p) 6
def Device.mirrorBase (s : Device) (p : Nat) : Nat := fld s.ckpt (12 + 6 * p) 6
def Device.ckptRanges (s : Device) : List Range :=
  [⟨s.thermosBase 0, s.genLen, false⟩, ⟨s.thermosBase 1, s.genLen, false⟩, ⟨s.mirrorBase 0, s.genLen, false⟩,
   ⟨s.mirrorBase 1, s.genLen, false⟩]

/-- Step 5 of R346: `true` when a rule of the memory or checkpoint plan is broken. -/
def Device.memoryBad (s : Device) : Bool :=
  let b := s.sec 0x02 255 255 255
  let c := s.ckpt
  let regs := planRegions b
  let named := (s.sectionRanges ++ s.recipeRanges).filter (fun r => decide (r.len ≠ 0))
  decide (fld b 0 2 = 0 ∨ 256 < fld b 0 2) || decide (b.length ≠ 64 + 32 * fld b 0 2) || !zeros b 2 62 ||
    (List.range (fld b 0 2)).any (fun i => !zeros b (64 + 32 * i + 6) 2 || !zeros b (64 + 32 * i + 16) 16) ||
    regs.any (fun r => decide (r.lo % 64 ≠ 0 ∨ r.len % 64 ≠ 0 ∨ r.len = 0) || !inTiers r || !s.rangeOk true r) ||
    !pairwise (fun a b => !rangesMeet a b) regs ||
    named.any (fun r => inTiers r && decide (covered regs r ≠ r.len)) ||
    decide (fbits c 34 1 7 1 ≠ 0) || !zeros c 35 1 || !zeros c 38 26 ||
    (List.range 2).any (fun p => [s.thermosBase p, s.mirrorBase p].any (fun a =>
      decide (a % 4096 ≠ 0) || !inLp p ⟨a, s.genLen, false⟩)) ||
    s.ckptRanges.any (fun r => decide (covered regs r ≠ r.len)) || !pairwise (fun a b => !rangesMeet a b) s.ckptRanges ||
    s.ckptRanges.any (fun r => named.any (rangesMeet r))

/-! ## Tensor declarations (R350) -/

def Device.tensorsBadDecl (s : Device) : Bool :=
  let b := s.sec 0x03 255 255 255
  let ids := (List.range (b.length / 32)).map (fun i => fld b (32 * i) 2)
  let named := (List.range 4).flatMap (fun d => (s.outTensors d).map (·.1)) ++ s.tensorRecs.map (·.id)
  (List.range (b.length / 32)).any (fun i =>
    let e := sub b (32 * i) 32
    let rank := fld e 3 1
    decide (0xD < fld e 2 1) || decide (rank = 0 ∨ 4 < rank) || !zeros e 20 12 ||
      (List.range 4).any (fun j => decide (rank ≤ j) && decide (fld e (4 + 4 * j) 4 ≠ 1))) ||
    !pairwise (fun a c => a != c) ids || named.any (fun n => !ids.contains n)

/-! ## Job programs (R354, R359, R383) -/

/-- Commands of an opcode count deferred items between DRAINs of a play; the first command above 4,096 is bad. -/
def deferBad : List (List Byte) → Tab Nat → Bool
  | [], _ => false
  | c :: t, n =>
    let p := cmdPlay c
    if fld c 0 1 = 0x10 then deferBad t (Tab.set 0 n p 0)
    else if bit (fld c 1 1) 3 then decide (4096 ≤ Tab.get 0 n p) || deferBad t (Tab.set 0 n p (Tab.get 0 n p + 1))
    else deferBad t n

/-- The number of elements of the section an opcode's index names. -/
def Device.indexLimit (s : Device) (d q op : Nat) : Option Nat :=
  match op with
  | 0x01 => some (s.tableCount d)
  | 0x02 => some (s.walkCount d)
  | 0x03 => some (s.vpassCount d q)
  | 0x04 => some (s.fieldCount d q)
  | 0x05 => some ((s.sec 0x1D d q 255).length / 16)
  | 0x06 => some ((s.sec 0x1A d q 255).length / 32)
  | 0x07 => some (s.tourCount d)
  | _ => none

def isStream (tok : Nat) : Bool := decide (0xF000 ≤ tok ∧ tok < 0xFFFF)

/-- A command breaks R359 (or the lag rules of R383). A command with a 48-bit address in bytes 8 to 13 (R354) has bytes 14 and
15 left over: the model takes them as reserved, so they must be zero (DESIGN CHOICE, assumption 44). -/
def Device.cmdBad (s : Device) (d q last i : Nat) (c : List Byte) : Bool :=
  let op := fld c 0 1
  let tok := fld c 2 2
  let stage := fld s.mapping 6 2
  let stages := fld s.mapping 0 2
  decide (0x11 < op) || decide (fbits c 1 1 7 4 ≠ 0) ||
    (match s.indexLimit d q op with | some n => decide (n ≤ cmdIndex c) | none => false) ||
    (decide (op = 0x0A ∨ op = 0x0B) && decide (63 < tok)) ||
    (bit (fld c 1 1) 3 && !decide (op = 0x01 ∨ op = 0x03 ∨ op = 0x08)) ||
    decide ((op = 0x11) ≠ (i = last)) || (decide (op = 0x07) && decide (q ≠ 0)) ||
    (decide (op = 0x03 ∨ op = 0x04) && (decide (35 < fld c 8 8) || s.clusterOut (gOf d q (fld c 8 8)))) ||
    (decide (op = 0x05 ∨ op = 0x06 ∨ op = 0x07 ∨ op = 0x11) && decide (cmdPlay c ≠ 0)) ||
    (decide (op = 0x0C ∨ op = 0x0F) && decide (stages ≤ stage + 1)) || (decide (op = 0x0D ∨ op = 0x0E) && decide (stage = 0)) ||
    (decide (op = 0x08) && (decide (1 < cmdIndex c) || (isStream tok && decide (cmdIndex c ≠ 0)))) ||
    (decide (0x0B ≤ op ∧ op ≤ 0x0F) && !zeros c 14 2)

/-- Posting and waiting agents of stream tokens (R383): token, agent, and whether it waits. -/
def Device.agents (s : Device) : List (Nat × Nat × Bool) :=
  ((List.range 16).flatMap (fun x =>
    (s.programCmds (x / 4) (x % 4)).flatMap (fun c =>
      let op := fld c 0 1
      let agent := 8 * x + cmdPlay c
      let mv := s.moveBytes (x / 4) (x % 4) (cmdIndex c)
      if op = 0x08 then [(fld c 2 2, agent, true)]
      else if op = 0x06 then [(fld mv 16 2, agent, true), (fld mv 18 2, agent, false)]
      else if (1 ≤ op ∧ op ≤ 7) ∨ op = 0x09 ∨ (0x0C ≤ op ∧ op ≤ 0x0F) then [(fld c 2 2, agent, false)] else []))) ++
  (match s.recipe with | some r => [(r.token, 1000, false), (r.release, 1000, true)] | none => []) ++
  s.tensorRecs.flatMap (fun t => [(t.ready, 1001, true), (t.cleared, 1001, false), (t.weights, 1001, false)])

/-- A stream token without exactly one posting and one waiting agent. -/
def Device.tokenBad (s : Device) (tok : Nat) : Bool :=
  let l := s.agents.filter (fun a => a.1 == tok)
  let posts := ((l.filter (fun a => !a.2.2)).map (·.2.1)).eraseDups
  let waits := ((l.filter (fun a => a.2.2)).map (·.2.1)).eraseDups
  isStream tok && !(posts.length == 1 && waits.length == 1)

/-- The tokens a command names (R383, R384). -/
def Device.cmdTokens (s : Device) (d q : Nat) (c : List Byte) : List Nat :=
  let op := fld c 0 1
  if op = 0x06 then [fld (s.moveBytes d q (cmdIndex c)) 16 2, fld (s.moveBytes d q (cmdIndex c)) 18 2]
  else if op = 0x0A ∨ op = 0x0B ∨ op = 0 ∨ op = 0x10 ∨ op = 0x11 then [] else [fld c 2 2]

def Device.programsBad (s : Device) (d q : Nat) : List Rec :=
  let b := s.sec 0x19 d q 255
  let cs := s.programCmds d q
  let e (i : Nat) : Rec := { s.refusal Code.jobProgramInvalid (dpQuad d q 0) 0 [(4, i)] with posKind := 4, pos := i % 65536 + 0xFF * 2 ^ 16 }
  if decide (cs.length = 0 ∨ 65536 < cs.length) || !zeros b 4 4 || !zeros b 264 56 || decide (b.length ≠ 320 + 16 * cs.length) then [e 0]
  else
    ((List.range cs.length).zip cs).filterMap (fun x =>
      if s.cmdBad d q (cs.length - 1) x.1 x.2 || (s.cmdTokens d q x.2).any s.tokenBad then some (e x.1) else none) ++
    (if deferBad cs [] then [e (cs.length - 1)] else [])

/-! ## The late steps (R346) -/

def allQuads : List (Nat × Nat) := (List.range 16).map (fun x => (x / 4, x % 4))
def allDies : List Nat := [0, 1, 2, 3]

/-- Steps 5 to 8 on the parsed image: the records of every failing item of steps 7 and 8, or of the first failing step
of 5 and 6. -/
def Device.admitLate (s : Device) : List Rec :=
  let s := { s with job := { s.job with stores := s.job.image } }
  if s.memoryBad then [s.refusal Code.jobStageMemory 0 0 []]
  else if s.tensorsBadDecl then [s.refusal Code.jobImageMalformed 0 0 []]
  else
    let tabs := allDies.flatMap s.tablesBad
    allQuads.flatMap (fun x => s.programsBad x.1 x.2) ++ tabs ++
      (if tabs.isEmpty then allDies.flatMap s.slotConflicts else []) ++ allDies.flatMap (fun d => s.windowsBad d tabs.isEmpty) ++
      (allQuads.flatMap (fun x => (List.range 4).flatMap (s.vecBad x.1 x.2))) ++
      allDies.flatMap s.epilogueBad ++
      allQuads.flatMap (fun x => s.vpassesBad x.1 x.2 ++ s.fieldsBad x.1 x.2 ++ s.movesBad x.1 x.2) ++
      allDies.flatMap s.attentionBad ++ allDies.flatMap s.toursBad ++ s.recipeBad (s.sectionRanges ++ s.ckptRanges) ++ s.planBad

/-- The job becomes REFUSED with the records written; the image is discarded (R346). -/
def Device.refuseImage (s : Device) (rs : List Rec) : Device :=
  let s := rs.foldl (fun s r => s.log1 r) s
  { s with
    job := { s.job with state := 4, received := 0, total := 0, image := [], checked := false }
    net := { s.net with statusDue := true } }

/-- Admission as far as the present service allows: steps 1 to 4 at any time, 5 to 8 in full service (R346). The staged image is
read once A0 is not parked (R54). -/
def Device.takeImage (s : Device) : Device :=
  if s.job.state ≠ 2 ∨ (s.job.checked = false ∧ (s.waitsForDie stagingBase).isSome) then s
  else
    let r := if s.job.checked then (none, s.job) else s.admitEarly
    match r.1 with
    | some f => s.refuseImage [f]
    | none =>
      let s := { s with job := r.2 }
      if s.boot.service ≠ 2 then s
      else
        match s.admitLate with
        | [] => { s with job := { s.job with state := 3 }, net := { s.net with statusDue := true } }
        | rs => s.refuseImage rs

/-- ADMISSION_COMPLETE (R346). -/
def execAdmissionComplete (s : State) : Host.Outcome State Fault Refusal := .next (s.onDev (fun d => d.takeImage))

/-! ## JOB_LOAD (R345) -/

/-- JOB_LOAD as it is delivered, on flow `k`; a refused load is answered by the caller, which the second component says. -/
def Device.jobLoad (s : Device) (k : Nat) (m : Msg) : Device × Option Nat :=
  let b := m.payload
  let off := fld b 0 8
  let total := fld b 8 8
  let data := (b.drop 16).take 8192
  let lenBad := decide (total < 4096 + trailerLen ∨ 2 ^ 30 < total)
  if 5 ≤ s.job.state ∧ s.job.state ≤ 7 then (s, some 17)
  else if off ≠ 0 ∧ s.job.state ≠ 1 then (s, some 0)
  else
    let s := if off = 0 then { s with job := { s.job with
      state := 1, received := 0, total := total, checked := false, image := [], loadFlow := k } } else s
    if lenBad ∨ off ≠ s.job.received ∨ total ≠ s.job.total ∨ total < off + data.length then
      (s.refuseImage [s.refusal Code.jobImageMalformed 0 0 []], none)
    else
      let s := s.write (stagingBase + off) data
      let got := off + data.length
      ({ s with
         job := { s.job with received := got, state := if got = total then 2 else 1 }
         net := { s.net with statusDue := true } }, none)

end Sys2Proof.Machine
end

