-- ==== Sys2Proof/Machine/Program.lean ====
section
/-! DEFINITION. Job programs: how each play takes its commands, what each command does, deferred work and stage transfers
(R121, R128 to R130, R146, R183, R212, R213, R216, R236, R354 to R361, R382 to R384). -/

namespace Sys2Proof.Machine

/-! ## Taking commands (R354, R356) -/

def cmdOp (c : List Byte) : Nat := fld c 0 1

/-- The next command of a play: MOVE, TOUR and SEAL carry play 0 and are taken in its order; STEP_END belongs to no
play (R356) (DEDUCED, assumption 26). -/
def Device.nextCmd (s : Device) (d q p : Nat) : Option (Nat × List Byte) :=
  let cs := s.programCmds d q
  ((List.range cs.length).zip cs).find? (fun e =>
    decide ((s.play d q p).pos ≤ e.1) && cmdPlay e.2 == p && cmdOp e.2 != 0x11)

/-- The command is the one the stored bytes spell. -/
def fits (op : Nat) (c : ProgCmd) (b : List Byte) : Bool :=
  fld b 0 1 == op && fld b 1 1 == c.play + (if c.deferred then 8 else 0) && fld b 2 2 == c.token && fld b 4 4 == c.index &&
    fld b 8 8 == c.imm.toNat

/-- The play stands at a WAIT, a RECV or a DRAIN it has reached. -/
def Play.stands (p : Play) : Bool := p.waiting.isSome || p.receiving || p.draining

/-- The place of a command its play can take now (DEDUCED, assumption 26). -/
def Device.canTake (s : Device) (op : Nat) (c : ProgCmd) : Option Nat :=
  if s.running && decide (c.d < 4) && decide (c.q < 4) && !(s.quad c.d c.q).ended && decide ((s.die c.d).power ≤ 1) &&
      !(s.play c.d c.q c.play).stands && !s.isHeld (.loadr c.d c.q c.play) then
    match s.nextCmd c.d c.q c.play with
    | some (i, b) => if fits op c b then some i else none
    | none => none
  else none

/-- The play goes on to the command after place `i`. -/
def Device.advance (s : Device) (d q p i : Nat) : Device :=
  s.modPlay d q p (fun x => { x with pos := i + 1, waiting := none, draining := false, receiving := false })

/-- Run a command that its play takes in place, if it can be taken. -/
def Device.take (s : Device) (op : Nat) (c : ProgCmd) (f : Device → Device) : Device :=
  match s.canTake op c with
  | some i => f (s.advance c.d c.q c.play i)
  | none => s

/-- A quadrant's context holds for a table or walk that could not start (R146, R236). -/
def Device.startHeld (s : Device) (d q k : Nat) : Bool := s.isHeld (.tableStart d q k) || s.isHeld (.walkStats d q k)

/-- A command that names a context waits while the context holds. -/
def Device.takeItem (s : Device) (op : Nat) (c : ProgCmd) (f : Device → Device) : Device :=
  if s.startHeld c.d c.q (c.play % 4) then s else s.take op c f

/-- A deferred command joins its play's queue; any other runs (R360). -/
def Device.takeOrDefer (s : Device) (op : Nat) (c : ProgCmd) (f : Device → Device) : Device :=
  if c.deferred then
    s.take op c (fun s => s.modPlay c.d c.q c.play (fun p => { p with deferredQ := p.deferredQ ++ [(op, c)] }))
  else s.takeItem op c f

/-! ## Issues (R121, R213, R384) -/

def Device.newIssue (s : Device) (kind : Nat) (c : ProgCmd) (members : List Nat) (held : Bool) (lens : List Nat) :
    Device × Issue :=
  let i : Issue := ⟨s.job.nextIssue, kind, c.index, c.play % 4, c.play, c.token, members, c.deferred, held, lens, none⟩
  let s := { s with job := { s.job with nextIssue := s.job.nextIssue + 1 } }
  (s.modQuad c.d c.q (fun x => { x with issues := x.issues ++ [i] }), i)

/-- LOOP_ACTUAL_LENGTH_INVALID of a table or walk record (R146, R216). -/
def Device.lengthHold (s : Device) (c : ProgCmd) (number reg value limit : Nat) : Device :=
  let k := c.play % 4
  s.hold ⟨Code.loopActualLengthInvalid, 1, dpQuad c.d c.q (k % 2), 0, 4, number + 0xFF0000, 0,
    [(1, reg), (4, value), (4, limit)], 4 + c.d, 2⟩ (.tableStart c.d c.q k)

/-- The first kind whose length register is above its coverage: register, value, coverage (R128, R146). -/
def Device.badLength (s : Device) (d q : Nat) (tab : LoopTable) : Option (Nat × Nat × Nat) :=
  [0, 1, 2].findSome? (fun kind =>
    match tab.lenReg kind with
    | some r =>
      let v := (Tab.get 0 (s.quad d q).regs r).toNat
      if tab.coverage kind < v then some (r, v, tab.coverage kind) else none
    | none => none)

/-- Each member counts an empty table (R130, R148). -/
def Device.countEmpty (s : Device) (d q : Nat) (members : List Nat) : Device :=
  members.foldl (fun s c => (s.bumpLoop (gOf d q c) 0 1).bumpLoop (gOf d q c) 1 1) s

/-- FLD_EMPTY_OUTPUT of a table: the first axis whose num is negative (R183). -/
def Device.emptyOutput (s : Device) (d q number : Nat) (w : Window) : Device :=
  let axes := (List.range 3).zip [w.x, w.y, w.z]
  let axis := match axes.find? (fun e => decide (e.2.num < 0)) with | some e => e.1 | none => 0xFF
  s.log1 ⟨Code.fldEmptyOutput, 0, dpQuad d q 0, 0, 4, number + 0xFF0000, 0, [(1, axis)], 4 + d, 2⟩

/-- A table starts on its members: each walks from its first unskipped point (R121, R128, R129). -/
def Device.startTable (s : Device) (c : ProgCmd) (tab : LoopTable) (lenM lenN lenK : Nat) : Device :=
  let members := maskMembers tab.mask
  let (s, i) := s.newIssue 1 c members false [lenM, lenN, lenK]
  members.foldl (fun s m =>
    let g := gOf c.d c.q m
    let t : TableRun := ⟨i.id, tab.number, lenM, lenN, lenK, rankIn tab.mask m, 0, 0, 0⟩
    let nx := t.nextFrom tab 0
    ((s.pushItem g c.play (.table { t with pos := nx.1.getD tab.points })).bumpLoop g 0 1).bumpLoop g 2 nx.2) s

/-- TABLE (R121, R128, R130, R146, R183). An empty table starts, and so completes, at its issue: it is counted and its token
posted there, whatever stands before it in its context (DESIGN CHOICE, assumption 84). -/
def Device.issueTable (s : Device) (c : ProgCmd) : Device :=
  let tab := s.table c.d c.index
  let w := s.window c.d c.index
  let regs := (s.quad c.d c.q).regs
  let members := maskMembers tab.mask
  match s.badLength c.d c.q tab with
  | some (r, v, limit) => (s.newIssue 1 c members true []).1.lengthHold c tab.number r v limit
  | none =>
    let lenM := effLen tab w regs 0
    let lenN := effLen tab w regs 1
    let noOut := match w with | some v => decide (v.pOut = 0) | none => false
    if noOut || decide (lenM = 0) || decide (lenN = 0) then
      let s := match w with
        | some v => if v.pOut = 0 then
            members.foldl (fun (s : Device) m => s.bumpField (gOf c.d c.q m) 4 1) (s.emptyOutput c.d c.q tab.number v) else s
        | none => s
      (s.countEmpty c.d c.q members).post c.token
    else s.startTable c tab lenM lenN (effLen tab w regs 2)

def execTable (c : ProgCmd) (s : State) : Host.Outcome State Fault Refusal :=
  .next (s.onDev (fun d => d.takeOrDefer 0x01 c (fun d => d.issueTable c)))

/-- Every member has finished its last readout and output word (R121). -/
def Device.tableFinished (s : Device) (d q : Nat) (i : Issue) : Bool :=
  i.members.all (fun c =>
    let g := gOf d q c
    let x := s.ctx g i.ctx
    (match findTable (x.items ++ x.other) i.id with
     | some t => t.done (s.table d t.num) && decide (t.outstanding = 0)
     | none => true))

/-- TABLE_COMPLETE (R121). -/
def Device.tableComplete (s : Device) (d q k : Nat) : Device :=
  match (s.quad d q).issues.find? (fun i => i.kind == 1 && i.ctx == k && !i.statsHeld && s.tableFinished d q i) with
  | none => s
  | some i => s.endIssue d q i

def execTableComplete (d q ctx : Nat) (s : State) : Host.Outcome State Fault Refusal :=
  .next (s.onDev (fun v => v.tableComplete d q ctx))

/-- The members of a walk record get their runs (R213, R222). -/
def Device.startWalk (s : Device) (d q : Nat) (i : Issue) : Device :=
  let w := s.walkRec d i.index
  i.members.foldl (fun s m =>
    s.pushItem (gOf d q m) i.play (.walk (s.newWalk d w i.id (i.lens.headD 0) (rankIn w.mask m) i.members.length))) s

/-- The statistics a walk of kind 1 or 2 reads are valid (R236). -/
def Device.statsOk (s : Device) (d : Nat) (w : WalkRec) : Bool := w.kind == 0 || (s.die d).statsValid.contains w.forward

/-- ATT_STATS_MISSING: the walk issues nothing (R236). -/
def Device.statsHold (s : Device) (d q k : Nat) (w : WalkRec) : Device :=
  s.hold ⟨Code.attStatsMissing, 1, dpQuad d q (k % 2), 0, 4, w.number + 0xFF0000, 0, [(2, w.number), (2, w.forward)], 4 + d, 2⟩
    (.walkStats d q k)

/-- WALK (R213, R216, R236). -/
def Device.issueWalk (s : Device) (c : ProgCmd) : Device :=
  let w := s.walkRec c.d c.index
  let nAct := (Tab.get 0 (s.quad c.d c.q).regs w.reg).toNat
  let members := maskMembers w.mask
  let limit := (s.geometry c.d).nCap
  if limit < nAct then (s.newIssue 2 c members true [nAct]).1.lengthHold c w.number w.reg nAct limit
  else if !s.statsOk c.d w then (s.newIssue 2 c members true [nAct]).1.statsHold c.d c.q (c.play % 4) w
  else
    let (s, i) := s.newIssue 2 c members false [nAct]
    s.startWalk c.d c.q i

def execWalk (c : ProgCmd) (s : State) : Host.Outcome State Fault Refusal :=
  .next (s.onDev (fun d => d.takeItem 0x02 c (fun d => d.issueWalk c)))

/-- The cluster a VPASS or FIELD names (R355). -/
def cmdCluster (c : ProgCmd) : Nat := c.imm.toNat % 64

/-- A vector pass or field descriptor joins the play's context of its cluster. -/
def Device.issueRows (s : Device) (c : ProgCmd) (field : Bool) : Device :=
  let (s, i) := s.newIssue (if field then 4 else 3) c [(cmdCluster c)] false []
  s.pushItem (gOf c.d c.q (cmdCluster c)) c.play (.rows ⟨i.id, field, c.index, 0, 0, false, 0, false⟩)

/-- VPASS (R355). -/
def execVpass (c : ProgCmd) (s : State) : Host.Outcome State Fault Refusal :=
  .next (s.onDev (fun d => d.takeOrDefer 0x03 c (fun d => d.issueRows c false)))

/-- FIELD (R194): a descriptor without boxes writes nothing and completes (R198). -/
def Device.issueField (s : Device) (c : ProgCmd) : Device :=
  let g := gOf c.d c.q (cmdCluster c)
  if (s.fieldDesc c.d c.q c.index).rows = 0 then
    ((s.bumpField g 4 1).log1 { Rec.ofCluster Code.fldEmptyOutput g 2 (c.play % 4) 0xFF with key := 1 }).post c.token
  else s.issueRows c true

def execField (c : ProgCmd) (s : State) : Host.Outcome State Fault Refusal :=
  .next (s.onDev (fun d => d.takeItem 0x04 c (fun d => d.issueField c)))

/-- SEAL (R212): it runs, or waits in order for the walks that use its pages. -/
def Device.issueSeal (s : Device) (c : ProgCmd) : Device :=
  if (s.quad c.d c.q).seals.isEmpty && !s.sealBlocked c.d c.q c.index then s.runSeal c.d c.q c.index c.token
  else s.modQuad c.d c.q (fun x => { x with seals := x.seals ++ [(c.index, c.token)] })

def execSeal (c : ProgCmd) (s : State) : Host.Outcome State Fault Refusal :=
  .next (s.onDev (fun d => d.take 0x05 c (fun d => d.issueSeal c)))

/-- MOVE (R46, R355): up to 64 moves are outstanding in a quadrant. -/
def Device.takeMove (s : Device) (c : ProgCmd) : Device :=
  if 64 ≤ (s.quad c.d c.q).moves.length then s
  else s.take 0x06 c (fun s => s.modQuad c.d c.q (fun x => { x with moves := x.moves ++ [⟨c.index, c.play, 0, none, false, false⟩] }))

def execMove (c : ProgCmd) (s : State) : Host.Outcome State Fault Refusal :=
  .next (s.onDev (fun d => d.takeMove c))

/-- TOUR (R251): the tour waits in the sequencer's order. -/
def execTour (c : ProgCmd) (s : State) : Host.Outcome State Fault Refusal :=
  .next (s.onDev (fun d => d.take 0x07 c (fun d => d.modDie c.d (fun x => { x with tours := x.tours ++ [(c.index, c.token)] }))))

/-! ## Waits, posts and registers (R355, R382, R383) -/

/-- WAIT: the play goes on if the token is posted, else it stands (R382). -/
def Device.wait (s : Device) (c : ProgCmd) : Device :=
  if c.deferred then s.takeOrDefer 0x08 c id
  else
    match s.canTake 0x08 c with
    | none => s
    | some i =>
      if s.tokenMet c.token c.index then (s.takeToken c.token).advance c.d c.q c.play i
      else s.modPlay c.d c.q c.play (fun p => { p with waiting := some c })

def execWait (c : ProgCmd) (s : State) : Host.Outcome State Fault Refusal :=
  .next (s.onDev (fun d => d.wait c))

/-- WAIT_SATISFIED (R382, R383). -/
def Device.waitSatisfied (s : Device) (d q p : Nat) : Device :=
  match (s.play d q p).waiting, s.nextCmd d q p with
  | some c, some (i, _) =>
    if s.running && s.tokenMet c.token c.index then (s.takeToken c.token).advance d q p i else s
  | _, _ => s

def execWaitSatisfied (d q play : Nat) (s : State) : Host.Outcome State Fault Refusal :=
  .next (s.onDev (fun v => v.waitSatisfied d q play))

/-- POST (R382, R383). -/
def execPost (c : ProgCmd) (s : State) : Host.Outcome State Fault Refusal :=
  .next (s.onDev (fun d => d.take 0x09 c (fun d => d.post c.token)))

/-- NOP (R355). -/
def execProgramNop (c : ProgCmd) (s : State) : Host.Outcome State Fault Refusal :=
  .next (s.onDev (fun d => d.take 0x00 c id))

def Device.setReg (s : Device) (c : ProgCmd) (w : Word) : Device :=
  s.modQuad c.d c.q (fun x => { x with regs := Tab.set 0 x.regs (c.token % 64) w })

/-- SETR (R355). -/
def execSetr (c : ProgCmd) (s : State) : Host.Outcome State Fault Refusal :=
  .next (s.onDev (fun d => d.take 0x0A c (fun d => d.setReg c (BitVec.ofNat 32 c.imm.toNat))))

/-- The 48-bit address of a command. -/
def cmdAddr (c : ProgCmd) : Nat := c.imm.toNat % 2 ^ 48

/-- LOADR (R355): a read of an address without memory holds the play (R33); a parked die's memory is waited for (R54). -/
def Device.loadr (s : Device) (c : ProgCmd) : Device :=
  if (s.canTake 0x0B c).isNone || s.startHeld c.d c.q (c.play % 4) || s.readWaits (cmdAddr c) 4 ||
      !s.sound (cmdAddr c) 4 then s
  else if !s.backed (cmdAddr c) 4 then
    s.unbacked (cmdAddr c) false (dpQuad c.d c.q (c.play % 2)) 0 (4 + c.d) (.tableStart c.d c.q (c.play % 4))
  else s.take 0x0B c (fun s => s.setReg c (BitVec.ofNat 32 (s.readNat (cmdAddr c) 4)))

def execLoadr (c : ProgCmd) (s : State) : Host.Outcome State Fault Refusal :=
  .next (s.onDev (fun d => d.loadr c))

/-! ## Stage transfers (R355, R358) -/

/-- The SEND or RECV commands of a type in the static order: die, quadrant, place and length (R358) (DEDUCED, assumption 28). -/
def Device.stageCmds (s : Device) (op : Nat) : List (Nat × Nat × Nat × Nat) :=
  (List.range 16).flatMap (fun x =>
    let cs := s.programCmds (x / 4) (x % 4)
    ((List.range cs.length).zip cs).filterMap (fun e =>
      if cmdOp e.2 = op then some (x / 4, x % 4, e.1, cmdIndex e.2) else none))

def sendOp (grad : Bool) : Nat := if grad then 0x0D else 0x0C
def recvOp (grad : Bool) : Nat := if grad then 0x0F else 0x0E
def typeKey (grad : Bool) : Nat := if grad then 1 else 0

/-- The transfer number of the command at a place. -/
def Device.transferNumber (s : Device) (op d q i : Nat) : Nat :=
  (s.stageCmds op).findIdx (fun e => e.1 == d && e.2.1 == q && e.2.2.1 == i)

/-- The flow a type's messages leave on, and the one they arrive on (R355, R416). -/
def Device.stageOut (s : Device) (grad : Bool) : Nat := flowKey ((s.pairOf (if grad then 6 else 7)).getD 9) (384 + typeKey grad) 0
def Device.stageIn (s : Device) (grad : Bool) : Nat := flowKey ((s.pairOf (if grad then 7 else 6)).getD 9) (384 + typeKey grad) 0

/-- The type's transfers handed over, or received, so far; transfers of no bytes need no message. -/
def skipEmpty (l : List (Nat × Nat × Nat × Nat)) (n : Nat) : Nat := n + ((l.drop n).takeWhile (fun e => e.2.2.2 == 0)).length
def Device.sendsDone (s : Device) (grad : Bool) : Nat :=
  skipEmpty (s.stageCmds (sendOp grad)) (Tab.get 0 s.job.sent (typeKey grad))
def Device.recvsDone (s : Device) (grad : Bool) : Nat :=
  skipEmpty (s.stageCmds (recvOp grad)) (Tab.get 0 s.job.received2 (typeKey grad))

def transferOf (c : ProgCmd) (grad send : Bool) (number : Nat) : Transfer :=
  ⟨grad, send, number, (cmdAddr c), c.index, 0, c.token, c.d, c.q, c.play⟩

/-- SEND_ACT and SEND_GRAD: the transfer starts once every lower one of its type is handed to its port (R358)
(DEDUCED, assumption 28). -/
def Device.sendStage (s : Device) (c : ProgCmd) (grad : Bool) : Device :=
  match s.canTake (sendOp grad) c with
  | none => s
  | some i =>
    let n := s.transferNumber (sendOp grad) c.d c.q i
    if c.index = 0 then (s.advance c.d c.q c.play i).post c.token
    else if s.sendsDone grad ≠ n then s
    else
      let s := s.advance c.d c.q c.play i
      { s with job := { s.job with transfers := s.job.transfers ++ [transferOf c grad true n] } }

def execSendAct (c : ProgCmd) (s : State) : Host.Outcome State Fault Refusal :=
  .next (s.onDev (fun d => d.sendStage c false))
def execSendGrad (c : ProgCmd) (s : State) : Host.Outcome State Fault Refusal :=
  .next (s.onDev (fun d => d.sendStage c true))

/-- Bytes granted on a stage flow while its RECV is reached (DESIGN CHOICE, assumption 12). -/
def stageGrant : Nat := 0x100000

/-- Credit is granted only while the RECV of the transfer due has been reached (R358). -/
def Device.grantStage (s : Device) (grad : Bool) : Device :=
  let open' := s.job.transfers.any (fun t => t.grad == grad && !t.send && t.number == s.recvsDone grad)
  if s.isHeld (.stageFlow grad) then s
  else s.grantFlow (s.stageIn grad) (if open' then stageGrant else 0)

/-- RECV_ACT and RECV_GRAD: reception opens and the play stands until the last byte is written (R355, R358). -/
def Device.recvStage (s : Device) (c : ProgCmd) (grad : Bool) : Device :=
  match s.canTake (recvOp grad) c with
  | none => s
  | some i =>
    if c.index = 0 then (s.advance c.d c.q c.play i).post c.token
    else
      let n := s.transferNumber (recvOp grad) c.d c.q i
      let s := s.modPlay c.d c.q c.play (fun p => { p with receiving := true })
      ({ s with job := { s.job with transfers := s.job.transfers ++ [transferOf c grad false n] } }).grantStage grad

def execRecvAct (c : ProgCmd) (s : State) : Host.Outcome State Fault Refusal :=
  .next (s.onDev (fun d => d.recvStage c false))
def execRecvGrad (c : ProgCmd) (s : State) : Host.Outcome State Fault Refusal :=
  .next (s.onDev (fun d => d.recvStage c true))

def putTransfer (l : List Transfer) (t : Transfer) : List Transfer :=
  l.map (fun x => if x.grad = t.grad ∧ x.send = t.send ∧ x.number = t.number then t else x)
def dropTransfer (l : List Transfer) (t : Transfer) : List Transfer :=
  l.filter (fun x => !(x.grad == t.grad && x.send == t.send && x.number == t.number))

/-- STAGE_MESSAGE_SEND (R358): the token is posted when the last byte is handed to the port. -/
def Device.stageSend (s : Device) (grad : Bool) : Device :=
  match s.job.transfers.find? (fun t => t.grad == grad && t.send) with
  | none => s
  | some t =>
    let n := min 8192 (t.len - t.offset)
    let a := t.addr + t.offset
    let k := t.play % 4
    if !s.running || !s.hasCredit (s.stageOut grad) (16 + n) || s.readWaits a n || !s.sound a n || s.startHeld t.d t.q k ||
        s.isHeld (.stageSend grad) then s
    else if !s.backed a n then s.unbacked a false (dpQuad t.d t.q (k % 2)) 0 (4 + t.d) (.tableStart t.d t.q k)
    else
      let last := decide (t.offset + n = t.len)
      let s := s.send (s.stageOut grad) (if grad then 0x35 else 0x34) last 0 0 0
        (leBytes 4 (s.job.step % 2 ^ 32) ++ leBytes 4 t.number ++ leBytes 8 t.offset ++ s.read a n)
      let s := s.bumpJob 8 n
      if last then
        ({ s with job := { s.job with
          transfers := dropTransfer s.job.transfers t
          sent := Tab.set 0 s.job.sent (typeKey grad) (t.number + 1) } }).post t.token
      else { s with job := { s.job with transfers := putTransfer s.job.transfers { t with offset := t.offset + n } } }

def execStageMessageSend (grad : Bool) (s : State) : Host.Outcome State Fault Refusal :=
  .next (s.onDev (fun d => d.stageSend grad))

/-- JOB_STAGE_UNEXPECTED (R358). -/
def Device.stageUnexpected (s : Device) (grad : Bool) (m : Msg) : Device :=
  (s.hold ⟨Code.jobStageUnexpected, 1, dpPort m.port m.flow, s.ctlPort m.port, 7,
    m.flow * 2 ^ 32 + m.seq.toNat, 0, [(2, m.flow)], s.portDomain m.port, 2⟩ (.stageFlow grad)).grantFlow (s.stageIn grad) 0

/-- STAGE_ACT or STAGE_GRAD as it is delivered (R358, R370). -/
def Device.onStage (s : Device) (grad : Bool) (m : Msg) : Device × Bool :=
  let b := m.payload
  let data := b.drop 16
  let due := s.recvsDone grad
  let over' := decide ((s.stageCmds (recvOp grad)).length ≤ due)
  let step := s.job.step + (if over' then 1 else 0)
  let number := if over' then 0 else due
  if s.job.discarding && s.cancelledMsg (fld b 0 4) then (s, true)
  else if s.isHeld (.stageFlow grad) then (s, false)
  else
    match s.job.transfers.find? (fun t => t.grad == grad && !t.send && t.number == number && !over') with
    | none =>
      if fld b 0 4 = step % 2 ^ 32 ∧ fld b 4 4 = number ∧ fld b 8 8 = 0 then (s, false)
      else (s.stageUnexpected grad m, false)
    | some t =>
      if fld b 0 4 ≠ step % 2 ^ 32 ∨ fld b 4 4 ≠ number ∨ fld b 8 8 ≠ t.offset ∨ t.len < t.offset + data.length then
        (s.stageUnexpected grad m, false)
      else
        let a := t.addr + t.offset
        if s.writeWaits a data.length then (s, false)
        else if !s.writable a data.length then
          (s.unbacked a (s.backed a data.length) (dpQuad t.d t.q (t.play % 2)) 0 (4 + t.d) (.stageFlow grad), false)
        else
          let s := (s.write a data).bumpJob 9 data.length
          if t.offset + data.length = t.len then
            let s := { s with job := { s.job with
              transfers := dropTransfer s.job.transfers t
              received2 := Tab.set 0 s.job.received2 (typeKey grad) (t.number + 1) } }
            let s := match s.nextCmd t.d t.q t.play with
              | some (i, _) => s.advance t.d t.q t.play i
              | none => s
            ((s.post t.token).grantStage grad, true)
          else
            ({ s with job := { s.job with
              transfers := putTransfer s.job.transfers { t with offset := t.offset + data.length } } }, true)

/-! ## Deferred work (R355, R360) -/

/-- A deferred item of the play is issued and not complete. -/
def Device.deferredBusy (s : Device) (d q p : Nat) : Bool := (s.quad d q).issues.any (fun i => i.deferred && i.play == p)

def Device.drained (s : Device) (d q p : Nat) : Bool := (s.play d q p).deferredQ.isEmpty && !s.deferredBusy d q p

/-- DRAIN (R355). -/
def Device.drainCmd (s : Device) (c : ProgCmd) : Device :=
  match s.canTake 0x10 c with
  | none => s
  | some i =>
    if s.drained c.d c.q c.play then s.advance c.d c.q c.play i
    else s.modPlay c.d c.q c.play (fun p => { p with draining := true })

def execDrain (c : ProgCmd) (s : State) : Host.Outcome State Fault Refusal :=
  .next (s.onDev (fun d => d.drainCmd c))

/-- DRAIN_SATISFIED (R355). -/
def Device.drainSatisfied (s : Device) (d q p : Nat) : Device :=
  match s.nextCmd d q p with
  | some (i, _) => if (s.play d q p).draining && s.drained d q p && s.running then s.advance d q p i else s
  | none => s

def execDrainSatisfied (d q play : Nat) (s : State) : Host.Outcome State Fault Refusal :=
  .next (s.onDev (fun v => v.drainSatisfied d q play))

/-- The play's main line is blocked (R360) (DEDUCED, assumption 27). -/
def Device.blocked (s : Device) (d q p : Nat) : Bool :=
  match s.nextCmd d q p with
  | none => !(s.quad d q).ended
  | some (_, b) =>
    if cmdOp b = 0x08 then !s.tokenMet (fld b 2 2) (cmdIndex b)
    else decide (cmdOp b = 0x0E ∨ cmdOp b = 0x0F ∨ cmdOp b = 0x10)

/-- DEFERRED_ISSUE (R360): the head of the queue is issued, or its WAIT is satisfied. -/
def Device.deferredIssue (s : Device) (d q p : Nat) : Device :=
  match (s.play d q p).deferredQ with
  | [] => s
  | (op, c) :: rest =>
    if !s.running || !s.blocked d q p || s.deferredBusy d q p || s.startHeld d q (p % 4) then s
    else
      let t := s.modPlay d q p (fun x => { x with deferredQ := rest })
      if op = 0x08 then (if s.tokenMet c.token c.index then t.takeToken c.token else s)
      else if op = 0x01 then (t.bumpJob 7 1).issueTable c
      else (t.bumpJob 7 1).issueRows c false

def execDeferredIssue (d q play : Nat) (s : State) : Host.Outcome State Fault Refusal :=
  .next (s.onDev (fun v => v.deferredIssue d q play))

/-! ## The end of the step body (R356) -/

/-- STEP_END: every play has taken every command before it, the deferred ones included (DEDUCED, assumption 27). -/
def Device.stepEnd (s : Device) (c : ProgCmd) : Device :=
  let cs := s.programCmds c.d c.q
  let all := (List.range 8).all (fun p =>
    (s.nextCmd c.d c.q p).isNone && !(s.play c.d c.q p).stands && (s.play c.d c.q p).deferredQ.isEmpty)
  match cs.getLast? with
  | some b =>
    if s.running && fits 0x11 c b && all && decide (c.d < 4) && decide (c.q < 4) && decide ((s.die c.d).power ≤ 1) then
      s.modQuad c.d c.q (fun x => { x with ended := true })
    else s
  | none => s

def execStepEnd (c : ProgCmd) (s : State) : Host.Outcome State Fault Refusal :=
  .next (s.onDev (fun d => d.stepEnd c))

end Sys2Proof.Machine
end

