-- ==== Sys2Proof/Machine/Oper.lean ====
section
/-! DEFINITION. Long operations: handles and states, the host's commands on them, suspension and its causes, the step cancel
and the stop points (R365 to R370, R337, R264). -/

namespace Sys2Proof.Machine

/-! ## Handles and states (R365, R367, R368) -/

def opKind (h : Nat) : Nat := h / 2 ^ 24

/-- The next serial of a kind: from 1, after 0xFFFFFF 1 again, skipping a serial whose operation is live. -/
def Device.nextSerial (s : Device) (kind : Nat) : Nat :=
  let start := Tab.get 0 s.serials kind
  let cand (i : Nat) : Nat := (start + i) % 0xFFFFFF + 1
  ((List.range 8).map cand).find? (fun n => !s.ops.any (fun o => o.handle == kind * 2 ^ 24 + n)) |>.getD (cand 0)

/-- A new live operation. -/
def Device.newOp (s : Device) (kind total lo hi : Nat) : Device × Op :=
  let n := s.nextSerial kind
  let o : Op := ⟨kind * 2 ^ 24 + n, 0, 0, false, 0, 0, total, s.job.step, lo, hi, lo⟩
  ({ s with ops := s.ops ++ [o], serials := Tab.set 0 s.serials kind n }, o)

def Device.liveOp (s : Device) (kind : Nat) : Option Op := s.ops.find? (fun o => opKind o.handle == kind)

/-- The operation a handle names; serial 0 names the live one of its kind (of several, the latest), else the one that ended
last (R365). -/
def Device.findOp (s : Device) (h : Nat) : Option Op :=
  if h = 0 then none
  else if h % 2 ^ 24 = 0 then
    match (s.ops.filter (fun o => opKind o.handle == opKind h)).getLast? with
    | some o => some o
    | none => (s.endedOps.filter (fun o => opKind o.handle == opKind h)).getLast?
  else
    match s.ops.find? (fun o => o.handle == h) with
    | some o => some o
    | none => (s.endedOps.filter (fun o => o.handle == h)).getLast?

def Device.modOp (s : Device) (h : Nat) (f : Op → Op) : Device :=
  { s with ops := s.ops.map (fun o => if o.handle = h then f o else o) }

/-- An operation ends; the final states of the last 256 are kept (R365). -/
def Device.endOp (s : Device) (h state reason code : Nat) : Device :=
  match s.ops.find? (fun o => o.handle == h) with
  | none => s
  | some o =>
    let l := s.endedOps ++ [{ o with state := state, reason := reason, code := code }]
    { s with ops := s.ops.filter (fun x => x.handle != h), endedOps := l.drop (l.length - 256) }

/-- Stop points passed: array passes for a training step, records or chunks for the rest (R368). -/
def Device.passedOf (s : Device) (o : Op) : Nat :=
  if opKind o.handle = 1 ∧ o.state ≤ 3 then (s.quads.map (fun e => e.2.passes)).foldl (· + ·) 0 else o.passed

/-- An OP_STATE payload (R368). -/
def opBytes (handle state reason code passed total step : Nat) : List Byte :=
  leBytes 4 handle ++ [BitVec.ofNat 8 state, BitVec.ofNat 8 reason] ++ leBytes 2 code ++ leBytes 8 passed ++ leBytes 8 total ++
    leBytes 8 step

def Device.opState (s : Device) (o : Op) (code : Nat) : List Byte :=
  opBytes o.handle o.state o.reason (if code = 0 then (if o.code = 0 then 0 else Code.wire o.code) else Code.wire code)
    (s.passedOf o) o.total o.step

/-- Answer a request with an operation's state. -/
def Device.answerOp (s : Device) (k : Nat) (o : Op) : Device := s.send k 0x15 false o.handle 0 0 (s.opState o 0)

/-- A record about an operation, or about no item. -/
def Device.opRec (s : Device) (code handle tag : Nat) : Rec :=
  { s.refusal code 0 tag [] with severity := Code.severity code, posKind := if handle = 0 then 0 else 6, pos := handle }

/-- A request that is not applicable: a record of severity information and an OP_STATE with the code (R367, R379). -/
def Device.refuseOp (s : Device) (k handle tag code : Nat) : Device :=
  let s := s.log1 (s.opRec code handle tag)
  s.send k 0x15 false handle 0 0
    (match s.findOp handle with
     | some o => s.opState o code
     | none => opBytes handle 0xFF 0 (Code.wire code) 0 0 s.job.step)

/-! ## Suspension (R366, R367, R369) -/

/-- A cause outside the host's commands that keeps a step suspended: 3 Standoff, 2 shed level 4, 1 the host's Attend grant. -/
def Device.forcedReason (s : Device) : Nat :=
  if s.standoff then 3 else if 4 ≤ s.power.level then 2 else if s.panel.removing then 1 else 0

/-- Bring the step's operation in line with the causes that last. -/
def Device.settleStep (s : Device) : Device :=
  match s.stepOp with
  | none => s
  | some o =>
    if 2 < o.state then s
    else
      let why := if s.forcedReason ≠ 0 then s.forcedReason else if o.hostSuspended then 1 else 0
      s.modOp o.handle (fun o => if why = 0 then { o with state := 0, reason := 0 }
        else { o with state := max 1 o.state, reason := why })

/-- A checkpoint in progress stops at shed level 4 and resumes when the level is undone (R375); the generation that the level
itself writes does not stop. -/
def Device.settleThermos (s : Device) : Device :=
  match s.liveOp 2 with
  | none => s
  | some o =>
    if 2 < o.state ∨ o.lo = 1 then s
    else
      let why := if 4 ≤ s.power.level then 2 else if o.hostSuspended then 1 else 0
      s.modOp o.handle (fun o => if why = 0 then { o with state := 0, reason := 0 }
        else { o with state := max 1 o.state, reason := why })

def Device.settleOps (s : Device) : Device := s.settleStep.settleThermos

/-- Set the host's suspension of an operation. -/
def Device.hostSuspend (s : Device) (o : Op) (on : Bool) : Device :=
  let s := s.modOp o.handle (fun o => { o with hostSuspended := on })
  if opKind o.handle = 1 ∨ opKind o.handle = 2 then s.settleOps
  else s.modOp o.handle (fun o => if on then { o with state := max 1 o.state, reason := 1 } else { o with state := 0, reason := 0 })

/-- The handle a request names: bytes 0 to 3, with zeros to byte 7 (R424). -/
def requestHandle (m : Msg) : Nat := fld m.payload 0 4
def requestOk (m : Msg) : Bool := decide (m.payload.length = 8) && zeros m.payload 4 4

/-- The live operation a command may act on; any other command is refused (R367). -/
def Device.onOp (s : Device) (k : Nat) (m : Msg) (allowed : Op → Bool) (f : Device → Op → Device) : Device :=
  match s.findOp (requestHandle m) with
  | some o =>
    if requestOk m && decide (o.state ≤ 3) && allowed o then
      let s := f s o
      match s.findOp o.handle with
      | some o => s.answerOp k o
      | none => s
    else s.refuseOp k (requestHandle m) 0 Code.jobOpRefused
  | none => s.refuseOp k (requestHandle m) 0 Code.jobOpRefused

/-- OP_SUSPEND as it is delivered; a quote refuses it (R366). -/
def Device.onSuspend (s : Device) (k : Nat) (m : Msg) : Device :=
  s.onOp k m (fun o => decide (o.state ≤ 2) && opKind o.handle != 6) (fun s o => s.hostSuspend o true)

/-- OP_RESUME as it is delivered. -/
def Device.onResume (s : Device) (k : Nat) (m : Msg) : Device :=
  s.onOp k m (fun o => decide (o.state ≤ 2)) (fun s o => s.hostSuspend o false)

/-- OP_STATE as it is delivered. -/
def Device.onOpState (s : Device) (k : Nat) (m : Msg) : Device :=
  match s.findOp (requestHandle m) with
  | some o => if requestOk m then s.answerOp k o else s.refuseOp k (requestHandle m) 0 Code.jobOpRefused
  | none => s.refuseOp k (requestHandle m) 0 Code.jobOpRefused

/-! ## Cancelling a step (R264, R337, R370) -/

/-- The sequencer abandons its tour: every remote entry becomes empty and no token is posted (R264). The credit granted stands
until the RETRY, so that what still comes is discarded and counted (DEDUCED, assumption 33). -/
def Device.abandonTour (s : Device) (d : Nat) : Device :=
  s.modDie d (fun x => { x with
    tour := none, tours := []
    pages := x.pages.map (fun e => if e.2.owner = s.ringPos then e
      else (e.1, { e.2 with state := 0, lap := 0, slot := 0xFFFF, filled := 0, segLow := 0, segHigh := 0 })) })

/-- Records whose token the step took and did not release are released (R370). -/
def Device.releaseRecords (s : Device) : Device :=
  match s.recipe with
  | none => s
  | some r =>
    let taken := s.ingest.recordsDelivered - Tab.get 0 s.streamTokens r.token
    let released := s.ingest.slotsUsed + Tab.get 0 s.streamTokens r.release
    { s with streamTokens := Tab.set 0 s.streamTokens r.release (Tab.get 0 s.streamTokens r.release + (taken - released)) }

/-- A step with no update yet gives its rounds, gradient buffers and saturation counts up (R337). -/
def Device.dropReduction (s : Device) : Device :=
  let s := s.tensorRecs.foldl (fun s t => s.zero t.gradRange.lo (t.gradRange.lo + t.gradRange.len)) s
  let s := (List.range 4).foldl (fun s d => s.modDie d (fun x => { x with satCount := [] })) s
  let s := (List.range 2).foldl (fun s p => s.modPdie p (fun x => { x with
    sendTensor := 0, sendBundle := 0, own := [], rounds := [], ready := [], updated := 0 })) s
  { s with reduction := Reduction.reset }

/-- What is not issued is discarded: plays, deferred queues, waiting moves, seals and tours, and stage transfers (R370). -/
def Device.dropUnissued (s : Device) : Device :=
  let s := { s with quads := s.quads.map (fun e => (e.1, { e.2 with
    plays := [], moves := e.2.moves.filter (fun m => m.engine.isSome), seals := [] })) }
  let s := (List.range 4).foldl Device.abandonTour s
  { s with job := { s.job with transfers := [], sent := [], received2 := [] } }

/-- OP_CANCEL of the training step (R370). -/
def Device.cancelStep (s : Device) (o : Op) : Device :=
  let s := s.modOp o.handle (fun o => { o with state := 3, reason := 1 })
  let s := { s with job := { s.job with
    discarding := true, cancelled := s.job.updatedAny, cancelledStep := some s.job.step } }
  let s := s.dropUnissued.releaseRecords
  if s.job.cancelled then s else s.dropReduction

/-- OP_CANCEL as it is delivered: a quote is cancelled only before its signing begins (R366). -/
def Device.onCancel (s : Device) (k : Nat) (m : Msg) : Device :=
  s.onOp k m (fun o => opKind o.handle != 6 || o.next == 0) (fun s o =>
    if o.state = 3 then s
    else if opKind o.handle = 1 then s.cancelStep o
    else s.modOp o.handle (fun o => { o with state := 3, reason := 1 }))

/-! ## Stop points (R366, R367, R370) -/

/-- No pass, walk descriptor, vector group or invocation of the cluster is in flight. -/
def Cluster.quiet (c : Cluster) : Bool :=
  c.inFlight.isEmpty && c.epilogue.isEmpty && c.invocation.isNone && c.stopped.isEmpty &&
    c.ctxs.all (fun e => (e.2.items ++ e.2.other).all (fun i => match i with
      | .rows r => decide (r.next = r.granted)
      | .walk w => w.closing.isEmpty
      | .table _ => true))

/-- The module stands at a pass boundary: nothing issued to an array, a vector unit or a move engine is unfinished. -/
def Device.quiet (s : Device) : Bool :=
  s.clusters.all (fun e => e.2.quiet) && s.quads.all (fun e => e.2.moves.all (fun m => m.engine.isNone))

/-- Every stage message sent is acknowledged (R370). -/
def Device.stageAcked (s : Device) : Bool :=
  [false, true].all (fun g => let f := s.flow (s.stageOut g); f.unacked.isEmpty && f.waiting.isEmpty)

/-- Work a cancelled step leaves behind is forgotten: arrays and contexts empty, programs at their first command. -/
def Cluster.dropWork (c : Cluster) : Cluster :=
  { c with
    target := none, issuing := [], draining := [], readouts := [], queue := [], held := [], frames := [], ctxs := []
    epilogue := [], invocation := none, outbuf := [], sides := [], pipe := [], stopped := [] }

/-- Everything that belongs to one step starts over (R357, R370); job registers keep their values, and moves go on. -/
def Device.freshStep (s : Device) : Device :=
  let s := (List.range 4).foldl (fun s d => s.modDie d (fun x => { x with toursDone := 0, statsValid := [], walked := [], walksDone := [] })) s
  let s := (List.range 2).foldl (fun s p => s.modPdie p (fun x => { x with
    sendTensor := 0, sendBundle := 0, own := []
    rounds := x.rounds.filter (fun r => s.job.step ≤ r.step), updated := 0 })) s
  { s with
    quads := s.quads.map (fun e => (e.1, { e.2 with
      plays := [], ended := false, issues := [], seals := [], passes := 0, turns := [], playPasses := [] }))
    reduction := { Reduction.reset with expect := s.reduction.expect }
    job := { s.job with transfers := [], sent := [], received2 := [], updatedAny := false } }

/-- The step begins as an operation of its own (R366). -/
def Device.startStepOp (s : Device) : Device := (s.newOp 1 0 0 0).1.settleStep

/-- The cancelled step stops: it ends FAILED and the job becomes HELD (R370, R379). -/
def Device.stepFailed (s : Device) (o : Op) : Device :=
  let s : Device := if s.job.cancelled then { s with job := { s.job with step := s.job.step + 1 } } else s
  let s := { s with clusters := s.clusters.map (fun (e : Nat × Cluster) => (e.1, e.2.dropWork)) }
  let s := (s.freshStep.endOp o.handle 5 1 Code.jobOpCancelled).bumpJob 1 1
  let s := { s with job := { s.job with state := 7 }, net := { s.net with statusDue := true } }
  s.hold { s.opRec Code.jobOpCancelled o.handle 0 with severity := 1 } .job

/-- RETRY takes effect: nothing is discarded as of the cancelled step any more when its number runs again, and the carousel flows
grant nothing before their next tour (R255, R264, R370). -/
def Device.endCancel (s : Device) : Device :=
  let s := { s with
    job := { s.job with
      state := 6, discarding := false, cancelled := false
      cancelledStep := if s.job.cancelledStep = some s.job.step then none else s.job.cancelledStep }
    net := { s.net with statusDue := true } }
  (List.range 4).foldl (fun s d => s.grantCarousel d) s

/-- RETRY of a cancelled step: the job runs again from the programs' first commands (R370). -/
def Device.retryStep (s : Device) : Device := s.endCancel.startStepOp

/-- Zero the memories of R55 that a job start, job reset or warm reset clears, with scratch, tags and tables. -/
def Device.zeroCompute (s : Device) : Device :=
  { (s.zero 0 (4 * hbmSize)).zero winBase (winBase + 576 * 0x400000) with
    clusters := [], quads := []
    dies := s.dies.map (fun e => (e.1, { e.2 with
      pages := [], tours := [], tour := none, toursDone := 0, expo := [], clean := [], satCount := [], statsValid := [], walked := [], walksDone := [] })) }

/-- A start or restore that fails or is cancelled leaves the image admitted (R351, R376). -/
def Device.backToAdmitted (s : Device) : Device :=
  let s := s.zeroCompute
  { s with
    pdies := s.pdies.map (fun e => (e.1, { Pdie.reset with patrol := e.2.patrol, hot := e.2.hot }))
    reduction := Reduction.reset, stepTokens := [], streamTokens := []
    job := { s.job with state := 3, exchanging := false, answered := [], stores := [], firstStep := 0, step := 0 }
    net := { s.net with statusDue := true } }

/-- JOB_OP_CANCELLED of severity information (R379). -/
def Device.cancelledRec (s : Device) (h : Nat) : Rec := { s.opRec Code.jobOpCancelled h 0 with severity := 0 }

/-- The effect of a cancel at its stop point, by kind (R366). -/
def Device.cancelAt (s : Device) (o : Op) : Device :=
  let s := (s.log1 (s.cancelledRec o.handle)).endOp o.handle 5 1 Code.jobOpCancelled
  if opKind o.handle = 2 then
    let s := s.log1 (s.opRec Code.jobThermosIncomplete o.handle 0)
    { s with job := { s.job with thermosAsked := false } }
  else if opKind o.handle = 3 then
    match s.stepOp with
    | some p => (s.endOp p.handle 5 1 Code.jobOpCancelled).backToAdmitted
    | none => s.backToAdmitted
  else s

/-- OPERATION_STOP_POINT: SUSPENDING becomes SUSPENDED, CANCELLING becomes FAILED (R367). -/
def Device.stopPoint (s : Device) (h : Nat) : Device :=
  match s.ops.find? (fun o => o.handle == h) with
  | none => s
  | some o =>
    if o.state = 1 then
      if opKind h ≠ 1 || s.quiet then s.modOp h (fun o => { o with state := 2 }) else s
    else if o.state = 3 then
      if opKind h = 1 then
        if s.job.state = 6 ∧ s.quiet ∧ s.stageAcked ∧
            (!s.job.cancelled || s.reduction.readied.all s.reduction.tensorsDone.contains) then s.stepFailed o
        else s
      else s.cancelAt o
    else s

end Sys2Proof.Machine
end

