-- ==== Sys2Proof/Machine/Thermos.lean ====
section
/-! DEFINITION. The job reset, checkpoints (the thermos), their mirror and their restore (R351, R371 to R376, R434, R461,
R466). -/

namespace Sys2Proof.Machine

/-! ## The job reset (R351, R369, R461, R466) -/

/-- An INFER_REPLY of one message: a status and no data (R434). -/
def Device.inferStatus (s : Device) (k request status : Nat) : Device :=
  s.send k 0x24 true 0 0 0 (leBytes 4 request ++ [BitVec.ofNat 8 status] ++ List.replicate 11 0)

/-- Counters outside the port blocks return to zero (R118, R436). -/
def portCounter (off : Nat) : Bool := decide (0x20000 ≤ off) && decide (off < 0x30000)
def Device.clearCounters (s : Device) : Device := { s with counters := s.counters.filter (fun e => portCounter e.1) }

/-- Every held record of the job is decided; the resent and waiting messages its flows kept are given up (R491, R466). -/
def Device.endHolds (s : Device) : Device :=
  let s := s.log.holds.foldl (fun s h => if h.code = Code.bootStandoff then s else s.unhold h) s
  let s := { s with log := { s.log with retried := [] } }
  { s with net := { s.net with flows := s.net.flows.map (fun (e : Nat × Flow) =>
      (e.1, if flowClass (keyFlow e.1) ≤ 1 then { e.2 with held := false, rxHeld := false, resends := 0 }
            else { e.2 with held := false, rxHeld := false, resends := 0, unacked := [], waiting := [], buffer := [] })) } }

/-- The job's operations end FAILED (R369). -/
def Device.failOps (s : Device) (p : Op → Bool) : Device :=
  (s.ops.filter p).foldl (fun s o => s.endOp o.handle 5 4 Code.jobOpCancelled) s

/-- A job reset begins: the job's state is discarded at once, the HBM when the reset ends (R351, R461)
(DEDUCED, assumption 47). -/
def Device.jobReset (s : Device) (ended : Bool) : Device :=
  let s := s.job.infers.foldl (fun s i => s.inferStatus i.flow i.request 4) s
  let s := (s.failOps (fun o => decide (opKind o.handle ≤ 3))).endHolds.zeroCompute.clearCounters
  { s with
    pdies := s.pdies.map (fun (e : Nat × Pdie) => (e.1, { Pdie.reset with patrol := e.2.patrol, hot := e.2.hot }))
    ingest := Ingest.reset, reduction := Reduction.reset, stepTokens := [], streamTokens := []
    job := { Job.reset with state := if ended then 8 else 0, lastEpoch := s.job.lastEpoch, resetting := true }
    net := { s.net with statusDue := true } }

/-- JOB_RESET_COMPLETE: the HBM is zeroed and the job rests (R55, R461) (DEDUCED, assumption 47). -/
def Device.jobResetComplete (s : Device) : Device :=
  if s.job.resetting then { s.zero 0 (4 * hbmSize) with job := { s.job with resetting := false } } else s

/-- OPERATION_STOP_POINT (R367). A job that waits only for its final thermos ends when that is cancelled (R357). -/
def Device.stopPointEnd (s : Device) (h : Nat) : Device :=
  let s := s.stopPoint h
  if s.job.ending && (s.liveOp 2).isNone then s.jobReset true else s

/-! ## The generation (R371, R372) -/

/-- Slots of a P-die. -/
def Device.slotCount (s : Device) : Nat := ceilDiv s.planNB (2 * max 1 s.repD)
def slotOff (j : Nat) : Nat := 327680 + 8192 * j
/-- The bundle of a slot, when the shard has one there (R316). -/
def Device.slotBundle (s : Device) (p j : Nat) : Option Nat :=
  let b := (2 * j + p) * max 1 s.repD + s.replica
  if b < s.planNB then some b else none

/-- What a generation saves beside the tensors is taken at its start: the tours each die completed in the step, and the ingest
period (R269, R306). -/
def Device.saveCounts (s : Device) : Device :=
  { s with job := { s.job with saved := (List.range 4).map (fun d => (s.die d).toursDone) ++ [s.ingest.period] } }

/-- Header bytes 0 to 95 for a step to run next; byte 5 is the state (DEDUCED, assumption 49). -/
def Device.thermosHeader (s : Device) (p state step : Nat) : List Byte :=
  let period := nth 0 s.job.saved 4
  let key := match s.recipe with | some r => r.nRec * period | none => 0
  [0x4E, 0x4D, 0x4B, 0x54, 1, BitVec.ofNat 8 state] ++ leBytes 2 p ++ sub s.job.jobId 0 16 ++ sub s.job.digest 0 16 ++
    leBytes 6 step ++ [0, 0] ++ sub s.mapping 6 6 ++ [0, 0] ++
    (List.range 4).flatMap (fun d => leBytes 4 (nth 0 s.job.saved d)) ++ leBytes 4 period ++ [0, 0, 0, 0] ++
    leBytes 8 key ++ leBytes 8 s.genLen

/-- The digest of a generation at a base: header bytes 0 to 95 with byte 5 zero, then bytes 4,096 to G - 1, the shed record
read as zero, since a shed record leaves the generation complete (R372, R375) (DEDUCED, assumption 49). -/
def Device.genDigest (s : Device) (base : Nat) : List Byte :=
  let h := s.read base 96
  shake256 (h.take 5 ++ [0] ++ h.drop 6 ++ List.replicate 61440 0 ++ s.read (base + 65536) (s.genLen - 65536)) 64

/-- Tensor table: e, a zero byte, clean, per tensor in plan order. -/
def Device.tensorTable (s : Device) : List Byte :=
  sub (s.tensorRecs.flatMap (fun t =>
    leBytes 1 (wrapInt 8 (s.expo 0 t.id)) ++ [0] ++ leBytes 2 (Tab.get 0 (s.die 0).clean t.id))) 0 262144

/-- The contents of a slot: masters, or working values and zeros (R372). -/
def Device.slotData (s : Device) (p j : Nat) : List Byte :=
  match s.slotBundle p j with
  | none => s.read (fld s.plan (12 + 6 * p) 6 + 8192 * j) 8192
  | some b =>
    match s.tensorOfBundle b with
    | some (_, t) =>
      if t.noMaster then
        (List.range 2048).flatMap (fun e =>
          if 2048 * (b - t.b0) + e < t.n then s.read (t.lowBase + 2 * (2048 * (b - t.b0) + e)) 2 else [0, 0]) ++ List.replicate 4096 0
      else s.read (s.masterSlot b) 8192
    | none => s.read (s.masterSlot b) 8192

/-- The slot's source lies in a die that is parked, or holds a word found uncorrectable (R51, R54). -/
def Device.slotWaits (s : Device) (p j : Nat) : Bool :=
  match s.slotBundle p j with
  | some b =>
    (match s.tensorOfBundle b with
     | some (_, t) =>
       if t.noMaster then (s.waitsForDie t.lowBase).isSome || !s.sound (t.lowBase + 4096 * (b - t.b0)) (min 4096 (2 * t.n - 4096 * (b - t.b0)))
       else !s.sound (s.masterSlot b) 8192
     | none => false)
  | none => false

/-! ## Writing (R373, R375) -/

/-- A checkpoint starts at a step boundary, or at shed level 4 (`shed`), whose generation is not mirrored. -/
def Device.startThermos (s : Device) (shed : Bool) : Device :=
  let (s, o) := s.saveCounts.newOp 2 (2 * (s.slotCount + 1)) (if shed then 1 else 0) 0
  let s := s.modOp o.handle (fun o => { o with step := s.job.step })
  ((List.range 2).foldl (fun s p => s.modPdie p (fun x => { x with copyNext := 0, mirrorNext := 0 })) s).settleThermos

/-- Messages of a P-die's mirror. -/
def Device.mirrorCount (s : Device) : Nat := ceilDiv s.genLen 8192

/-- The P-die's part of the checkpoint is finished: state 1 and no mirror to send, or state 2. -/
def Device.thermosPartDone (s : Device) (o : Op) (p : Nat) : Bool :=
  decide ((s.pdie p).copyNext = s.slotCount + 3) &&
    (decide (s.ringS ≤ 1) || decide (o.lo = 1) || decide (s.mirrorCount < (s.pdie p).mirrorNext))

/-- The checkpoint ends DONE; the job ends with it when it was the final one (R357). -/
def Device.thermosEnd (s : Device) (o : Op) : Device :=
  let s := s.endOp o.handle 4 0 0
  if s.job.ending then s.jobReset true else s

def Device.settleMirror (s : Device) : Device :=
  match s.liveOp 2 with
  | none => s
  | some o => if s.thermosPartDone o 0 && s.thermosPartDone o 1 then s.thermosEnd o else s

/-- THERMOS_RECORD_WRITE: the next record of a P-die, in the order of R373. -/
def Device.thermosRecord (s : Device) (p : Nat) : Device :=
  match s.liveOp 2 with
  | none => s
  | some o =>
    let i := (s.pdie p).copyNext
    let base := s.thermosBase p
    if o.state ≠ 0 ∨ s.job.thermosAsked ∨ 2 ≤ p ∨ s.slotCount + 3 ≤ i ∨ (2 ≤ i ∧ s.slotWaits p (i - 2)) ∨ s.isHeld (.thermos p) then s
    else
      let s := s.modPdie p (fun x => { x with copyNext := i + 1 })
      if i = 0 then
        (s.write base (s.thermosHeader p 0 o.step ++ List.replicate 4000 0)).modOp o.handle (fun o => { o with passed := o.passed + 1 })
      else if i = 1 then s.write (base + 4096) (List.replicate 61440 0 ++ s.tensorTable)
      else if i < s.slotCount + 2 then
        (s.write (base + slotOff (i - 2)) (s.slotData p (i - 2))).modOp o.handle (fun o => { o with passed := o.passed + 1 })
      else
        ((s.write (base + 96) (s.genDigest base)).write (base + 5) [1] |>.bumpJob 2 1).settleMirror

def execThermosRecordWrite (p : Nat) (s : State) : Host.Outcome State Fault Refusal :=
  .next (s.onDev (fun d => d.thermosRecord p))

/-- The shed record (R375): the interrupted step and the bundles each P-die updated in it. -/
def Device.shedRecord (s : Device) : Device :=
  let b := [0x4E, 0x4D, 0x4B, 0x53] ++ leBytes 6 s.job.step ++ [0, 0] ++ leBytes 4 (s.pdie 0).updated ++ leBytes 4 (s.pdie 1).updated
  (List.range 2).foldl (fun s p => s.write (s.thermosBase p + 4096) b) s

/-- What shed level 4 saves of an interrupted step (R375): no generation while a tour is in flight (R269)
(DEDUCED, assumption 49). -/
def Device.shedThermos (s : Device) : Device :=
  if s.job.state ≠ 6 ∨ (s.liveOp 2).isSome then s
  else if !s.job.updatedAny && s.tensorRecs.all (fun t => !t.noMaster) && (List.range 4).all (fun d => (s.die d).tour.isNone) then
    s.startThermos true
  else s.shedRecord

/-! ## The mirror (R374) -/

def Device.mirrorOut (s : Device) : Nat := flowKey (s.ringPair true) 386 0
def Device.mirrorIn (s : Device) : Nat := flowKey (s.ringPair false) 386 0

/-- A P-die whose messages are all acknowledged sets its own state to 2. -/
def Device.mirrorAcked (s : Device) (p : Nat) : Device :=
  let f := s.flow s.mirrorOut
  if decide ((s.pdie p).mirrorNext = s.mirrorCount) && decide (0 < s.mirrorCount) && (s.liveOp 2).isSome &&
      !(f.unacked ++ f.waiting).any (fun x => x.sub == p) then
    ((s.write (s.thermosBase p + 5) [2]).modPdie p (fun x => { x with mirrorNext := x.mirrorNext + 1 })).settleMirror
  else s

/-- THERMOS_MIRROR_SEND: the next 8 KiB of a finished generation. -/
def Device.mirrorSend (s : Device) (p : Nat) : Device :=
  match s.liveOp 2 with
  | none => s
  | some o =>
    let i := (s.pdie p).mirrorNext
    if o.state ≠ 0 ∨ o.lo = 1 ∨ s.ringS ≤ 1 ∨ 2 ≤ p ∨ (s.pdie p).copyNext ≠ s.slotCount + 3 ∨ s.mirrorCount ≤ i ∨
        !s.hasCredit s.mirrorOut 8208 ∨ !s.sound (s.thermosBase p + 8192 * i) (min 8192 (s.genLen - 8192 * i)) then s
    else
      let data := s.read (s.thermosBase p + 8192 * i) (min 8192 (s.genLen - 8192 * i))
      let s := s.modPdie p (fun x => { x with mirrorNext := i + 1 })
      (s.send s.mirrorOut 0x36 (decide (i + 1 = s.mirrorCount)) o.handle p 0 (leBytes 8 (8192 * i) ++ List.replicate 8 0 ++ data)).bumpJob
        4 data.length

def execThermosMirrorSend (p : Nat) (s : State) : Host.Outcome State Fault Refusal :=
  .next (s.onDev (fun d => d.mirrorSend p))

/-- THERMOS_MIRROR as it is delivered: state 0 first, then the data, the received header last (R374). -/
def Device.onMirror (s : Device) (m : Msg) : Device × Bool :=
  let p := m.sub.toNat % 2
  let off := fld m.payload 0 8
  let data := m.payload.drop 16
  let base := s.mirrorBase p
  if s.ckpt.isEmpty ∨ s.genLen < off + data.length ∨ ¬ zeros m.payload 8 8 then (s.logMsg m (s.netRec Code.netMessageMalformed m), true)
  else
    let s := if off = 0 then
        (s.modPdie p (fun x => { x with mirrorHdr := data.take 4096 })).write (base + 5) [0] |>.write (base + 4096) (data.drop 4096)
      else s.write (base + off) data
    let s := s.bumpJob 5 data.length
    (if m.last then s.write base (s.pdie p).mirrorHdr else s, true)

/-- MIRROR_TIMEOUT: the checkpoint ends with state 1 (R374). -/
def Device.mirrorTimeout (s : Device) : Device :=
  match s.liveOp 2 with
  | none => s
  | some o =>
    if o.lo = 1 ∨ s.ringS ≤ 1 ∨ s.pairUp s.mirrorOut ∨
        (List.range 2).any (fun p => (s.pdie p).copyNext ≠ s.slotCount + 3) then s
    else (s.log1 (s.opRec Code.jobThermosIncomplete o.handle 15)).thermosEnd o

def execMirrorTimeout (s : State) : Host.Outcome State Fault Refusal := .next (s.onDev (fun d => d.mirrorTimeout))

/-! ## Restoring (R376) -/

/-- The generation of a P-die passes the checks of R376. -/
def Device.genOk (s : Device) (p : Nat) : Bool :=
  let a := s.thermosBase p
  let h := s.read a 160
  decide (h.take 5 = [0x4E, 0x4D, 0x4B, 0x54, 1]) && decide (fld h 5 1 ≠ 0) && decide (sub h 8 16 = sub s.job.jobId 0 16) &&
    decide (sub h 24 16 = sub s.job.digest 0 16) && decide (sub h 96 64 = s.genDigest a)

def Device.restoreOk (s : Device) : Bool :=
  s.genOk 0 && s.genOk 1 && decide (s.read (s.thermosBase 0 + 40) 6 = s.read (s.thermosBase 1 + 40) 6)

/-- JOB_RESTORE_REFUSED: the job stays ADMITTED. -/
def Device.restoreRefused (s : Device) (o : Op) : Device :=
  let s := (s.log1 (s.opRec Code.jobRestoreRefused o.handle 0)).endOp o.handle 5 4 Code.jobRestoreRefused
  (match s.stepOp with | some p => s.endOp p.handle 5 4 Code.jobRestoreRefused | none => s).backToAdmitted

/-- Step number, tour counts, ingest period and tables come from the header and the tensor table. -/
def Device.restoreHead (s : Device) : Device :=
  let a := s.thermosBase 0
  let h := s.read a 96
  let tab := s.read (a + 65536) (4 * s.tensorRecs.length)
  let s := (List.range 4).foldl (fun s d => s.modDie d (fun x => { x with toursDone := fld h (56 + 4 * d) 4 })) s
  let s := ((List.range s.tensorRecs.length).zip s.tensorRecs).foldl (fun s e =>
    (List.range 4).foldl (fun s d => s.modDie d (fun x => { x with
      expo := Tab.set 0 x.expo e.2.id (sext 8 (fld tab (4 * e.1) 1))
      clean := Tab.set 0 x.clean e.2.id (fld tab (4 * e.1 + 2) 2) })) s) s
  { s with
    job := { s.job with step := fld h 40 6, firstStep := fld h 40 6 }
    ingest := { Ingest.reset with period := fld h 72 4, base := fld h 80 8 } }

/-- A slot goes back to its master or working copies, is converted, and its weights are sent on (R376, R318). -/
def Device.restoreSlot (s : Device) (p j : Nat) : Device :=
  match s.slotBundle p j with
  | none => s
  | some b =>
    match s.tensorOfBundle b with
    | none => s
    | some (_, t) =>
      let data := s.read (s.thermosBase p + slotOff j) 8192
      let n := min 2048 (t.n - 2048 * (b - t.b0))
      let s := if t.noMaster then s else s.write (s.masterSlot b) data
      let s := (List.range n).foldl (fun s e =>
        s.writeWorking t b e (if t.noMaster then fld data (2 * e) 2
          else (convertBare t.fmt 0 0 (BitVec.ofNat 32 (fld data (4 * e) 4))).enc)) s
      let s := s.sendWeights p b t (2 ^ ceilDiv n 256 - 1) 0 0
      { s with reduction := { s.reduction with bundlesDone := s.reduction.bundlesDone ++ [b] } }

/-- Every bundle is restored or received. -/
def Device.restoreComplete (s : Device) : Bool :=
  (List.range 2).all (fun p => decide (s.slotCount + 1 ≤ (s.pdie p).restoreNext)) &&
    decide (s.planNB ≤ s.reduction.bundlesDone.eraseDups.length)

end Sys2Proof.Machine
end

