-- ==== Sys2Proof/Machine/Jobs.lean ====
section
/-! DEFINITION. Starting a job: JOB_START, the start exchange, the step boundary and the restore's course (R27, R53, R347,
R352, R353, R357, R366, R376, R415, R420, R426, R433). -/

namespace Sys2Proof.Machine

/-! ## The start exchange (R353, R420, R426) -/

/-- Replicas of plane X, or ring positions of plane Y, with their backups, but for the module itself (R412). -/
def Device.planePeers (s : Device) (x : Bool) : List Nat :=
  let n := if x then s.repD else s.ringS
  let own := if x then s.replica else s.ringPos
  let all := (List.range n) ++ ((List.range n).filter (fun i => if x then s.hasBackup s.ringPos i else s.hasBackup i s.replica)).map (256 + ·)
  all.filter (· != (if s.isBackup then 256 + own else own))

/-- Flows to every peer the mapping names: ring neighbours, plane peers, stage neighbours. -/
def Device.mappedPeers (s : Device) : List Nat :=
  let k (role peer : Nat) : Nat := flowKey ((s.pairOf role).getD 9) 0 peer
  (if 1 < s.ringS then [k 2 0, k 3 0] else []) ++ (s.planePeers true).map (k 4) ++ (s.planePeers false).map (k 5) ++
    (if 0 < fld s.mapping 6 2 then [k 6 0] else []) ++ (if fld s.mapping 6 2 + 1 < fld s.mapping 0 2 then [k 7 0] else [])

def Device.sendHello (s : Device) (k : Nat) (reply : Bool) : Device :=
  s.send k 0x01 false 0 0 0 (s.helloPayload (keyPair k) reply)

/-- Every peer has answered: the job runs, its first step begins, and ingest starts (R353, R283). -/
def Device.enterRunning (s : Device) : Device :=
  let s : Device := { s with
    job := { s.job with state := 6, exchanging := false }
    reduction := Reduction.reset
    net := { s.net with statusDue := true } }
  let s := (s.ingestBegin s.ingest.period s.ingest.base).grantReduction reductionGrant
  let s := if 1 < s.ringS then s.grantFlow s.mirrorIn 0x100000 else s
  match s.stepOp with
  | some o => (s.modOp o.handle (fun o => { o with step := s.job.step })).settleStep
  | none => s

def Device.exchangeDone (s : Device) : Bool := s.job.exchanging && s.mappedPeers.all s.job.answered.contains

/-- The module sends its digest to every mapped peer; without one the job runs at once. -/
def Device.beginExchange (s : Device) : Device :=
  let s := { s with job := { s.job with exchanging := true, answered := [] } }
  let s := s.mappedPeers.foldl (fun s k => s.sendHello k false) s
  if s.exchangeDone then s.enterRunning else s

/-- A peer's answer contradicts the mapping: its digest differs, or it claims this module's place without the backup bit
(PRESUMED, assumption 52). -/
def Device.helloConflict (s : Device) (b : List Byte) : Bool :=
  decide (sub b 24 16 ≠ sub s.job.digest 0 16) || (decide (sub b 40 6 = sub s.mapping 6 6) && !bit (fld b 46 1) 0 && !s.isBackup)

/-- The start fails: the job returns to ADMITTED (R353). -/
def Device.startRefused (s : Device) : Device :=
  let s := s.log1 (s.refusal Code.jobMappingMismatch 0 0 [])
  (s.failOps (fun o => decide (opKind o.handle = 1 ∨ opKind o.handle = 3))).backToAdmitted

/-- The peer's port states: the sides of the pair it uses for this module (R421, R426) (PRESUMED, assumption 52). -/
def Device.notePorts (s : Device) (k : Nat) (b : List Byte) : Device :=
  match s.pairOf (fld b 1 1) with
  | none => s
  | some pair =>
    let down (side : Nat) : Nat := if bit (fld b 2 2) (pair + 8 * side) then 0 else 2 ^ side
    { s with net := { s.net with peersDown := Tab.set 0 s.net.peersDown (keyPair k * 1024 + keyPeer k) (down 0 + down 1) } }

/-- HELLO as it is delivered. -/
def Device.onHello (s : Device) (k : Nat) (m : Msg) : Device :=
  let b := m.payload
  if b.length ≠ 64 ∨ 1 < fld b 0 1 ∨ ¬ zeros b 47 17 ∨ 1 < fld b 46 1 then s.logMsg m (s.netRec Code.netMessageMalformed m)
  else
    let s := if keyPair k < 8 then s.notePorts k b else s
    if !bit (fld b 0 1) 0 then s.sendHello k true
    else if s.job.exchanging && s.mappedPeers.contains k && decide (fld b 4 4 = s.job.epoch) then
      if s.helloConflict b then s.startRefused
      else
        let s := { s with job := { s.job with answered := s.job.answered ++ [k] } }
        if s.exchangeDone then s.enterRunning else s
    else s

/-- HELLO_RESEND (R420): one that is not acknowledged goes out again; to a mapped peer that has not answered, a new one. -/
def Device.helloResend (s : Device) (k : Nat) : Device :=
  match (s.flow k).unacked.find? (fun x => x.kind == 0x01) with
  | some x => s.resendFrom k x.seq
  | none =>
    if s.job.exchanging && s.mappedPeers.contains k && !s.job.answered.contains k then s.sendHello k false else s

def execHelloResend (k : Nat) (s : State) : Host.Outcome State Fault Refusal :=
  .next (s.onDev (fun d => d.helloResend k))

/-- JOB_PEER_SILENT (R353). -/
def Device.peerSilent (s : Device) (k : Nat) : Device :=
  if s.job.exchanging && s.mappedPeers.contains k && !s.job.answered.contains k then
    s.log1 { s.opRec Code.jobPeerSilent 0 0 with vals := [(1, s.roleOf (keyPair k)), (2, keyPeer k)] }
  else s

def execJobPeerSilent (k : Nat) (s : State) : Host.Outcome State Fault Refusal :=
  .next (s.onDev (fun d => d.peerSilent k))

/-! ## JOB_START (R352, R353) -/

/-- Registers of a quadrant as its program's header gives them (R354). -/
def Device.initialRegs (s : Device) (d q : Nat) : Tab Word :=
  let b := s.sec 0x19 d q 255
  (List.range 64).foldl (fun t i => Tab.set 0 t i (BitVec.ofNat 32 (fld b (8 + 4 * i) 4))) []

/-- Base, slot bytes and slot count of the mailbox (R433). -/
def Device.readMailbox (s : Device) : List Nat :=
  let r (i : Nat) : Nat := (Tab.get 0 (s.quad 0 0).regs i).toNat
  if r 63 = 0 then [] else [r 60 + r 61 % 65536 * 2 ^ 32, r 62 * 4096, r 63]

/-- Sequences and credits of the data classes start at 0 with a new epoch (R415). -/
def Device.startFlows (s : Device) : Device :=
  { s with net := { s.net with flows := s.net.flows.filter (fun e => flowClass (keyFlow e.1) == 0) } }

/-- Steps 1 to 3 of R353 (DEDUCED, assumption 48). -/
def Device.loadStores (s : Device) (epoch : Nat) : Device :=
  let s := s.zeroCompute.startFlows
  let s : Device := { s with
    stepTokens := [], streamTokens := [], ingest := Ingest.reset, reduction := Reduction.reset
    pdies := s.pdies.map (fun (e : Nat × Pdie) => (e.1, { Pdie.reset with patrol := e.2.patrol, hot := e.2.hot }))
    job := { s.job with
      state := 5, epoch := epoch, lastEpoch := epoch, stores := s.job.image, step := 0, firstStep := 0, answered := []
      keyRound := ocgKey 1 s.job.seed, keyAug := ocgKey 2 s.job.seed, transfers := [], sent := [], received2 := []
      infers := [], ending := false, thermosAsked := false, cancelled := false, updatedAny := false, discarding := false, cancelledStep := none, saved := []
      exchanging := false, nextIssue := 1 }
    net := { s.net with statusDue := true } }
  let s := allQuads.foldl (fun s x => s.modQuad x.1 x.2 (fun q => { q with regs := s.initialRegs x.1 x.2 })) s
  let s := (List.range 4).foldl (fun s d => if (s.sec 0x12 d 255 255).isEmpty then s else s.buildMap d) s
  let s := s.tensorRecs.foldl (fun s t => (List.range 4).foldl (fun s d =>
    s.modDie d (fun x => { x with expo := Tab.set 0 x.expo t.id t.initial })) s) s
  { s with job := { s.job with mailbox := s.readMailbox } }

/-- Actions 0 and 1: the answer names the first step (R352) (DEDUCED, assumption 48). -/
def Device.startJob (s : Device) (k epoch : Nat) (restore : Bool) : Device :=
  let s := s.loadStores epoch
  let (s, o) := s.newOp 1 0 0 0
  let s := s.answerOp k o
  if restore then ((s.newOp 3 (2 * (s.slotCount + 1)) 0 0).1).grantReduction reductionGrant else s.beginExchange

/-- A JOB_START payload of an action: 32 bytes, reserved fields zero; scrub fields are used by action 3 alone. -/
def startOk (m : Msg) : Bool :=
  let b := m.payload
  decide (b.length = 32) && zeros b 5 3 && zeros b 14 2 && zeros b 24 8 && (decide (fld b 4 1 = 3) || (zeros b 8 6 && zeros b 16 8))

/-- Action 3: the range lies in HBM or LPDDR5X that is backed now, in whole MiB (R53, R352). -/
def Device.scrubOk (s : Device) (b : List Byte) : Bool :=
  let a := fld b 8 6
  let n := fld b 16 8
  decide (a % 2 ^ 20 = 0) && decide (n % 2 ^ 20 = 0) && decide (0 < n) && s.backed a n &&
    (match s.regionOf a, s.regionOf (a + n - 1) with | some r, some r' => decide (r.kind ≤ 1 ∧ r'.kind ≤ 1) | _, _ => false)

/-- A JOB_START is checked and carried out (R352). -/
def Device.carryStart (s : Device) (k : Nat) (m : Msg) : Device :=
  let b := m.payload
  let action := fld b 4 1
  let epoch := fld b 0 4
  let no (tag : Nat) : Device := s.refuseOp k 0 tag Code.jobOpRefused
  if !startOk m then no 0
  else if action ≤ 1 then
    if s.job.state ≠ 3 ∨ s.standoff then no 0
    else if epoch = 0 ∨ epoch = s.job.lastEpoch then no 33
    else s.startJob k epoch (decide (action = 1))
  else if action = 2 then
    if s.job.state ≠ 6 then no 0
    else if epoch ≠ s.job.epoch then no 33
    else if (s.liveOp 2).isSome then no 16
    else
      let (s, o) := s.newOp 2 (2 * (s.slotCount + 1)) 0 0
      ({ s with job := { s.job with thermosAsked := true } }).answerOp k o
  else if action = 3 then
    if s.job.state = 2 then no 0
    else if epoch ≠ (if s.hasJob then s.job.epoch else 0) then no 33
    else if !s.scrubOk b then no 0
    else if 4 ≤ (s.ops.filter (fun o => opKind o.handle == 5)).length then no 16
    else
      let (s, o) := s.newOp 5 (fld b 16 8 / 2 ^ 20) (fld b 8 6) (fld b 8 6 + fld b 16 8)
      s.answerOp k o
  else no 0

/-- JOB_START as it is delivered: before full service it waits (R27). -/
def Device.onJobStart (s : Device) (k : Nat) (m : Msg) : Device :=
  if s.boot.service ≠ 2 then { s with job := { s.job with deferredStarts := s.job.deferredStarts ++ [(k, m)] } }
  else s.carryStart k m

/-- DEFERRED_JOB_START (R27): the first one held is carried out once full service and deferred admission are reached. -/
def Device.deferredStart (s : Device) : Device :=
  match s.job.deferredStarts with
  | [] => s
  | (k, m) :: rest =>
    if s.boot.service ≠ 2 ∨ s.standoff ∨ s.job.state = 2 then s
    else ({ s with job := { s.job with deferredStarts := rest } }).carryStart k m

def execDeferredJobStart (s : State) : Host.Outcome State Fault Refusal := .next (s.onDev (fun d => d.deferredStart))

/-! ## The restore's course (R376) -/

/-- When every bundle is back the restore ends DONE and the start exchange begins. -/
def Device.settleRestore (s : Device) : Device :=
  match s.liveOp 3 with
  | none => s
  | some o =>
    if decide (s.job.state = 5) && decide (o.state ≤ 1) && s.restoreComplete then
      ({ s.endOp o.handle 4 0 0 with reduction := Reduction.reset }).beginExchange
    else s

/-- The slot's working copies lie in a parked die (R54). -/
def Device.restoreWaits (s : Device) (p j : Nat) : Bool :=
  match (s.slotBundle p j).bind s.tensorOfBundle with
  | some (_, t) => s.workingWaits t
  | none => false

/-- THERMOS_RESTORE_RECORD: the checks and the tables first, then a slot at a time. -/
def Device.restoreRecord (s : Device) (p : Nat) : Device :=
  match s.liveOp 3 with
  | none => s
  | some o =>
    let i := (s.pdie p).restoreNext
    if o.state ≠ 0 ∨ s.job.state ≠ 5 ∨ 2 ≤ p ∨ s.slotCount + 1 ≤ i ∨ (0 < i ∧ s.restoreWaits p (i - 1) = true) then s
    else if i = 0 then
      if s.restoreOk then
        (([0, 1] : List Nat).foldl (fun s p => s.modPdie p (fun x => { x with restoreNext := 1 })) s.restoreHead).modOp o.handle
          (fun o => { o with passed := o.passed + 2 }) |>.settleRestore
      else s.restoreRefused o
    else
      (((s.modPdie p (fun x => { x with restoreNext := i + 1 })).restoreSlot p (i - 1)).modOp o.handle
        (fun o => { o with passed := o.passed + 1 })).settleRestore

def execThermosRestoreRecord (p : Nat) (s : State) : Host.Outcome State Fault Refusal :=
  .next (s.onDev (fun d => d.restoreRecord p))

/-! ## The step boundary (R357, R369, R371) -/

def Device.stepLimit (s : Device) : Nat := fld s.ckpt 28 6
def Device.finalThermos (s : Device) : Bool := bit (fld s.ckpt 34 1) 0
def Device.thermosInterval (s : Device) : Nat := fld s.ckpt 24 4

/-- The conditions of R357. -/
def Device.stepOver (s : Device) : Bool :=
  decide (s.job.state = 6) && !s.job.ending && !s.isHeld .job && (match s.stepOp with | some o => decide (o.state ≤ 1) | none => false) &&
    allQuads.all (fun x =>
      let q := s.quad x.1 x.2
      q.ended && q.issues.isEmpty && q.seals.isEmpty && q.plays.all (fun p => p.2.deferredQ.isEmpty)) &&
    (List.range s.tensorRecs.length).all s.reduction.tensorsDone.contains &&
    (List.range 4).all (fun d => (s.die d).tour.isNone && (s.die d).tours.isEmpty) && s.job.transfers.all (fun t => !t.send)

/-- A thermos that is due, or asked for, starts; one due while the last still runs is skipped and counted (R369). -/
def Device.dueThermos (s : Device) (due : Bool) : Device :=
  if s.job.thermosAsked then
    match s.liveOp 2 with
    | some o =>
      let s : Device := { s.saveCounts with job := { s.saveCounts.job with thermosAsked := false } }
      (([0, 1] : List Nat).foldl (fun s p => s.modPdie p (fun x => { x with copyNext := 0, mirrorNext := 0 })) s).modOp o.handle
        (fun o => { o with step := s.job.step })
    | none => { s with job := { s.job with thermosAsked := false } }
  else if !due then s
  else if (s.liveOp 2).isSome then (s.bumpJob 3 1).log1 (s.opRec Code.jobThermosIncomplete 0 14)
  else s.startThermos false

/-- The job ends at its step limit, after a final thermos when the plan asks for one. -/
def Device.endAtLimit (s : Device) : Device :=
  if s.finalThermos then
    let s := s.dueThermos true
    { s with job := { s.job with ending := true } }
  else s.jobReset true

/-- STEP_BOUNDARY: the step number advances; the programs begin again, or the job ends at its limit. -/
def Device.stepBoundary (s : Device) : Device :=
  if !s.stepOver then s
  else
    let s := match s.stepOp with | some o => s.endOp o.handle 4 0 0 | none => s
    let s : Device := { s with job := { s.job with step := s.job.step + 1 } }
    let s := (s.bumpJob 0 1).freshStep
    if s.stepLimit ≠ 0 ∧ s.job.step = s.stepLimit then s.endAtLimit
    else
      let s := s.dueThermos (decide (s.thermosInterval ≠ 0) && decide (s.job.step % s.thermosInterval = 0))
      (s.startStepOp.grantStage false).grantStage true

/-- RETRY of a cancelled step (R370). When the cancel came after an update and the step number it advanced to is the limit, no
step is left to run and the job ends (R357): DEDUCED (assumption 51). -/
def Device.retryJob (s : Device) : Device :=
  if s.job.cancelled = true ∧ s.stepLimit ≠ 0 ∧ s.job.step = s.stepLimit then
    s.endCancel.endAtLimit
  else s.retryStep

end Sys2Proof.Machine
end

