-- ==== Sys2Proof/Machine/Power.lean ====
section
/-! DEFINITION. Refills and transfers of energy, clock changes, temperatures, rails, shedding, parking and loss of power
(R388 to R404, R460, R464, R466). -/

namespace Sys2Proof.Machine

/-! ## Parking (R403, R464) -/

/-- A cause parks a die. A die that is down takes the cause without parking. -/
def Device.park (s : Device) (d cause : Nat) : Device :=
  s.modDie d (fun x => { x with
    parkCauses := if x.parkCauses.contains cause then x.parkCauses else x.parkCauses ++ [cause]
    power := if x.power = 0 ∨ x.power = 3 then 1 else x.power })

/-- A cause ends; the die unparks when no other lasts. -/
def Device.unpark (s : Device) (d cause : Nat) : Device :=
  s.modDie d (fun x =>
    let l := x.parkCauses.erase cause
    { x with parkCauses := l, power := if l.isEmpty ∧ (x.power = 1 ∨ x.power = 2) then 3 else x.power })

def Device.parkAll (s : Device) (cause : Nat) : Device := (List.range 4).foldl (fun s d => s.park d cause) s
def Device.unparkAll (s : Device) (cause : Nat) : Device := (List.range 4).foldl (fun s d => s.unpark d cause) s

/-- Every pass, readout and invocation in flight on the die has completed; a pass at the issue port of a held array, which can
issue no more, does not keep the die up (R116, R176) (DEDUCED, assumption 35). -/
def Device.dieStill (s : Device) (d : Nat) : Bool :=
  s.clusters.all (fun e => dOf e.1 != d ||
    (e.2.readouts.isEmpty && e.2.draining.all (·.drained) && e.2.issuing.all (fun p => s.arrayHeld e.1 p.half) &&
      e.2.invocation.isNone && e.2.stopped.isEmpty))

/-- DIE_PARKED (R403): the flows of a tour in progress withhold credit (R268) (DEDUCED, assumption 35). -/
def Device.diePark (s : Device) (d : Nat) : Device :=
  if (s.die d).power = 1 ∧ s.dieStill d then
    let s := s.modDie d (fun x => { x with power := 2 })
    if (s.die d).tour.isSome then s.grantCarousel d else s
  else s

/-- DIE_UNPARKED (R403): its tour goes on (R268); the commands and messages that waited for the die are taken by its command's
meaning. -/
def Device.dieUnpark (s : Device) (d : Nat) : Device :=
  if (s.die d).power = 3 then
    let s := s.modDie d (fun x => { x with power := 0 })
    if (s.die d).tour.isSome then s.grantCarousel d else s
  else s

/-- DIE_IDLE (R464): a running die without an item in flight gates its arithmetic clock. -/
def Device.dieIdle (s : Device) (d : Nat) : Device :=
  if s.dieRuns d && s.clusters.all (fun e => dOf e.1 != d || e.2.quiet) then s.modDie d (fun x => { x with gated := true }) else s

def execDieIdle (d : Nat) (s : State) : Host.Outcome State Fault Refusal := .next (s.onDev (fun v => v.dieIdle d))

/-! ## Refills (R388, R390, R399, R400) -/

/-- PWR_THERMAL_LIMIT: a value of the record names nothing but the place. -/
def Device.thermalRec (s : Device) (dp ctl tag domain key : Nat) : Rec :=
  { Rec.plain Code.pwrThermalLimit dp ctl domain with tag := tag, key := key }

/-- The entry record of R399, written at the first refill at 95 °C or more since T was below 93 °C or since power-on. -/
def Device.thermalEntry (s : Device) (t : Nat) (temp : Int) : Device :=
  let hot := decide (95 * 16 ≤ temp)
  let was := (s.stripe t).cool
  let s := if hot && was then s.log1 (s.thermalRec (dpDie (t / 6) 3 (t % 6)) (ctlStripe t) 0 (t / 6) 0) else s
  s.modStripe t (fun x => { x with cool := if hot then false else x.cool || decide (temp < 93 * 16) })

/-- ENERGY_REFILL: sensors are read, and the stripe of a running die refills its pool. -/
def Device.energyRefill (s : Device) (t : Nat) (temp current : Int) : Device :=
  if 24 ≤ t then s
  else
    let s := s.thermalEntry t temp
    let x := s.stripe t
    let over' := x.overcurrent
    let s := s.modStripe t (fun x => { x with temp := temp, current := current, overcurrentBefore := over', overcurrent := false })
    if !s.dieRuns (t / 6) then s
    else
      let fT := thermalFactor temp
      let fI := if over' then (0, 1) else currentFactor current
      let own := s.baseRefill (t / 6) * fT.1 * fI.1 / (fT.2 * fI.2)
      let refill := (own : Int) + (if 0 < x.transferLeft then x.gives else 0)
      let cap := s.poolCap t
      let sum := x.pool + refill
      let pool := min sum cap
      let s := s.modStripe t (fun x => { x with
        pool := pool, refill := refill, atCap := if pool = cap then x.atCap + 1 else 0
        transferLeft := x.transferLeft - 1, gives := if x.transferLeft ≤ 1 then 0 else x.gives })
      (s.bumpStripe t 1 (sum - pool).toNat).bumpStripe t 4 (if fT = (1, 1) ∧ fI = (1, 1) then 0 else 1)

def execEnergyRefill (t : Nat) (temp current : Int) (s : State) : Host.Outcome State Fault Refusal :=
  .next (s.onDev (fun d => d.energyRefill t temp current))

/-- Receivers of a die, by the age of their oldest priority request. -/
def Device.receivers (s : Device) (d : Nat) : List Nat := ((s.die d).requests.map (fun r => stripeOf (r / 4))).eraseDups

/-- DONOR_TRANSFER (R390): donor i gives a quarter of its base refill to receiver i mod R in each of the next ten
intervals (DESIGN CHOICE, assumption 36). -/
def Device.donorTransfer (s : Device) (d : Nat) : Device :=
  if 4 ≤ d then s
  else
    let donors := ((List.range 6).map (fun i => 6 * d + i)).filter (fun t => decide (10 ≤ (s.stripe t).atCap))
    let rs := s.receivers d
    let q : Int := (s.baseRefill d / 4 : Nat)
    if rs.isEmpty then s
    else
      ((List.range donors.length).zip donors).foldl (fun s e =>
        let r := nth 0 rs (e.1 % rs.length)
        let s := s.modStripe e.2 (fun x => { x with gives := x.gives - q, transferLeft := 10 })
        s.modStripe r (fun x => { x with gives := x.gives + q, transferLeft := 10 }))
        ((List.range 6).foldl (fun s i => s.modStripe (6 * d + i) (fun x => { x with gives := 0, transferLeft := 0 })) s)

def execDonorTransfer (d : Nat) (s : State) : Host.Outcome State Fault Refusal :=
  .next (s.onDev (fun v => v.donorTransfer d))

/-- STRIPE_OVERCURRENT (R400): the next refill is nothing; an episode keeps one record. -/
def Device.stripeOvercurrent (s : Device) (t : Nat) : Device :=
  let x := s.stripe t
  if 24 ≤ t ∨ x.overcurrent then s
  else
    let r : Rec := { Rec.plain Code.pwrRailFault (dpDie (t / 6) 3 (t % 6)) (ctlStripe t) (t / 6) with
      tag := 11, key := if x.overcurrentBefore then 1 else 0 }
    (s.log1 r).modStripe t (fun x => { x with overcurrent := true })

def execStripeOvercurrent (t : Nat) (s : State) : Host.Outcome State Fault Refusal :=
  .next (s.onDev (fun d => d.stripeOvercurrent t))

/-! ## Profiles and clocks (R396, R397) -/

/-- An invocation of a vector unit of the die stands before its END (R176). -/
def Device.invoking (s : Device) (d : Nat) : Bool :=
  s.clusters.any (fun e => dOf e.1 == d && (e.2.invocation.isSome || !e.2.stopped.isEmpty))

/-- The profile whose clock a die moves toward; a die moves one step of 0.8 GHz at a time (DEDUCED, assumption 76). -/
def Device.clockStep (s : Device) (d : Nat) : Device :=
  if 4 ≤ d ∨ (s.die d).power = 4 ∨ s.invoking d then s
  else
    let e := s.effective
    s.modDie d (fun x => { x with clock := if x.clock < e then x.clock + 1 else if e < x.clock then x.clock - 1 else x.clock })

/-- CLOCK_STEP (R397). -/
def execClockStep (d : Nat) (s : State) : Host.Outcome State Fault Refusal := .next (s.onDev (fun v => v.clockStep d))

/-- A clock change is under way. -/
def Device.changing (s : Device) : Bool :=
  (List.range 4).any (fun d => (s.die d).power != 4 && decide ((s.die d).clock ≠ s.effective))

/-! ## The shed level (R401, R402) -/

/-- The level an input voltage, in 10 mV, calls for (R401). -/
def inputCalls (v : Nat) : Nat :=
  if v < 4100 then 5 else if v < 4250 then 4 else if v < 4400 then 3 else if v < 4550 then 2 else if v < 4700 then 1 else 0

/-- The thresholds of a rail in percent of its setpoint, with the level of each (R400). -/
def railThresholds : Rail → List (Nat × Nat)
  | .aCore _ => [(94, 2), (90, 4), (85, 5)]
  | .other => [(85, 5)]
  | _ => [(92, 4), (85, 5)]

def Device.railLevel (s : Device) : Nat :=
  (s.power.rails.map (fun e => ((railThresholds e.1).filter (fun t => t.1 == e.2)).map (·.2) |>.foldl max 0)).foldl max 0

def Device.thermalLevel (s : Device) : Nat := if s.power.hotPdies.any (fun p => decide (2 ≤ p)) then 4 else 0

/-- The highest level that anything calls for (R401) (DEDUCED, assumption 34). -/
def Device.calledLevel (s : Device) : Nat := max s.power.inputLevel (max s.railLevel s.thermalLevel)

/-- The condition that calls for a level: 0 an input threshold, 1 a rail, 2 a temperature (R402). -/
def Device.levelCondition (s : Device) (n : Nat) : Nat :=
  if n ≤ s.power.inputLevel then 0 else if n ≤ s.railLevel then 1 else 2

def Device.shedRec (s : Device) (code old new cond : Nat) : Rec :=
  { Rec.plain code (dpMod (if cond = 1 then 6 else 0)) (ctlMp s.primary) (10 + s.primary) with
    vals := [(1, old), (1, new), (1, cond)] }

/-- A log save begins (R501). -/
def Device.startSave (s : Device) : Device := { s with log := { s.log with saving := true } }

/-- An update of the hamper is interrupted: the target slot stays without a header (R460). -/
def Device.interruptUpdate (s : Device) : Device := s.failOps (fun o => opKind o.handle == 4)

/-- Ports 0 to 15 leave use without being marked failed (R422). -/
def Device.portsDown (s : Device) : Device :=
  let s := (List.range 16).foldl (fun s n => s.modPort n (fun p => { p with
    link := false, inUse := false, rate := 0, training := false })) s
  { s with net := { s.net with statusDue := true } }

/-- Ports that bring-up had up and that no fault keeps out of use train again (R422). -/
def Device.portsTrain (s : Device) : Device :=
  (List.range 16).foldl (fun s n =>
    if s.boot.up.contains (.port n) then
      s.modPort n (fun p => { p with training := p.training || (!p.failed && !p.awaiting) })
    else s) s

/-- The reduction flows of a job that runs, or restores, follow the level (R338). -/
def Device.openReduction (s : Device) : Device :=
  if s.job.state = 6 ∨ s.job.state = 5 ∧ (s.liveOp 3).isSome = true then s.grantReduction reductionGrant else s

/-- The actions of a level on entry (R401). -/
def Device.shedEnter (s : Device) (n : Nat) : Device :=
  let cond := s.levelCondition n
  let s : Device := { s with power := { s.power with level := n }, net := { s.net with statusDue := true } }
  let s := (s.bumpPower (n - 1) 1).log1 (s.shedRec Code.pwrShedEntered (n - 1) n cond)
  match n with
  | 3 => (s.park 2 1).park 3 1
  | 4 => (((s.parkAll 2).settleOps).openReduction).shedThermos
  | 5 => (s.portsDown.startSave).interruptUpdate
  | _ => s

/-- What a level did is undone (R402). -/
def Device.shedLeave (s : Device) (n cond : Nat) : Device :=
  let s : Device := { s with power := { s.power with level := n - 1 }, net := { s.net with statusDue := true } }
  let s := s.log1 (s.shedRec Code.pwrShedLeft n (n - 1) cond)
  match n with
  | 3 => (s.unpark 2 1).unpark 3 1
  | 4 => ((s.unparkAll 2).settleOps).openReduction
  | 5 => if s.panel.removalReady then s else s.portsTrain
  | _ => s

/-- The actions of the level in force have finished: clocks stepped, dies parked, the checkpoint of level 4 written. -/
def Device.actionsDone (s : Device) : Bool :=
  match s.power.level with
  | 2 => (List.range 4).all (fun d => (s.die d).power != 0 || decide (2 ≤ (s.die d).clock))
  | 3 => (List.range 4).all (fun d => (s.die d).power != 1)
  | 4 => (List.range 4).all (fun d => (s.die d).power != 1) && !s.ops.any (fun o => opKind o.handle == 2 && o.lo == 1 && o.state == 0)
  | _ => true

/-- Levels are taken from the lowest not yet taken, each when the one below it has finished (R402) (DEDUCED, assumption 34). -/
def Device.shedRise (s : Device) : Nat → Device
  | 0 => s
  | f + 1 => if s.power.level < s.calledLevel ∧ s.actionsDone then (s.shedEnter (s.power.level + 1)).shedRise f else s

/-- Levels are undone from the highest down. -/
def Device.shedFall (s : Device) (cond : Nat) : Nat → Device
  | 0 => s
  | f + 1 => if s.calledLevel < s.power.level then (s.shedLeave s.power.level cond).shedFall cond f else s

/-- SHED_LEVEL_ACTIONS (R402). -/
def execShedLevelActions (s : State) : Host.Outcome State Fault Refusal := .next (s.onDev (fun d => d.shedRise 5))

/-- INPUT_THRESHOLD_CROSSED (R401). -/
def Device.inputCrossed (s : Device) (v : Nat) : Device :=
  ({ s with power := { s.power with input := v, inputLevel := max s.power.inputLevel (inputCalls v) } }).shedRise 5

def execInputThresholdCrossed (volts : Nat) (s : State) : Host.Outcome State Fault Refusal :=
  .next (s.onDev (fun d => d.inputCrossed volts))

/-- INPUT_THRESHOLD_RECOVERED (R401): a threshold is undone 1.0 V above it. -/
def Device.inputRecovered (s : Device) (v : Nat) : Device :=
  ({ s with power := { s.power with input := v, inputLevel := min s.power.inputLevel (inputCalls (v - 100)) } }).shedFall 0 5

def execInputThresholdRecovered (volts : Nat) (s : State) : Host.Outcome State Fault Refusal :=
  .next (s.onDev (fun d => d.inputRecovered volts))

/-! ## Rails and temperatures (R399, R400) -/

/-- The number a record gives a rail (DESIGN CHOICE, assumption 40). -/
def railCode : Rail → Nat
  | .aCore d => d
  | .pCore p => 4 + p
  | .hbm => 6
  | .lpddr => 7
  | .serdes => 8
  | .other => 9

/-- RAIL_CONDITION: a rail's reading, in percent of its setpoint, has stayed below thresholds for 50 µs. -/
def Device.railCondition (s : Device) (r : Rail) (percent : Nat) : Device :=
  let new := ((railThresholds r).filter (fun t => decide (percent < t.1) && !s.power.rails.contains (r, t.1))).map (fun t => (r, t.1))
  if new.isEmpty then s
  else
    let s : Device := { s with power := { s.power with rails := s.power.rails ++ new } }
    (s.log1 { Rec.plain Code.pwrRailFault (dpMod 6) (ctlMp s.primary) (10 + s.primary) with
      vals := [(1, railCode r), (1, percent)] }).shedRise 5

def execRailCondition (r : Rail) (percent : Nat) (s : State) : Host.Outcome State Fault Refusal :=
  .next (s.onDev (fun d => d.railCondition r percent))

/-- RAIL_CONDITION_CLEAR: the rail has stayed 2 % of its setpoint above thresholds for 2 ms. -/
def Device.railClear (s : Device) (r : Rail) (percent : Nat) : Device :=
  ({ s with power := { s.power with
    rails := s.power.rails.filter (fun e => !(e.1 == r && decide (e.2 + 2 ≤ percent))) } }).shedFall 1 5

def execRailConditionClear (r : Rail) (percent : Nat) (s : State) : Host.Outcome State Fault Refusal :=
  .next (s.onDev (fun d => d.railClear r percent))

def addOnce (l : List Nat) (x : Nat) : List Nat := if l.contains x then l else l ++ [x]

/-- THERMAL_TRIP (R399): the part has stayed at its trip temperature. -/
def Device.thermalTrip (s : Device) : ThermalPart → Device
  | .stripe t =>
    if 24 ≤ t ∨ (s.stripe t).tripped then s
    else
      ((s.log1 (s.thermalRec (dpDie (t / 6) 3 (t % 6)) (ctlStripe t) 10 (t / 6) 0)).modStripe t (fun x =>
        { x with tripped := true })).park (t / 6) 3
  | .pdieHot p =>
    if 2 ≤ p ∨ s.power.hotPdies.contains p then s
    else
      let s := s.log1 (s.thermalRec (dpPdie p 5 0) (ctlMp p) 0 (10 + p) 0)
      ({ s with power := { s.power with hotPdies := addOnce s.power.hotPdies p } }).modPdie p (fun x => { x with hot := true })
  | .pdie p =>
    if 2 ≤ p ∨ s.power.hotPdies.contains (p + 2) then s
    else
      let s := s.log1 (s.thermalRec (dpPdie p 5 0) (ctlMp p) 10 (10 + p) 0)
      ({ s with power := { s.power with hotPdies := addOnce s.power.hotPdies (p + 2) } }).shedRise 5
  | .stack k =>
    if 12 ≤ k ∨ s.power.hotStacks.contains k then s
    else
      let s := s.log1 (s.thermalRec (dpMem 0 0xFF k) (ctlDie (k / 3)) 0 (k / 3) 0)
      ({ s with power := { s.power with hotStacks := addOnce s.power.hotStacks k } }).park (k / 3) 4

def execThermalTrip (part : ThermalPart) (s : State) : Host.Outcome State Fault Refusal :=
  .next (s.onDev (fun d => d.thermalTrip part))

/-- THERMAL_RECOVER (R399): the part has stayed below 100 °C for 10 ms. -/
def Device.thermalRecover (s : Device) : ThermalPart → Device
  | .stripe t =>
    let s := s.modStripe t (fun x => { x with tripped := false })
    if (List.range 6).any (fun i => (s.stripe (6 * (t / 6) + i)).tripped) then s else s.unpark (t / 6) 3
  | .pdieHot p =>
    ({ s with power := { s.power with hotPdies := s.power.hotPdies.erase p } }).modPdie p (fun x => { x with hot := false })
  | .pdie p =>
    ({ s with power := { s.power with hotPdies := s.power.hotPdies.erase (p + 2) } }).shedFall 2 5
  | .stack k =>
    let s : Device := { s with power := { s.power with hotStacks := s.power.hotStacks.erase k } }
    if s.power.hotStacks.any (fun j => j / 3 == k / 3) then s else s.unpark (k / 3) 4

def execThermalRecover (part : ThermalPart) (s : State) : Host.Outcome State Fault Refusal :=
  .next (s.onDev (fun d => d.thermalRecover part))

/-! ## Loss of power (R404, R466) -/

/-- Without power only fuses, flash, the identity and the overcurrent flag stand; service 5 is Off (DEDUCED, assumption 37). -/
def Device.powerOff (s : Device) : Device :=
  { Device.reset with
    ident := s.ident, fuses := s.fuses, fresh := s.fresh
    mps := [(0, { Mp.reset with run := 0 }), (1, { Mp.reset with run := 0 })]
    log := { ErrLog.reset with flash := s.log.flash, flashOther := s.log.flashOther, flashSaves := s.log.flashSaves }
    boot := { Boot.reset with
      service := 5, slotA := s.boot.slotA, slotB := s.boot.slotB, strapPin := s.boot.strapPin
      overcurrentFlag := s.boot.overcurrentFlag } }

/-- POWER_REMOVAL (R404). -/
def execPowerRemoval (s : State) : Host.Outcome State Fault Refusal := .next (s.onDev (fun d => d.powerOff))

/-- INPUT_OVERVOLTAGE (R404): above 58.0 V a record, above 60.0 V the input is disconnected. -/
def Device.inputOvervoltage (s : Device) (v : Nat) : Device :=
  if v ≤ 5800 then s
  else
    let s : Device := { s with power := { s.power with input := v } }
    let s := s.log1 { Rec.plain Code.modInputRange (dpMod 0) (ctlMp s.primary) (10 + s.primary) with vals := [(2, v)] }
    if 6000 < v then s.powerOff else s

def execInputOvervoltage (volts : Nat) (s : State) : Host.Outcome State Fault Refusal :=
  .next (s.onDev (fun d => d.inputOvervoltage volts))

end Sys2Proof.Machine
end

