-- ==== Sys2Proof/Machine/Boot.lean ====
section
/-! DEFINITION. The hamper, bring-up, identity and attestation, primacy and Standoff, hamper update, resets and Standby
(R438 to R466, R501, R502). -/

namespace Sys2Proof.Machine

/-! ## The hamper (R439 to R445) -/

/-- Bytes of a flash slot; erased bytes read 0xFF. -/
def slotRead (t : Tab Byte) (a : Nat) : Nat → List Byte
  | 0 => []
  | n + 1 => Tab.get 0xFF t a :: slotRead t (a + 1) n

/-- A slot as it is checked: flash, or the update source in A0's HBM (R459). -/
structure SlotImage where
  bytes : Nat → Nat → List Byte

def confBase : Nat := 0x3800000

/-- A record of the configuration section: type and value (R442). -/
abbrev ConfRec := Nat × List Byte

/-- Records of a configuration section from an offset on; none when a field or the padding is wrong (DEDUCED, assumption 57). -/
def confRecords (c : List Byte) : Nat → Nat → Option (List ConfRec)
  | 0, off => if off = c.length then some [] else none
  | n + 1, off =>
    let len := fld c (off + 2) 2
    let size := roundUp (4 + len) 8
    if c.length < off + size ∨ ¬ zeros c (off + 4 + len) (size - 4 - len) then none
    else (confRecords c n (off + size)).map (fun t => (fld c off 2, sub c (off + 4) len) :: t)

def addr128 (b : List Byte) : BitVec 128 := BitVec.ofNat 128 (beNat b)

def peerOf (v : List Byte) : Peer := ⟨fld v 0 1, fld v 2 2, addr128 (sub v 4 16), addr128 (sub v 20 16)⟩

/-- The peer indices a role allows (R412). -/
def peerIndexOk (role i : Nat) : Bool :=
  if role = 0 ∨ role = 1 ∨ role = 8 then decide (i < 16)
  else if role = 4 ∨ role = 5 then decide (i < 512) else decide (i = 0)

/-- A record keeps the rules of R443 (DEDUCED, assumption 57). -/
def confRecOk (r : ConfRec) : Bool :=
  let v := r.2
  let n := v.length
  match r.1 with
  | 0x10 => decide (n = 1 ∧ fld v 0 1 ≤ 1)
  | 0x11 => decide (n = 272)
  | 0x12 => decide (n = 8) && (List.range 8).all (fun k => v.contains (BitVec.ofNat 8 k))
  | 0x13 => decide (n = 36) && decide (fld v 0 1 ≤ 8) && zeros v 1 1 && peerIndexOk (fld v 0 1) (fld v 2 2) &&
      (decide (fld v 0 1 ≠ 8) || zeros v 20 16)
  | 0x14 => decide (n = 2)
  | 0x15 => decide (n = 2 ∧ fld v 0 1 ≤ 1 ∧ fld v 1 1 ≤ 7)
  | 0x16 => decide (n = 16)
  | 0x20 => decide (n = 8 ∧ fld v 0 1 ≤ 2 ∧ fld v 1 1 ≤ 2 ∧ 100 ≤ fld v 4 4 ∧ fld v 4 4 ≤ 100000)
  | 0x21 => decide (n = 6 ∧ 1 ≤ fld v 4 2 ∧ fld v 4 2 ≤ 720)
  | 0x22 => decide (n = 16)
  | 0x23 => decide (n = 72)
  | 0x30 => decide (n = 64)
  | 0x31 => decide (n = 64)
  | _ => false

def confVal (l : List ConfRec) (k : Nat) : Option (List Byte) := (l.find? (fun r => r.1 == k)).map (·.2)

/-- The records of a section that keeps every rule. -/
def confParse (c : List Byte) : Option (List ConfRec) :=
  if decide (16 ≤ c.length) && decide (c.take 5 = [0x4E, 0x4D, 0x4B, 0x43, 1]) && zeros c 5 3 && zeros c 12 4 then
    match confRecords c (fld c 8 4) 16 with
    | some l =>
      let kinds := (l.map (·.1)).filter (· != 0x13)
      if l.all confRecOk && decide (kinds.eraseDups.length = kinds.length) && [0x10, 0x11, 0x12].all (fun k => (confVal l k).isSome)
      then some l else none
    | none => none
  else none

/-- The configuration in force, with the values of R443 for absent records. -/
def hamperOf (l : List ConfRec) : Hamper :=
  let v (k : Nat) : List Byte := (confVal l k).getD []
  let has (k : Nat) : Bool := (confVal l k).isSome
  { primacy := fld (v 0x10) 0 1
    addresses := (List.range 17).map (fun i => addr128 (sub (v 0x11) (16 * i) 16))
    roles := (v 0x12).map (·.toNat)
    peers := (l.filter (fun r => r.1 == 0x13)).map (fun r => peerOf r.2)
    udpPort := if has 0x14 then fld (v 0x14) 0 2 else 47694
    pfc := decide (fld (v 0x15) 0 1 = 1)
    pfcPriority := fld (v 0x15) 1 1
    report := if has 0x16 then some (addr128 (v 0x16)) else none
    maxProfile := fld (v 0x20) 0 1
    defaultProfile := fld (v 0x20) 1 1
    inputCap := fld (v 0x20) 2 2
    holdLimit := if has 0x20 then fld (v 0x20) 4 4 else 1000
    ceThreshold := if has 0x21 then fld (v 0x21) 0 4 else 1024
    patrolHours := if has 0x21 then fld (v 0x21) 4 2 else 24
    maxStaging := if has 0x22 then some (fld (v 0x22) 0 8) else none
    maxCompressed := if has 0x22 then some (fld (v 0x22) 8 8) else none
    outClusters := if has 0x23 then
        (List.range 576).filter (fun g => bit (fld (v 0x23) (18 * (g / 144) + g % 144 / 8) 1) (g % 8)) else [] }

/-- What a root finds in a slot: the failures (code and section: 0 header, 1 bundle, 2 configuration), the bundle's security
version, F, H, the records, and whether the configuration verified under a commissioning key. -/
structure SlotCheck where
  failures : List (Nat × Nat)
  security : Nat
  f : List Byte
  h : List Byte
  recs : List ConfRec
  commissioned : Bool
  deriving DecidableEq, Repr

/-- The slot header of R440. -/
def slotHeaderOk (h : List Byte) : Bool :=
  decide (h.take 5 = [0x4E, 0x4D, 0x4B, 0x48, 1]) && zeros h 5 3 && zeros h 24 40 && decide (sub h 64 64 = shake256 (h.take 64) 64) &&
    zeros h 128 3968 && decide (6 ≤ fld h 16 4 ∧ fld h 16 4 + 29856 ≤ 0x37FF000) && decide (16 ≤ fld h 20 4 ∧ fld h 20 4 + 29856 ≤ 0x100000)

/-- A trailer verifies: the hash of its key is the expected one and its signature holds (R441). -/
def trailerOk (hash measure trailer : List Byte) : Bool :=
  decide (shake256 (trailer.take 64) 64 = hash) && Config.slhVerify (trailer.take 64) measure (trailer.drop 64)

/-- R441, R444 and R445 on one slot image. -/
def checkSlot (fuse : Fuses) (img : SlotImage) : SlotCheck :=
  let h := img.bytes 0 4096
  if !slotHeaderOk h then ⟨[(Code.bootHamperInvalid, 0)], 0, [], [], [], false⟩
  else
    let bl := fld h 16 4
    let cl := fld h 20 4
    let bundle := img.bytes 4096 bl
    let conf := img.bytes confBase cl
    let f := shake256 bundle 64
    let hm := shake256 conf 64
    let recs := confParse conf
    let trailer := img.bytes (confBase + cl) 29856
    let comm := ((recs.getD []).find? (fun r => r.1 == 0x30)).map (·.2)
    let commissioned := fuse.owners.isEmpty
    let confOk := match fuse.ownerHash with
      | some hash => trailerOk hash hm trailer
      | none => commissioned && (match comm with | some k => trailerOk (shake256 k 64) hm trailer | none => false)
    let fails := (if trailerOk fuse.oavarHash f (img.bytes (4096 + bl) 29856) then [] else [(Code.bootSignatureFail, 1)]) ++
      (if bundle.take 5 = [0x4E, 0x4D, 0x4B, 0x46, 1] ∧ fuse.minSecurity ≤ fld bundle 5 1 then [] else [(Code.bootHamperInvalid, 1)]) ++
      (if confOk then [] else [(Code.bootSignatureFail, 2)]) ++ (if recs.isSome then [] else [(Code.bootHamperInvalid, 2)])
    ⟨fails, fld bundle 5 1, f, hm, recs.getD [], commissioned⟩

def SlotCheck.ok (c : SlotCheck) : Bool := c.failures.isEmpty

def Device.slotImage (s : Device) (slot : Nat) : SlotImage := ⟨fun a n => slotRead (if slot = 0 then s.boot.slotA else s.boot.slotB) a n⟩

/-! ## Keys and endorsement (R452, R453) -/

def Fuses.rootSeed (f : Fuses) : List Byte :=
  shake256 ([0x4E, 0x4D, 0x4B, 0x2D, 0x52, 0x4F, 0x4F, 0x54] ++ f.secret) 96
def Fuses.idSeed (f : Fuses) (measure : List Byte) : List Byte :=
  shake256 ([0x4E, 0x4D, 0x4B, 0x2D, 0x49, 0x44, 0x4B] ++ f.secret ++ measure) 96
def Fuses.rootKey (f : Fuses) : List Byte := Config.slhPublicKey false f.rootSeed

def endorsementArea : Nat := 0x3FF0000
def endorsedText (idKey f : List Byte) : List Byte := [0x4E, 0x4D, 0x4B, 0x2D, 0x45, 0x4E, 0x44] ++ idKey ++ f

/-- The endorsement of a slot's area, when it is this F's and verifies. -/
def heldEndorsement (fuse : Fuses) (img : SlotImage) (f idKey : List Byte) : List Byte :=
  let e := img.bytes (endorsementArea + 128) 29792
  if decide (img.bytes endorsementArea 64 = f) && Config.slhVerify fuse.rootKey (endorsedText idKey f) e then e else []

/-- Write flash bytes of a slot. -/
def slotWrite (t : Tab Byte) (a : Nat) : List Byte → Tab Byte
  | [] => t
  | b :: r => slotWrite (Tab.set 0xFF t a b) (a + 1) r

def Device.modSlot (s : Device) (slot : Nat) (f : Tab Byte → Tab Byte) : Device :=
  if slot = 0 then { s with boot := { s.boot with slotA := f s.boot.slotA } }
  else { s with boot := { s.boot with slotB := f s.boot.slotB } }

/-! ## Releasing a management processor (R444 to R446, R451) -/

/-- A record of a root of trust about a slot. -/
def rootRec (code p slot tag : Nat) (vals : List (Nat × Nat)) : Rec :=
  { Rec.plain code (dpMod (4 + slot)) (ctlMp p) (12 + p) with tag := tag, vals := vals }

def Device.reportSlot (s : Device) (p slot : Nat) (c : SlotCheck) : Device :=
  c.failures.foldl (fun s e => s.log1 (rootRec e.1 p slot 0 [(1, slot), (1, e.2)])) s

/-- Owner fuses as the loaded configuration makes them (R444). -/
def Device.fuseOwner (s : Device) (p slot : Nat) (c : SlotCheck) : Device :=
  let f := s.fuse p
  if c.commissioned then
    match confVal c.recs 0x30 with
    | some k => (s.modFuse p (fun f => { f with owners := [(⟨shake256 k 64, false⟩ : OwnerEntry)] })).log1 (rootRec Code.secOwnerKeyFused p slot 0 [])
    | none => s
  else
    match confVal c.recs 0x31 with
    | none => s
    | some k =>
      if 4 ≤ f.owners.length then s.log1 (rootRec Code.bootHamperInvalid p slot 20 [(1, slot), (1, 2)])
      else
        let i := f.owners.findIdx (fun o => !o.revoked)
        (s.modFuse p (fun f => { f with owners := ((List.range f.owners.length).zip f.owners).map (fun e =>
            if e.1 = i then { e.2 with revoked := true } else e.2) ++ [(⟨shake256 k 64, false⟩ : OwnerEntry)] })).log1
          (rootRec Code.secOwnerKeyFused p slot 0 [])

/-- The roots bring the fuse that lags up to date, once both have booted (R438). -/
def Device.syncFuses (s : Device) (p : Nat) : Device :=
  if (s.mp (1 - p)).run < 2 then s
  else
    let a := s.fuse 0
    let b := s.fuse 1
    let m := max a.minSecurity b.minSecurity
    let owners := if a.owners.length < b.owners.length then b.owners else a.owners
    (s.modFuse 0 (fun f => { f with minSecurity := m, owners := owners })).modFuse 1 (fun f => { f with minSecurity := m, owners := owners })

/-- The slot a root loads: of the two that are valid the first in order. While a primacy decision waits, the other
processor's root takes the named primary's slot (R446, R458) (DEDUCED, assumption 58). -/
def Device.slotOrder (s : Device) (p : Nat) : List Nat :=
  match s.boot.wantPrimary with
  | some w => if w ≠ p ∧ (s.mp w).run = 2 then [(s.mp w).slot, 1 - (s.mp w).slot] else [0, 1]
  | none => [0, 1]

/-! ### Standoff (R457, R502) -/

/-- BOOT_STANDOFF of a processor: the primary's goes into the log, the other's into its own with flag 3. -/
def Device.holdStandoff (s : Device) (p : Nat) : Device :=
  let dp := dpPdie p 5 0
  let r : Rec := ⟨Code.bootStandoff, 1, dp, ctlMp p, 0, 0, 0, [], 10 + p, 0⟩
  if p = s.primary then s.hold r (.standoff p)
  else
    let now := s.stamp r.domain
    let e : LogEntry := ⟨r.code, 1, false, false, false, true, 0, BitVec.ofNat 32 dp, BitVec.ofNat 16 (ctlMp p), 1, 0, 0, [],
      r.domain, now, now, 0, true⟩
    let s := { s with
      fresh := s.fresh + 1
      log := { s.log with
        standoffLog := s.log.standoffLog ++ [e]
        holds := s.log.holds ++ [(⟨Code.bootStandoff, BitVec.ofNat 32 dp, 0, 0, .standoff p⟩ : Hold)] } }
    s.sendReports 0x08 e.record

/-- A processor enters Standoff: compute parks and the step is suspended (R457). -/
def Device.enterStandoff (s : Device) (p : Nat) : Device :=
  if (s.mp p).standoff ∨ (s.mp p).run < 2 then s
  else
    let s : Device := if s.standoff then s else { s with log := { s.log with standoffSeq := s.log.nextSeq } }
    let s := s.holdStandoff p
    let s := s.modMp p (fun x => { x with standoff := true })
    let s := { s with net := { s.net with statusDue := true } }
    (s.parkAll 5).settleOps

def Device.bothStandoff (s : Device) : Device := (s.enterStandoff 0).enterStandoff 1

/-- Renumber records from a sequence on. -/
def renumber : Nat → List LogEntry → List LogEntry
  | _, [] => []
  | n, e :: t => { e with seq := n } :: renumber (n + 1) t

/-- The named primary's records of the Standoff come first, then the other's, with new numbers (R502). -/
def Device.mergeLogs (s : Device) (p : Nat) : Device :=
  let l := s.log
  let before := l.entries.filter (fun e => decide (e.seq < l.standoffSeq))
  let own := l.entries.filter (fun e => decide (l.standoffSeq ≤ e.seq))
  let after := if p = s.primary then own ++ l.standoffLog else l.standoffLog ++ own
  { s with log := { l with
    entries := (before ++ renumber l.standoffSeq after).take 4096
    nextSeq := l.standoffSeq + after.length, standoffLog := [], changed := true } }

/-- Power takes the primary's hamper (R396). -/
def Device.takeHamper (s : Device) : Device :=
  match s.hamper with
  | some h => { s with power := { s.power with request := h.defaultProfile, maxProfile := h.maxProfile, defaultProfile := h.defaultProfile } }
  | none => s

/-- A processor is primary and the other secondary; Standoff, if any, ends (R456, R458). -/
def Device.setPrimary (s : Device) (p : Nat) : Device :=
  let first := !s.boot.agreed
  let was := s.standoff
  let holds := s.log.holds.filter (fun h => h.code == Code.bootStandoff)
  let mark (l : List LogEntry) : List LogEntry := l.map (fun e =>
    if e.code = Code.bootStandoff ∧ ¬e.restored then { e with decided := true } else e)
  let s : Device := if was then { s with log := { s.log with
      holds := s.log.holds.filter (fun h => !holds.contains h), entries := mark s.log.entries, standoffLog := mark s.log.standoffLog } }
    else s
  let s := if was then s.mergeLogs p else s
  let s := (s.modMp 0 (fun x => { x with standoff := false })).modMp 1 (fun x => { x with standoff := false })
  let s : Device := { s with
    boot := { s.boot with
      primary := p, agreed := true, wantPrimary := none, override := if p = (s.mp p).strap then none else some p }
    net := { s.net with statusDue := true } }
  let s := if first then s.takeHamper else s
  if was then (s.unparkAll 5).settleOps else s

/-- The processors loaded the same firmware, configuration and slot (R456). -/
def Device.sameLoad (s : Device) : Bool :=
  (s.mp 0).run == 2 && (s.mp 1).run == 2 && (s.mp 0).f == (s.mp 1).f && (s.mp 0).h == (s.mp 1).h && (s.mp 0).slot == (s.mp 1).slot

/-- Strap and primacy record name the same processor on both sides. -/
def Device.strapAgrees (s : Device) : Bool :=
  (List.range 2).all (fun p => match (s.mp p).hamper with
    | some h => decide (h.primacy = (s.mp p).strap)
    | none => false) && decide ((s.mp 0).strap = (s.mp 1).strap)

/-- Primacy as the exchanged straps and measurements decide it (R456 to R458). -/
def Device.agree (s : Device) : Device :=
  if (s.mp 0).run < 2 ∨ (s.mp 1).run < 2 ∨ ¬(s.mp 0).heard ∨ ¬(s.mp 1).heard then s
  else if s.standoff then
    match s.boot.wantPrimary with
    | some w => if s.sameLoad && !s.boot.heartbeatLost then s.setPrimary w else s
    | none => s
  else if s.boot.agreed then s
  else if s.sameLoad && s.strapAgrees then s.setPrimary (s.mp 0).strap
  else s.bothStandoff

/-- MP_RELEASE: the root checks its slots, fuses what the configuration asks for, records F and H, derives the identity key
and releases its processor; without a valid slot the recovery loader runs (R444 to R446, R451) (DEDUCED, assumption 58). -/
def Device.mpRelease (s : Device) (p : Nat) : Device :=
  if 2 ≤ p ∨ (s.mp p).run ≠ 1 then s
  else
    let order := s.slotOrder p
    let s0 := nth 0 order 0
    let s1 := nth 0 order 1
    let c0 := checkSlot (s.fuse p) (s.slotImage s0)
    let c1 := checkSlot (s.fuse p) (s.slotImage s1)
    let valid := if s0 = 0 then [c0.ok, c1.ok] else [c1.ok, c0.ok]
    let s : Device := { s with boot := { s.boot with slotValid := valid } }
    let s := if c0.ok then s else s.reportSlot p s0 c0
    if !c0.ok && !c1.ok then
      let s := (s.reportSlot p s1 c1).log1 { rootRec Code.bootNoValidSlot p 0 0 [] with dp := dpPdie p 6 0 }
      (s.modMp p (fun x => { x with run := 3, strap := s.boot.strapPin, heard := false })).bothStandoff
    else
      let (slot, c) := if c0.ok then (s0, c0) else (s1, c1)
      let s := if !c0.ok ∧ s1 = 1 then s.log1 (rootRec Code.bootFallbackSlot p 1 0 []) else s
      let s := s.fuseOwner p slot c
      let s := if c0.ok ∧ c1.ok ∧ c0.security = c1.security ∧ (s.fuse p).minSecurity < c0.security then
          s.modFuse p (fun f => { f with minSecurity := c0.security }) else s
      let idKey := Config.slhPublicKey true ((s.fuse p).idSeed c.f)
      let e := heldEndorsement (s.fuse p) (s.slotImage slot) c.f idKey
      let s := s.modMp p (fun x => { x with
        run := 2, slot := slot, hamper := some (hamperOf c.recs), f := c.f, h := c.h, idKey := idKey, endorsement := e
        strap := s.boot.strapPin, heard := false })
      let s := s.syncFuses p
      if (s.mp (1 - p)).run = 3 then s.bothStandoff else s

def execMpRelease (p : Nat) (s : State) : Host.Outcome State Fault Refusal := .next (s.onDev (fun d => d.mpRelease p))

/-- ENDORSEMENT_SIGNED (R453): the new endorsement is written to the loaded slot's area, and signing of a waiting quote
begins. -/
def Device.endorsementSigned (s : Device) (p : Nat) : Device :=
  let x := s.mp p
  if 2 ≤ p ∨ x.run ≠ 2 ∨ ¬ x.endorsement.isEmpty then s
  else
    let e := Config.slhSign false (s.fuse p).rootSeed (endorsedText x.idKey x.f)
    let s := s.modSlot x.slot (fun t => slotWrite t endorsementArea (x.f ++ x.idKey ++ e))
    let s := s.modMp p (fun x => { x with endorsement := e })
    if x.quoting then s.modOp x.quoteHandle (fun o => { o with next := 1 }) else s

def execEndorsementSigned (p : Nat) (s : State) : Host.Outcome State Fault Refusal :=
  .next (s.onDev (fun d => d.endorsementSigned p))

/-- HEARTBEAT (R456): the other processor hears it, and primacy is agreed once both are heard. -/
def Device.heartbeat (s : Device) (p : Nat) : Device :=
  if 2 ≤ p ∨ (s.mp p).run < 2 then s else (s.modMp (1 - p) (fun x => { x with heard := true })).agree

def execHeartbeat (p : Nat) (s : State) : Host.Outcome State Fault Refusal := .next (s.onDev (fun d => d.heartbeat p))

/-- HEARTBEAT_LOST (R457). -/
def Device.heartbeatLost (s : Device) : Device :=
  if s.boot.heartbeatLost ∨ ((s.mp 0).run < 2 ∧ (s.mp 1).run < 2) then s
  else ({ s with boot := { s.boot with heartbeatLost := true } }).bothStandoff

def execHeartbeatLost (s : State) : Host.Outcome State Fault Refusal := .next (s.onDev (fun d => d.heartbeatLost))

/-- A primacy decision takes effect (R458): processors that differ wait for the other's restart, a lost heartbeat for its
return. -/
def Device.decidePrimary (s : Device) (p : Nat) : Device :=
  let s : Device := { s with boot := { s.boot with wantPrimary := some p } }
  if s.boot.heartbeatLost then s
  else if s.sameLoad then s.setPrimary p
  else s.modMp (1 - p) (fun x => { Mp.reset with standoff := x.standoff })

/-- HEARTBEAT_RESTORED (R458): a decision that was recorded now takes effect. -/
def Device.heartbeatBack (s : Device) : Device :=
  let s : Device := { s with boot := { s.boot with heartbeatLost := false } }
  match s.standoff, s.boot.wantPrimary with
  | true, some p => s.decidePrimary p
  | _, _ => s.agree

def execHeartbeatRestored (s : State) : Host.Outcome State Fault Refusal := .next (s.onDev (fun d => d.heartbeatBack))

/-! ## Bring-up (R447 to R450) -/

def Device.isUp (s : Device) (x : Part) : Bool := s.boot.up.contains x

/-- The dies, stacks and devices that full service needs. -/
def Device.partsNeeded (s : Device) : List Part :=
  ((List.range 4).filter (fun d => !s.dieOut d)).map Part.die ++
    ((List.range 12).filter (fun k => !s.dieOut (k / 3))).map Part.stack ++ (List.range 12).map Part.device

/-- A part that stops bring-up when it fails: every one but a port. -/
def vital : Part → Bool
  | .port _ => false
  | _ => true

def partDp : Part → Nat
  | .die d => dpDie d 3 0
  | .stack k => dpMem 0 0xFF k
  | .device k => dpMem 1 0xFF k
  | .rail _ => dpMod 6
  | .port n => dpPort n 0xFFF

/-- BOOT_TRAINING_FAIL of a part (R450). -/
def Device.partFailed (s : Device) (x : Part) : Device :=
  let s : Device := { s with boot := { s.boot with failedParts := s.boot.failedParts ++ [x] } }
  if vital x then
    s.log1 { Rec.plain Code.bootTrainingFail (partDp x) (ctlMp s.primary) (10 + s.primary) with
      vals := match x with | .rail r => [(1, railCode r)] | _ => [] }
  else s

/-- A port comes up: ports 0 and 8 at 400 Gb/s before full service, while the others stay down; at full service each at
1.6 Tb/s; one without an optic awaits a reset (R26, R423, R477). -/
def Device.portUp (s : Device) (n : Nat) : Device :=
  let slow := decide (n = 0 ∨ n = 8) && decide (s.boot.service ≠ 2)
  if n < 16 ∧ (5 ≤ s.power.level ∨ (n % 8 ≠ 0 ∧ s.boot.service ≠ 2)) then s
  else s.modPort n (fun p =>
    if n < 16 ∧ ¬p.optic then { p with awaiting := true }
    else { p with link := true, inUse := true, rate := if slow then 1 else 2, training := false })

/-- PART_BRING_UP_COMPLETE (R447, R450). A recovery loader brings up none of its P-die's ports (R451). Standoff, shed levels and
an Attend grant hold the parts after Stroll back (DEDUCED, assumption 59). -/
def Device.partComplete (s : Device) (x : Part) (ok : Bool) : Device :=
  let early := match x with
    | .die d => decide (d = 0)
    | .stack k => decide (k < 3)
    | .port n => decide (n = 0 ∨ n = 8 ∨ n = 16)
    | .rail _ => true
    | .device _ => false
  let waits := match x with | .die d => decide (d ≠ 0) && decide (3 ≤ s.power.level) | _ => false
  let loader := match x with | .port n => decide (n < 16) && decide ((s.mp (n / 8)).run = 3) | _ => false
  if loader || 2 ≤ s.boot.service || s.isUp x || s.boot.failedParts.contains x || ((s.mp 0).run < 2 && (s.mp 1).run < 2) ||
      (!early && (s.standoff || !s.boot.agreed || s.boot.stopBringUp || decide (s.boot.service ≠ 1) || waits)) then s
  else if !ok then s.partFailed x
  else
    let s : Device := { s with boot := { s.boot with up := s.boot.up ++ [x] }, net := { s.net with statusDue := true } }
    match x with
    | .die d => s.modDie d (fun y => { y with power := if y.parkCauses.isEmpty then 0 else 1 })
    | .port n => let s := s.portUp n; if n = 16 then s.sendAttend else s
    | _ => s

def execPartBringUpComplete (part : Part) (ok : Bool) (s : State) : Host.Outcome State Fault Refusal :=
  .next (s.onDev (fun d => d.partComplete part ok))

/-- STROLL_SERVICE (R447, R448) (DEDUCED, assumption 59). -/
def Device.strollService (s : Device) (ms : Nat) : Device :=
  let tried (n : Nat) : Bool := s.isUp (.port n) || s.boot.failedParts.contains (.port n) || decide ((s.mp (n / 8)).run = 3)
  if s.boot.service = 0 && (s.boot.agreed || s.standoff) && ((s.mp 0).run == 2 || (s.mp 1).run == 2) &&
      ([.die 0, .stack 0, .stack 1, .stack 2] : List Part).all s.isUp && tried 0 && tried 8 then
    { s with
      boot := { s.boot with service := 1, strollMs := min 4095 ms }
      net := { s.net with statusDue := true } }
  else s

def execStrollService (ms : Nat) (s : State) : Host.Outcome State Fault Refusal := .next (s.onDev (fun d => d.strollService ms))

/-- FULL_SERVICE (R447, R450, R467): ports 0 and 8 have retrained, one after the other, and the trained others come into use
(R423). -/
def Device.fullService (s : Device) : Device :=
  if s.boot.service = 1 && s.boot.agreed && !s.standoff && !s.boot.stopBringUp && decide (s.power.level < 3) &&
      s.partsNeeded.all s.isUp && !s.boot.failedParts.any vital then
    let s := (List.range 2).foldl (fun s i => s.modPort (8 * i) (fun p => { p with rate := if p.inUse then 2 else p.rate })) s
    let s : Device := { s with boot := { s.boot with service := 2 }, net := { s.net with statusDue := true } }
    ((List.range 16).filter (fun n => n % 8 ≠ 0 && s.isUp (.port n))).foldl Device.portUp s
  else s

def execFullService (s : State) : Host.Outcome State Fault Refusal := .next (s.onDev (fun d => d.fullService))

/-- Bring-up is under way and full service has not come. -/
def Device.bringingUp (s : Device) : Bool := decide (s.boot.service ≤ 1) && !s.boot.stopBringUp && decide (2 ≤ max (s.mp 0).run (s.mp 1).run)

/-- BOOT_FULL_LATE (R450). -/
def Device.fullLate (s : Device) : Device :=
  if s.bringingUp then s.log1 (Rec.plain Code.bootFullLate (dpPdie s.primary 5 0) (ctlMp s.primary) (10 + s.primary)) else s

def execBootFullLate (s : State) : Host.Outcome State Fault Refusal := .next (s.onDev (fun d => d.fullLate))

/-- BRING_UP_DEADLINE (R450): each part still not up is reported failed. -/
def Device.bringUpDeadline (s : Device) : Device :=
  if s.bringingUp then
    (s.partsNeeded.filter (fun x => !s.isUp x && !s.boot.failedParts.contains x)).foldl Device.partFailed s
  else s

def execBringUpDeadline (s : State) : Host.Outcome State Fault Refusal := .next (s.onDev (fun d => d.bringUpDeadline))

/-! ## Power-on and module reset (R461, R466, R501) -/

/-- Entries as a restore brings them back: flagged, every held one decided (R501). -/
def restoredEntries (l : List LogEntry) : List LogEntry :=
  l.map (fun e => { e with restored := true, decided := e.decided || decide (e.severity = 1), reported := true })

/-- The module as both roots leave reset: what R466 keeps at power-on, with `cause` for BOOT_STATE. -/
def Device.restart (s : Device) (cause strap : Nat) : Device :=
  let l := restoredEntries s.log.flash
  { Device.reset with
    ident := s.ident, fuses := s.fuses, fresh := s.fresh
    log := { ErrLog.reset with
      flash := s.log.flash, flashOther := s.log.flashOther, flashSaves := s.log.flashSaves, entries := l
      nextSeq := (l.map (·.seq)).foldl max 0 + 1 }
    boot := { Boot.reset with
      primary := strap % 2, cause := cause, slotA := s.boot.slotA, slotB := s.boot.slotB, strapPin := strap % 2 }
    panel := { Panel.reset with ejector := s.panel.ejector }
    net := { Net.reset with ports := (List.range 16).filterMap (fun n =>
      if (s.port n).optic then none else some (n, { Port.reset with optic := false })) } }

/-- The record of a past overcurrent, from the hot-swap controller's flag (R479). -/
def Device.reportOvercurrent (s : Device) : Device :=
  s.log1 { Rec.plain Code.modInputRange (dpMod 0) (ctlMp s.primary) (10 + s.primary) with tag := 13 }

/-- POWER_ON (R461): only a module that is off starts (DEDUCED, assumption 37). -/
def Device.powerOn (s : Device) (strap : Nat) : Device :=
  if s.boot.service ≠ 5 then s
  else
    let t := s.restart 0 strap
    if s.boot.overcurrentFlag then t.reportOvercurrent else t

def execPowerOn (strap : Nat) (s : State) : Host.Outcome State Fault Refusal := .next (s.onDev (fun d => d.powerOn strap))

/-- MODULE_RESET (R461): as power-on, but LPDDR5X is kept. -/
def Device.moduleReset (s : Device) (strap : Nat) : Device :=
  if s.boot.service = 5 then s
  else
    let kept (a : Nat) : Bool := decide (lpBase ≤ a) && decide (a < lpBase + 2 * lpWindow)
    { s.restart 1 strap with mem := s.mem.filter (fun e => kept e.1), damaged := s.damaged.filter (fun w => kept (64 * w)) }

def execModuleReset (strap : Nat) (s : State) : Host.Outcome State Fault Refusal := .next (s.onDev (fun d => d.moduleReset strap))

/-! ## RESET_CTRL (R459 to R462, R465) -/

/-- A warm reset (R461, R466), which zeroes the port counters too. The answer to its WRITE has been sent. -/
def Device.warmReset (s : Device) : Device :=
  let s := (s.failOps (fun _ => true)).jobReset false
  let s := s.zero 0 (4 * hbmSize)
  { s with
    ops := [], endedOps := [], frozen := none
    mps := s.mps.map (fun (e : Nat × Mp) => (e.1, { e.2 with quoting := false }))
    counters := []
    boot := { s.boot with warmReset := true, cause := 2, updateSlot := 2, updateSector := 0 }
    power := { s.power with request := s.power.defaultProfile }
    panel := { s.panel with lightMode := 0, lightDuration := 0 }
    net := { s.net with flows := [], requests := [], attested := [], statusDue := true } }

/-- WARM_RESET_COMPLETE: full answering resumes; the commands and messages that waited are taken by its command's meaning. -/
def Device.warmResetComplete (s : Device) : Device :=
  if s.boot.warmReset then { s.jobResetComplete with boot := { s.boot with warmReset := false } } else s

/-- What a port reset restarts of the flows of its pair (R466) (DEDUCED, assumption 78): the send rate; and, where no side of
the pair is left in use, the sequences and credits of the management flows, whose kept messages take new numbers. Data flows
keep theirs, which start only with an epoch (R415), and their messages (R422). -/
def Flow.portRestart (flow : Nat) (alone : Bool) (f : Flow) : Flow :=
  let f := { f with rate := Flow.reset.rate }
  if alone ∧ flowClass flow = 0 then
    let all := f.unacked ++ f.waiting
    { f with
      unacked := [], waiting := ((List.range all.length).zip all).map (fun e => { e.2 with seq := BitVec.ofNat 32 e.1 })
      txNext := BitVec.ofNat 32 all.length, window := none, resends := 0, held := false, rxDue := 0, rxGrant := none
      rxHeld := false, buffer := [], toAck := 0 }
  else f

/-- A port reset (R461, R422): the port leaves use without NET_LINK_DOWN and retrains (R466) (DEDUCED, assumption 78). -/
def Device.portReset (s : Device) (n : Nat) : Device :=
  if 16 ≤ n ∨ ¬(s.port n).optic then s
  else
    let s := s.modPort n (fun p => { p with inUse := false, link := false, rate := 0, training := true, awaiting := false, failed := p.failed || p.awaiting })
    let partner := (s.port ((n + 8) % 16)).inUse
    let s : Device := { s with net := { s.net with
      statusDue := true
      flows := s.net.flows.map (fun (e : Nat × Flow) =>
        (e.1, if keyPair e.1 = n % 8 then e.2.portRestart (keyFlow e.1) (!partner) else e.2)) } }
    if partner then (s.announce (n % 8)).replayPort n else s

/-- What refuses a hamper update: the detail of the refusal (R459). `p` receives the write. -/
def Device.updateRefused (s : Device) (p slot : Nat) : Option Nat :=
  let recovery := decide ((s.mp p).run = 3)
  if s.hasJob then some 0
  else if s.boot.service = 4 then some 0
  else if s.standoff && !recovery then some 34
  else if !recovery && !nth false s.boot.slotValid (1 - slot) then some 21
  else if (s.liveOp 4).isSome then some 16
  else none

/-- The image the host has written to the update source. -/
def updateSource : Nat := 0x23BC000000
def Device.sourceImage (s : Device) : SlotImage := ⟨fun a n => s.read (updateSource + a) n⟩

def eraseRange (t : Tab Byte) (lo n : Nat) : Tab Byte := Tab.clear t lo (lo + n)

/-- The staged image of a hamper update is checked, once A0 is not parked (R54): a failed check leaves the flash untouched,
else the target's header sector is erased first (DEDUCED, assumption 60). The operation's `lo` is the processor that took the
write. -/
def Device.checkUpdate (s : Device) : Device :=
  match s.liveOp 4 with
  | none => s
  | some o =>
    let slot := s.boot.updateSlot
    if 2 ≤ o.state ∨ 2 ≤ slot ∨ s.boot.updateSector ≠ 0 ∨ (s.waitsForDie updateSource).isSome then s
    else
      let c := checkSlot (s.fuse o.lo) s.sourceImage
      match c.failures.head? with
      | some e =>
        let s : Device := { s with boot := { s.boot with updateSlot := 2 } }
        (s.reportSlot o.lo slot c).endOp o.handle 5 4 e.1
      | none =>
        let s := s.modSlot slot (fun t => eraseRange t 0 65536)
        { s with boot := { s.boot with slotValid := putAt s.boot.slotValid slot false, updateSector := 1 } }

/-- A hamper update begins (R459). -/
def Device.startUpdate (s : Device) (p slot : Nat) : Device :=
  let s := (s.newOp 4 1023 p 0).1
  ({ s with boot := { s.boot with updateSlot := slot, updateSector := 0 } }).checkUpdate

/-- HAMPER_SECTOR_WRITTEN (R459): sectors ascend, the header's comes last; then the slot is read back and checked
(DEDUCED, assumption 60). -/
def Device.sectorWritten (s : Device) : Device :=
  match s.liveOp 4 with
  | none => s
  | some o =>
    let slot := s.boot.updateSlot
    let n := s.boot.updateSector
    if 2 ≤ o.state ∨ 2 ≤ slot ∨ (s.waitsForDie updateSource).isSome then s
    else if n = 0 then s.checkUpdate
    else
      let put (s : Device) (i : Nat) : Device :=
        let data := s.read (updateSource + 65536 * i) 65536
        s.modSlot slot (fun t => slotWrite (eraseRange t (65536 * i) 65536) (65536 * i) data)
      let s := s.modOp o.handle (fun o => { o with passed := o.passed + 1 })
      if n < 1023 then
        let s := put s n
        { s with boot := { s.boot with updateSector := n + 1 } }
      else
        let s := put (s.modSlot slot (fun t => eraseRange t endorsementArea 65536)) 0
        let c := checkSlot (s.fuse s.primary) (s.slotImage slot)
        let s : Device := { s with boot := { s.boot with slotValid := putAt s.boot.slotValid slot c.ok, updateSlot := 2, updateSector := 0 } }
        match c.failures.head? with
        | none => s.endOp o.handle 4 0 0
        | some e => (s.reportSlot s.primary slot c).endOp o.handle 5 4 e.1

def execHamperSectorWritten (s : State) : Host.Outcome State Fault Refusal := .next (s.onDev (fun d => d.sectorWritten))

/-- Standby is refused with a job, or an operation other than a quote (R465). -/
def Device.standbyRefused (s : Device) : Bool := s.hasJob || s.ops.any (fun o => opKind o.handle != 6)

/-- STANDBY_ENTERED (R465, R466): the log is saved, the ports and A-dies are off, the HBM's contents are lost, and the flows
start again, those of the management port among them. -/
def Device.standbyEntered (s : Device) : Device :=
  if !s.boot.standbyEntry then s
  else
    let s := s.portsDown
    let s := (s.zeroCompute.clearCounters)
    { s with
      log := { s.log with flash := s.log.entries, flashOther := s.log.flash, flashSaves := s.log.flashSaves + 1, saving := false, changed := false }
      dies := s.dies.map (fun (e : Nat × Die) => (e.1, { Die.reset with parkCauses := e.2.parkCauses.filter (· == 5) }))
      stripes := [], frozen := none
      pdies := s.pdies.map (fun (e : Nat × Pdie) => (e.1, { Pdie.reset with patrol := e.2.patrol }))
      job := { Job.reset with lastEpoch := s.job.lastEpoch }
      boot := { s.boot with service := 4, standbyEntry := false, up := s.boot.up.filter (· == .port 16), failedParts := [] }
      power := { s.power with rails := [], hotPdies := [], hotStacks := [], level := 0, inputLevel := 0 }
      panel := { s.panel with lightMode := 0, lightDuration := 0 }
      net := { s.net with flows := [], requests := [], attested := [], statusDue := true } }

def execStandbyEntered (s : State) : Host.Outcome State Fault Refusal := .next (s.onDev (fun d => d.standbyEntered))

/-- Action 6 starts bring-up again from the P-die rails (R465). -/
def Device.leaveStandby (s : Device) : Device :=
  if s.boot.service = 4 then
    { s with boot := { s.boot with service := 0, cause := 3, stopBringUp := false }, net := { s.net with statusDue := true } }
  else s

/-! ## Attestation (R454, R455) -/

/-- The 384 bytes a quote signs. -/
def Device.quoteBody (s : Device) (p service : Nat) (nonce : List Byte) : List Byte :=
  let x := s.mp p
  [0x4E, 0x4D, 0x4B, 0x51, 1, BitVec.ofNat 8 service, BitVec.ofNat 8 p, BitVec.ofNat 8 x.slot] ++ leBytes 8 s.ident.serial.toNat ++ x.f ++ x.h ++
    (if s.job.measure.isEmpty then List.replicate 64 0 else s.job.measure) ++ nonce ++ leBytes 4 (if s.hasJob then s.job.epoch else 0) ++
    leBytes 6 s.job.step ++ [BitVec.ofNat 8 s.job.state] ++ List.replicate 5 0 ++ x.idKey ++ (s.fuse p).rootKey

/-- The service a processor reports (R429, R451). -/
def Device.serviceOf (s : Device) (p : Nat) : Nat :=
  if (s.mp p).run = 3 then 0 else if s.standoff ∧ s.boot.service ≤ 2 then 3 else s.boot.service

/-- ATTEST_REQ as it reaches processor `p`; signing begins at once when the endorsement is held (DEDUCED, assumption 61). -/
def Device.onAttest (s : Device) (k p : Nat) (m : Msg) : Device :=
  let x := s.mp p
  if m.payload.length ≠ 64 ∨ ¬ zeros m.payload 32 32 then s.logMsg m (s.netRec Code.netMessageMalformed m)
  else if x.run ≠ 2 then s
  else if x.quoting then s.refuseOp k x.quoteHandle 0 Code.secAttestBusy
  else
    let (s, o) := s.newOp 6 0 (if x.endorsement.isEmpty then 0 else 1) 0
    s.modMp p (fun x => { x with
      quoting := true, quoteBody := s.quoteBody p (s.serviceOf p) (m.payload.take 32), quoteKey := k, quoteHandle := o.handle })

/-- ATTEST_QUOTE: the signed quote is sent, and the session is attested for the source (R428, R454) (DEDUCED, assumption 61). -/
def Device.sendQuote (s : Device) (p : Nat) : Device :=
  let x := s.mp p
  if 2 ≤ p ∨ ¬ x.quoting ∨ x.endorsement.isEmpty ∨ ¬ s.ops.any (fun o => o.handle == x.quoteHandle && o.state == 0) then s
  else
    let sig := Config.slhSign true ((s.fuse p).idSeed x.f) x.quoteBody
    let q := x.quoteBody ++ x.endorsement ++ sig
    let hdr (off : Nat) : List Byte := leBytes 4 80032 ++ leBytes 4 off ++ List.replicate 8 0
    let s := s.sendAll x.quoteKey 0x03 x.quoteHandle (fragments hdr 16 0 (sub q 0 80032))
    let s := (s.endOp x.quoteHandle 4 0 0).modMp p (fun x => { x with quoting := false })
    { s with net := { s.net with attested := s.net.attested ++ [(x.quoteKey, (s.flow x.quoteKey).src)] } }

def execAttestQuote (p : Nat) (s : State) : Host.Outcome State Fault Refusal := .next (s.onDev (fun d => d.sendQuote p))

/-- A cancelled quote is no longer in progress. -/
def Device.dropQuotes (s : Device) : Device :=
  { s with mps := s.mps.map (fun (e : Nat × Mp) =>
      (e.1, { e.2 with quoting := e.2.quoting && s.ops.any (fun o => o.handle == e.2.quoteHandle) })) }

end Sys2Proof.Machine
end

