-- ==== Sys2Proof/Machine/Panel.lean ====
section
/-! DEFINITION. The faceplate, Attend, optics, coolant, sideband and clock monitors (R432, R469 to R488). -/

namespace Sys2Proof.Machine

def Device.off (s : Device) : Bool := decide (s.boot.service = 5)

/-- A record about an item of the module, written by the primary (R493). -/
def Device.modRec (s : Device) (code item : Nat) (vals : List (Nat × Nat)) : Rec :=
  { Rec.plain code (dpMod item) (ctlMp s.primary) (10 + s.primary) with vals := vals }

/-! ## Attend (R432, R473 to R476) -/

/-- A press or a lift starts a request, or raises the count of the pending one's record (R473) (DEDUCED, assumption 62). -/
def Device.attend (s : Device) (cause : Nat) (press : Bool) : Device :=
  if s.off then s
  else
    let s : Device := { s with panel := { s.panel with presses := if press then min 255 (s.panel.presses + 1) else s.panel.presses } }
    let r := s.modRec Code.modAttendPressed 2 [(1, cause)]
    if s.panel.pending then s.log1 { r with key := 1 }
    else if s.panel.removing then s
    else (({ s with panel := { s.panel with pending := true, cause := cause } }).log1 r).sendAttend

/-- ATTEND_PRESS (R473). -/
def execAttendPress (s : State) : Host.Outcome State Fault Refusal := .next (s.onDev (fun d => d.attend 0 true))

/-- EJECTOR_LIFT (R473). -/
def execEjectorLift (s : State) : Host.Outcome State Fault Refusal :=
  .next (s.onDev (fun d => ({ d with panel := { d.panel with ejector := true } }).attend 1 false))

/-- EJECTOR_LOWER (R473): the request stays, and its record counts. -/
def Device.lower (s : Device) : Device :=
  let s : Device := { s with panel := { s.panel with ejector := false } }
  if s.panel.pending then s.attend 1 false else s

def execEjectorLower (s : State) : Host.Outcome State Fault Refusal := .next (s.onDev (fun d => d.lower))

/-- ATTEND_REQ_RESEND (R432). -/
def execAttendReqResend (s : State) : Host.Outcome State Fault Refusal := .next (s.onDev (fun d => d.sendAttend))

/-- Every die is parked or off, and the step stands. -/
def Device.stilled (s : Device) : Bool :=
  (List.range 4).all (fun d => (s.die d).power == 2 || (s.die d).power == 4) &&
    (match s.stepOp with | some o => decide (o.state ≠ 1) | none => true)

/-- A granted removal saves the log once the dies are parked (R474). -/
def Device.attendAdvance (s : Device) : Device :=
  if s.panel.removing && !s.panel.removalReady && !s.log.saving && s.stilled then s.startSave else s

/-- The host grants the removal (R474): the step is suspended and every die parks; bring-up stops (R476)
(DEDUCED, assumption 62). -/
def Device.attendGrant (s : Device) : Device :=
  if !s.panel.pending then s
  else
    let s : Device := { s with
      panel := { s.panel with pending := false, presses := 0, removing := true }
      boot := { s.boot with stopBringUp := true } }
    ((s.parkAll 6).settleOps).attendAdvance

/-- The host refuses the removal, or ends the removal-ready state (R475). -/
def Device.attendRefuse (s : Device) : Device :=
  if s.panel.pending then { s with panel := { s.panel with pending := false, presses := 0 } }
  else if s.panel.removalReady then
    let s : Device := { s with
      panel := { s.panel with removing := false, removalReady := false, presses := 0 }
      boot := { s.boot with stopBringUp := false } }
    ((if 5 ≤ s.power.level then s else s.portsTrain).unparkAll 6).settleOps
  else s

/-! ## Lights (R470, R471) -/

/-- What the module light shows. -/
inductive ModuleLight where
  | removalReady | test (mode : Nat) | failed | attend | held | bringUp | standby | dark
  deriving DecidableEq, Repr

def Device.moduleLight (s : Device) : ModuleLight :=
  if s.panel.removalReady then .removalReady
  else if s.panel.lightMode ≠ 0 then .test s.panel.lightMode
  else if s.log.entries.any (fun e => e.code == Code.bootTrainingFail || e.code == Code.bootNoValidSlot) || (s.mp 0).run == 3 ||
      (s.mp 1).run == 3 then .failed
  else if s.panel.pending then .attend
  else if s.standoff || s.log.entries.any (fun e => e.severity == 1 && !e.decided) then .held
  else if s.boot.service ≤ 1 then .bringUp
  else if s.boot.service = 4 then .standby
  else .dark

/-- What a pair light shows; the 5 s after an optic's change are timing (DESIGN CHOICE, assumption 3). -/
inductive PairLight where
  | test (mode : Nat) | dark | training | down | half | up
  deriving DecidableEq, Repr

def Device.pairLight (s : Device) (k : Nat) : PairLight :=
  let a := s.port k
  let b := s.port (k + 8)
  if s.panel.lightMode ≠ 0 then .test s.panel.lightMode
  else if a.training || b.training then .training
  else if decide (5 ≤ s.power.level) || s.off || decide (s.boot.service = 0 ∨ s.boot.service = 4) ||
      (s.stroll && decide (k ≠ 0)) then .dark
  else if !a.inUse && !b.inUse then .down
  else if !a.inUse || !b.inUse || a.awaiting || b.awaiting then .half
  else .up

/-- ALERT_N is low while a record of severity held or failed is outstanding (R481, R500). -/
def Device.alert (s : Device) : Bool := s.log.entries.any (fun e => (e.severity == 1 && !e.decided) || e.severity == 2)

/-- LIGHT_TEST_EXPIRY (R472). -/
def Device.lightExpiry (s : Device) : Device :=
  if s.panel.lightDuration = 0 then s else { s with panel := { s.panel with lightMode := 0 } }

def execLightTestExpiry (s : State) : Host.Outcome State Fault Refusal := .next (s.onDev (fun d => d.lightExpiry))

/-! ## Optics (R477) -/

/-- OPTIC_CHANGE: a removed optic takes its port down; the management cage trains on insertion by itself. -/
def Device.opticChange (s : Device) (port : Nat) (seated overPower : Bool) : Device :=
  if s.off || decide (16 < port) || (s.port port).optic == seated then s
  else
    let s := if seated then s else s.linkDown port
    let s := s.modPort port (fun p => { p with
      optic := seated
      link := if port = 16 then seated && !overPower else p.link
      inUse := if port = 16 then seated && !overPower else p.inUse })
    s.log1 (s.portRec Code.netOpticChange port (if seated && overPower then 12 else 0) [])

def execOpticChange (port : Nat) (seated overPower : Bool) (s : State) : Host.Outcome State Fault Refusal :=
  .next (s.onDev (fun d => d.opticChange port seated overPower))

/-! ## Rear connections (R479 to R483, R486) -/

/-- INPUT_OVERCURRENT (R479): the input is disconnected, and the flag outlasts it. -/
def execInputOvercurrent (s : State) : Host.Outcome State Fault Refusal :=
  .next (s.onDev (fun d => if d.off then d else ({ d with boot := { d.boot with overcurrentFlag := true } }).powerOff))

/-- The record of a coolant condition: quantity 0 the inlet temperature, 1 the flow (DESIGN CHOICE, assumption 46), with the
reading. -/
def Device.coolantWatch (s : Device) (hot was sustained : Bool) (quantity reading : Nat) : Device :=
  if hot && sustained && !was then s.log1 (s.modRec Code.modCoolant 1 [(1, quantity), (2, reading)]) else s

/-- A condition is remembered until it has stayed clear. -/
def latch (hot was sustained : Bool) : Bool := if sustained then hot else was

/-- COOLANT_SAMPLE (R480): `sustained` says that the readings' state has lasted, 1 s for a condition, 10 s for its absence. -/
def Device.coolantSample (s : Device) (inlet outlet : Int) (flow : Nat) (sustained : Bool) : Device :=
  if s.off then s
  else
    let hot := decide (640 < inlet)
    let low := decide (flow < 800)
    let s := s.coolantWatch hot s.panel.hotInlet sustained 0 (wrapInt 16 inlet)
    let s := s.coolantWatch low s.panel.lowFlow sustained 1 flow
    { s with panel := { s.panel with
      inlet := inlet, outlet := outlet, coolFlow := flow
      hotInlet := latch hot s.panel.hotInlet sustained, lowFlow := latch low s.panel.lowFlow sustained } }

def execCoolantSample (inlet outlet : Int) (flow : Nat) (sustained : Bool) (s : State) : Host.Outcome State Fault Refusal :=
  .next (s.onDev (fun d => d.coolantSample inlet outlet flow sustained))

/-- STRAP_CHANGE (R482): a change after a root has sampled the pin is reported and has no other effect. -/
def Device.strapChange (s : Device) (level : Nat) : Device :=
  if level % 2 = s.boot.strapPin then s
  else
    let s : Device := { s with boot := { s.boot with strapPin := level % 2 } }
    if 2 ≤ max (s.mp 0).run (s.mp 1).run then s.log1 { s.modRec Code.modStrapChanged 0 [] with dp := 0 } else s

def execStrapChange (level : Nat) (s : State) : Host.Outcome State Fault Refusal := .next (s.onDev (fun d => d.strapChange level))

/-- The I²C link answers in every state but Off; after an overcurrent the module is Off-pending (R483). -/
def Device.i2cUp (s : Device) : Bool := !s.off || s.boot.overcurrentFlag

/-- I2C_READ (R483): the bytes the chassis reads, from the offset last written. -/
def Device.i2cRead (s : Device) (n : Nat) : Device :=
  if s.i2cUp then
    { s with panel := { s.panel with
      i2cOut := (List.range n).map (fun i => nth (Config.i2cByte (s.panel.i2cOffset + i)) s.panel.snapshot (s.panel.i2cOffset + i)) } }
  else s

def execI2cRead (n : Nat) (s : State) : Host.Outcome State Fault Refusal := .next (s.onDev (fun d => d.i2cRead n))

/-- I2C_WRITE (R483): the offset is taken; data bytes are not acknowledged and change nothing. -/
def Device.i2cWrite (s : Device) (offset : Nat) (_data : List Byte) : Device :=
  if s.i2cUp then { s with panel := { s.panel with i2cOffset := offset % 256 } } else s

def execI2cWrite (offset : Nat) (data : List Byte) (s : State) : Host.Outcome State Fault Refusal :=
  .next (s.onDev (fun d => d.i2cWrite offset data))

/-- Bits [2:0] of FACEPLATE_STATE (R472). -/
def Device.faceplateBits (s : Device) : Nat :=
  (if s.panel.pending then 1 else 0) + (if s.panel.ejector then 2 else 0) + (if s.panel.removalReady then 4 else 0)

/-- The registers of R483. -/
def Device.i2cRegisters (s : Device) : List Byte :=
  leBytes 8 s.ident.serial.toNat ++
    [if s.ident.a384 then 1 else 0, BitVec.ofNat 8 (if s.off then 5 else s.serviceOf s.primary), BitVec.ofNat 8 s.power.level,
     BitVec.ofNat 8 s.faceplateBits] ++
    leBytes 2 s.power.input ++ leBytes 2 s.power.inputPower ++ leBytes 2 (wrapInt 16 s.panel.inlet) ++
    leBytes 2 (wrapInt 16 s.panel.outlet) ++ leBytes 2 s.panel.coolFlow

/-- I2C_SNAPSHOT_REFRESH (R486), with the input power measured. -/
def Device.i2cRefresh (s : Device) (power : Nat) : Device :=
  if s.i2cUp then
    let s : Device := { s with power := { s.power with inputPower := power } }
    { s with panel := { s.panel with snapshot := s.i2cRegisters } }
  else s

def execI2cSnapshotRefresh (power : Nat) (s : State) : Host.Outcome State Fault Refusal :=
  .next (s.onDev (fun d => d.i2cRefresh power))

/-! ## Clocks (R487) -/

/-- REFCLOCK_LOSS: the PLLs hold over; the loss of 156.25 MHz takes the links down. -/
def Device.refclockLoss (s : Device) (serdes : Bool) : Device :=
  if s.off || (if serdes then s.panel.serdesHoldover else s.panel.coreHoldover) then s
  else
    let s : Device := { s with panel := { s.panel with
      serdesHoldover := s.panel.serdesHoldover || serdes, coreHoldover := s.panel.coreHoldover || !serdes } }
    let s := s.log1 { s.modRec Code.modRefclockLost 3 [(1, if serdes then 1 else 0)] with domain := 12 + s.primary }
    if serdes then (List.range 16).foldl Device.linkDown s else s

def execRefclockLoss (serdes : Bool) (s : State) : Host.Outcome State Fault Refusal :=
  .next (s.onDev (fun d => d.refclockLoss serdes))

end Sys2Proof.Machine
end

