-- ==== Sys2Proof/Machine/Log.lean ====
section
/-! DEFINITION. Protection codes and scrubbing, and the error log's saves and clears (R49 to R54, R113 to R115, R175, R240,
R474, R501, R503, R508). -/

namespace Sys2Proof.Machine

/-! ## Protection codes (R49 to R51) -/

/-- The control path and the domain of the die or P-die that owns a memory of R509, for an address in it. -/
def memOwner (k a : Nat) : Nat × Nat :=
  if k < 12 then (ctlDie (k / 3), k / 3)
  else if k < 24 then (ctlMp ((k - 12) / 6), 8 + (k - 12) / 6)
  else (ctlStripe (stripeOf ((a - winBase) / 0x400000)), k - 24)

/-- A corrected error is counted; MEM_CORRECTED of the memory is written when its count of the hour crosses the hamper's
threshold. An hour begins with the first error after the one before it has ended (R50) (DEDUCED, assumption 66). -/
def Device.noteCorrected (s : Device) (a : Nat) : Device :=
  let (k, ch) := s.memIndex a
  let (ctl, dom) := memOwner k a
  let now := s.stamp dom
  let ended := decide (Config.hourCycles dom ≤ (now - Tab.get 0 s.correctedFrom k).toNat)
  let n := if ended then 1 else Tab.get 0 s.corrected k + 1
  let limit := match s.hamper with | some h => h.ceThreshold | none => 1024
  let s := s.bumpCorrected k
  let s : Device := { s with
    fresh := s.fresh + 1, corrected := Tab.set 0 s.corrected k n
    correctedFrom := if n = 1 then Tab.set 0 s.correctedFrom k now else s.correctedFrom }
  if n ≠ max 1 limit then s
  else
    let dp := if k < 12 then dpMem 0 ch k else if k < 24 then dpMem 1 ch (k - 12)
      else dpCluster ((a - winBase) / 0x400000) 2 0xF 0xFF
    s.log1 (Rec.plain Code.memCorrected dp ctl dom)

/-- The tensor a range of the plan gives an address to; all bits set when it is not known (R51, R495). -/
def Device.tensorAt (s : Device) (a : Nat) : Nat :=
  let holds (r : Range) : Bool := decide (r.lo ≤ a) && decide (a < r.lo + r.len)
  match s.tensorRecs.find? (fun t => (t.gradRange :: t.workRanges).any holds) with
  | some t => t.id
  | none =>
    match (List.range 2).find? (fun p => holds (s.masterRange p)) with
    | some p =>
      let j := (a - (s.masterRange p).lo) / 8192
      (match s.tensorOfBundle ((2 * j + p) * max 1 s.repD + s.replica) with | some e => e.2.id | none => 0xFFFF)
    | none => 0xFFFF

/-- The word is a master weight (R335). -/
def Device.isMaster (s : Device) (a : Nat) : Bool :=
  (List.range 2).any (fun p => decide ((s.masterRange p).lo ≤ a) && decide (a < (s.masterRange p).lo + (s.masterRange p).len))

/-- The detail word of a store (R495). -/
def storeTag : Store → Nat
  | .hbm => 0
  | .lpddr => 0
  | .tileStore => 22
  | .inputBank => 23
  | .accumulator => 24
  | .weightQueue => 25
  | .vectorRegister => 26
  | .predicate => 27
  | .programStore => 28
  | .scratch => 29
  | .softmaxPipe => 30

/-- The memory is addressed through the map and keeps its damage until it is written (R52). -/
def addressed : Store → Bool
  | .hbm => true
  | .lpddr => true
  | .tileStore => true
  | _ => false

def storeCode : Store → Nat
  | .hbm => Code.memHbmUncorrectable
  | .lpddr => Code.memLpUncorrectable
  | _ => Code.memStoreParity

/-- The slot and cell of an accumulator's address (R39). -/
def accCell (a : Nat) : Nat × Nat := let o := (a - winBase) % 0x400000 - 0x320000; (o / 0x2000, o % 0x2000 / 4)

/-- The pass of a context that reads a word of the array's memories: an accumulator is read by a pass of its slot, for addition or
for readout, every other word by the pass at the issue port (R113). -/
def Device.passOf (s : Device) (g k a : Nat) (store : Store) : Option Pass :=
  let c := s.cluster g
  match store with
  | .accumulator => (c.readouts ++ c.issuing ++ c.draining).find? (fun p => p.ctx == k && p.slot == (accCell a).1)
  | _ => c.issuing.find? (fun p => p.ctx == k)

/-- Data path, control path, domain and place of a consumer (R51, R493). A word read for the array is the rest of the tile that a
pass at the issue port waits for, and that pass stalls at the array (R114), or belongs to a pass still to be started, as every
word of a frame does (R136, R192), and holds its context (DEDUCED, assumption 67). -/
def Device.consumerAt (s : Device) (u : Consumer) : Option (Nat × Nat × Nat × Site) :=
  let cl (g k unit : Nat) (site : Site) : Option (Nat × Nat × Nat × Site) :=
    if g < 576 ∧ k < 4 then some (dpCluster g unit k 0xFF, ctlStripe (stripeOf g), dOf g, site) else none
  match u with
  | .array g k =>
    (match (s.cluster g).startedFetch k, (s.cluster g).issuing.find? (fun p => p.ctx == k) with
     | some _, some p => cl g k 2 (.array g p.half)
     | _, _ => cl g k 2 (.context g k))
  | .vector g k => cl g k 1 (.vector g k)
  | .pipe g k => cl g k 3 (.context g k)
  | .move d q e => if d < 4 ∧ q < 4 ∧ e < 2 then some (dpDie d 1 (engineOf q e), 0, d, .move d q e) else none
  | .reductionSender p => if p < 2 then some (dpPdie p 2 0, ctlMp p, 8 + p, .reductionSender p) else none
  | .update p => if p < 2 then some (dpPdie p 3 0, ctlMp p, 8 + p, .update p) else none
  | .engine p e => if p < 2 ∧ e < 16 then some (dpPdie p 0 e, ctlMp p, 8 + p, .engine p e) else none
  | .aligner => some (dpPdie 0 1 0, ctlMp 0, 8, .aligner)
  | .carousel d dir => if d < 4 ∧ dir < 2 then some (dpDie d 0 dir, 0, d, .carouselSend d dir) else none
  | .stage grad =>
    (s.job.transfers.find? (fun t => t.grad == grad && t.send)).map (fun t =>
      (dpQuad t.d t.q (t.play % 2), 0, 4 + t.d, .stageSend grad))
  | .loadr d q play => if d < 4 ∧ q < 4 ∧ play < 8 then some (dpQuad d q (play % 2), 0, 4 + d, .loadr d q play) else none
  | .multicast d q k => if d < 4 ∧ q < 4 ∧ k < 4 then some (dpDie d 2 q, 0, d, .multicast d q k) else none
  | .thermos p => if p < 2 then some (dpPdie p 5 0, ctlMp p, 10 + p, .thermos p) else none
  | .host => none

/-- Every copy of a pass is marked faulted: no word of its tile is written from now on (R113, R175). -/
def Device.faultPass (s : Device) (g : Nat) (p : Pass) : Device :=
  let f (l : List Pass) : List Pass := l.map (fun x => if x.id = p.id then { x with faulted := true } else x)
  s.modCluster g (fun c => { c with
    issuing := f c.issuing, draining := f c.draining, readouts := f c.readouts
    outbuf := c.outbuf.filter (fun e => e.1 != p.id)
    epilogue := c.epilogue.filter (fun r => r.pass.id != p.id) })

/-- The context that works on a half: that of a pass in flight there, or of the table a context stands at for that half (R115). -/
def Device.halfContext (s : Device) (g k half : Nat) : Option Nat :=
  match (s.cluster g).inFlight.find? (fun x => x.half == half && x.ctx != k) with
  | some x => some x.ctx
  | none => (List.range 4).find? (fun j => j != k && (match s.headTable g j with | some (_, tab) => tab.shape == half + 2 | none => false))

/-- A parity error in the array's own memories (R113); in split shape the other half goes on (R115). -/
def Device.arrayParity (s : Device) (g k a : Nat) (store : Store) : Device :=
  match s.passOf g k a store with
  | none => s
  | some p =>
    if s.isHeld (.array g p.half) then s
    else
      let other := s.halfContext g k (1 - p.half)
      let cell := match store with | .accumulator => (accCell a).2 | _ => a
      let s := s.faultPass g p
      let s := s.hold { passRec Code.memStoreParity g p with tag := storeTag store, vals := [(1, p.slot), (4, cell)] } (.array g p.half)
      if (s.cluster g).shape = 2 then
        s.hold { Rec.ofCluster Code.arrSplitHalfFault g 0 k p.half with vals := [(1, p.half), (1, k), (1, other.getD 0xFF)] }
          (.array g p.half)
      else s

/-- The entry of a running invocation's program. -/
def Device.entryOf (s : Device) (g : Nat) (v : Invocation) : Nat :=
  if v.kind = 0 then (match v.pass with | some p => (s.table (dOf g) p.table).entry | none => 0)
  else if v.kind = 1 then (s.vpass (dOf g) (qOf g) v.index).entry
  else (s.walkRec (dOf g) v.index).closing

/-- The row stands at its first instruction again: what it wrote is undone, newest first, and its scratch words are those it began
with (R175). -/
def Device.restartRow (s : Device) (g k : Nat) : Device :=
  match (s.cluster g).invocation with
  | some v =>
    if v.ctx = k then
      let s := v.undo.foldl (fun s e => s.write e.1 e.2) s
      let key := s.playIn g k * 4096 + 4 * (v.rho % 1024)
      s.modCluster g (fun c => { c with
        scratch := (List.range 4).foldl (fun t i => Tab.set 0 t (key + i) (nth 0 v.entry i)) c.scratch
        invocation := some { newInv v.ctx v.kind v.item v.index v.rho v.n v.r v.cols v.segs (s.entryOf g v) v.pass v.row v.expo with
          entry := v.entry } })
    else s
  | none => s

/-- A parity error in the vector unit (R175). -/
def Device.vectorParity (s : Device) (g k : Nat) (store : Store) : Device :=
  match (s.cluster g).invocation with
  | some v =>
    if v.ctx ≠ k ∨ s.isHeld (.vector g k) then s
    else
      let s := match v.pass with | some p => s.faultPass g p | none => s
      s.hold { Rec.ofCluster Code.memStoreParity g 1 k 0xFF with tag := storeTag store, vals := [(4, v.pc)] } (.vector g k)
  | none => s

/-- The hold of R51 for a word of HBM, LPDDR5X or a tile store (DESIGN CHOICE, assumption 67). -/
def Device.memoryHold (s : Device) (u : Consumer) (store : Store) (a : Nat) : Device :=
  match s.consumerAt u with
  | none => s
  | some (dp, ctl, dom, site) =>
    if !s.hasJob || s.isHeld site then s
    else
      let (k, ch) := s.memIndex a
      let master := match u with | .update _ => s.isMaster a | _ => false
      let tensor := match u with
        | .move d q e => (match (s.quad d q).moves.find? (fun m => m.engine == some e) with
          | some m => fld (s.moveBytes d q m.index) 28 2
          | none => 0xFFFF)
        | _ => s.tensorAt a
      let r : Rec := ⟨if master then Code.updMasterUncorrectable else storeCode store, 1, dp, ctl, 1, a, storeTag store,
        [(1, if k < 12 then k else if k < 24 then k - 12 else 0xFF), (1, ch), (2, tensor)], dom, 2⟩
      let s := match u with | .vector g k => s.restartRow g k | _ => s
      s.hold r site

/-- Flip bits of an element of a context's first block in the weight queue, by slice and column. -/
def flipQueue (k a flips : Nat) : List WBlock → List WBlock
  | [] => []
  | b :: t =>
    if b.ctx ≠ k then b :: flipQueue k a flips t
    else
      let i := a / max 1 b.feed.cols
      let j := a % max 1 b.feed.cols
      let slice := nth [] b.slices i
      let e : Elem := nth ⟨0, 0⟩ slice j
      { b with slices := putAt b.slices i (putAt slice j { e with bits := e.bits ^^^ flips }) } :: t

/-- One lane of a register with bits flipped. -/
def flipLane (flips : Word) (i : Nat) (l : Lanes) : Lanes :=
  mkLanes (fun j => if j = i then lane l j ^^^ flips else lane l j)

/-- Damage of a 32-bit word that its code does not find changes the word where it stands, and nothing is reported or counted
(R516): in the mapped memories by address, in the weight queue by element of the context's first block, in the vector unit by
64 × register + lane, predicate, scratch entry or program byte. The softmax pipe keeps no words between groups.
(DESIGN CHOICE, assumption 6) -/
def Device.undetected (s : Device) (u : Consumer) (store : Store) (a flips : Nat) : Device :=
  let word := BitVec.ofNat 32 flips
  match u, store with
  | .vector g k, .vectorRegister =>
    s.modCluster g (fun c => { c with invocation := c.invocation.map (fun v =>
      if v.ctx = k then { v with regs := Tab.set Lanes.zero v.regs (a / 64) (flipLane word (a % 64)
        (Tab.get Lanes.zero v.regs (a / 64))) } else v) })
  | .vector g k, .predicate =>
    s.modCluster g (fun c => { c with invocation := c.invocation.map (fun v =>
      if v.ctx = k then { v with preds := Tab.set 0 v.preds a (Tab.get 0 v.preds a ^^^ BitVec.ofNat 64 flips) } else v) })
  | .vector g _, .scratch =>
    s.modCluster g (fun c => { c with scratch := Tab.set 0 c.scratch a (Tab.get 0 c.scratch a ^^^ word) })
  | .array g k, .weightQueue =>
    s.modCluster g (fun c => { c with queue := flipQueue k a flips c.queue })
  | _, .hbm | _, .lpddr | _, .tileStore | _, .inputBank | _, .accumulator =>
    if (s.regionOf a).isSome then s.write a (leBytes 4 (s.readNat a 4 ^^^ flips % 2 ^ 32)) else s
  | _, _ => s

/-- MEMORY_READ_RETURN (R49 to R51, R516). A word found uncorrectable before, and not written whole since, is found so again
(R52) (DESIGN CHOICE, assumption 67). -/
def Device.readReturn (s : Device) (u : Consumer) (store : Store) (a : Nat) (res : Check) : Device :=
  match if addressed store && s.damaged.contains (a / 64) then Check.uncorrectable else res with
  | .clean => s
  | .undetected flips => s.undetected u store a flips
  | .corrected => if addressed store && (s.regionOf a).isSome then s.noteCorrected a else s
  | .uncorrectable =>
    if addressed store then
      if (s.regionOf a).isSome then
        let s := s.bumpUncorrectable (s.memIndex a).1
        ({ s with damaged := if s.damaged.contains (a / 64) then s.damaged else s.damaged ++ [a / 64] }).memoryHold u store a
      else s
    else if !s.hasJob then s
    else
      match u, store with
      | .vector g k, _ => s.vectorParity g k store
      | .pipe g k, _ =>
        if s.isHeld (.context g k) ∨ 576 ≤ g ∨ 4 ≤ k then s
        else s.hold { Rec.ofCluster Code.memStoreParity g 3 k 0xFF with tag := storeTag store } (.context g k)
      | .array g k, _ => s.arrayParity g k a store
      | _, _ => s.memoryHold u store a

def execMemoryReadReturn (u : Consumer) (store : Store) (addr : Nat) (res : Check) (s : State) :
    Host.Outcome State Fault Refusal :=
  .next (s.onDev (fun d => d.readReturn u store addr res))

/-! ## Scrubbing (R52 to R54) -/

/-- A scrubber finds an uncorrectable error in a sideband word: reported with the scrubber as the consumer, and nothing holds
(R52). A host-requested scrub has no data path of its own in R493: the model gives it the patrol's, and its tag 32
(DEDUCED, assumption 66). -/
def Device.scrubFound (s : Device) (a : Nat) (res : Check) : Device :=
  match res with
  | .clean => s
  | .undetected _ => s
  | .corrected => s.noteCorrected a
  | .uncorrectable =>
    let (k, ch) := s.memIndex a
    let s := s.bumpUncorrectable k
    let s : Device := { s with damaged := if s.damaged.contains (a / 64) then s.damaged else s.damaged ++ [a / 64] }
    let hbm := decide (k < 12)
    let p := (k - 12) / 6
    s.log1 ⟨if hbm then Code.memHbmUncorrectable else Code.memLpUncorrectable, 0, if hbm then dpDie (k / 3) 4 0 else dpPdie p 4 0,
      if hbm then 0 else ctlMp p, 1, a, 32, [(1, if hbm then k else k - 12), (1, ch), (2, s.tensorAt a)],
      if hbm then k / 3 else 8 + p, 0⟩

/-- What a scrubber finds in the `n` sideband words of a granule: the words are counted from 0. -/
def Device.scrubWords (s : Device) (a n : Nat) (found : List (Nat × Check)) : Device :=
  (found.filter (fun e => decide (e.1 < n))).foldl (fun s e => s.scrubFound (a + 64 * e.1) e.2) s

/-- PATROL_SCRUB_GRANULE of a die, or of a P-die as unit 4 or 5: the next granule in address order; a parked die's patrol
stands still (R54). -/
def Device.patrolScrub (s : Device) (u : Nat) (found : List (Nat × Check)) : Device :=
  if u < 4 then
    if !s.dieServes u || s.dieParked u then s
    else
      let n := (s.die u).patrol
      (s.scrubWords (u * hbmSize + 512 * n) 8 found).modDie u (fun x => { x with patrol := (n + 1) % (hbmSize / 512) })
  else if u < 6 then
    if s.boot.service ≠ 2 then s
    else
      let n := (s.pdie (u - 4)).patrol
      (s.scrubWords (lpBase + (u - 4) * lpWindow + 256 * n) 4 found).modPdie (u - 4) (fun x => { x with
        patrol := (n + 1) % (s.lpBacked / 256) })
  else s

def execPatrolScrubGranule (u : Nat) (found : List (Nat × Check)) (s : State) : Host.Outcome State Fault Refusal :=
  .next (s.onDev (fun d => d.patrolScrub u found))

/-- HOST_SCRUB_CHUNK (R53): the next MiB of a live scrub, with what was found in it. -/
def Device.scrubChunk (s : Device) (serial : Nat) (found : List (Nat × Check)) : Device :=
  match s.ops.find? (fun o => o.handle == 5 * 2 ^ 24 + serial) with
  | none => s
  | some o =>
    if o.state ≠ 0 || (s.waitsForDie o.next).isSome || !s.backed o.next 0x100000 then s
    else
      let s := (found.filter (fun e => decide (o.next ≤ e.1) && decide (e.1 < o.next + 0x100000))).foldl
        (fun s e => s.scrubFound e.1 e.2) s
      let s := s.modOp o.handle (fun o => { o with passed := o.passed + 1, next := o.next + 0x100000 })
      if o.hi ≤ o.next + 0x100000 then s.endOp o.handle 4 0 0 else s

def execHostScrubChunk (serial : Nat) (found : List (Nat × Check)) (s : State) : Host.Outcome State Fault Refusal :=
  .next (s.onDev (fun d => d.scrubChunk serial found))

/-! ## Clearing and saving the log (R501, R503) -/

/-- Every entry but the undecided held ones goes (R503). -/
def Device.clearLog (s : Device) : Device :=
  { s with log := { s.log with
    entries := s.log.entries.filter (fun e => e.severity == 1 && !e.decided), lost := 0, changed := true, clearAfterSave := false } }

/-- LOG_CLEAR with its key: at once, or after the save that runs. -/
def Device.logClear (s : Device) (v : Nat) : Device :=
  if !bit v 0 then s
  else if s.log.saving then { s with log := { s.log with clearAfterSave := true } }
  else s.clearLog

/-- LOG_SAVE_PERIODIC (R501). -/
def Device.savePeriodic (s : Device) : Device := if s.log.changed && !s.log.saving && !s.off then s.startSave else s

def execLogSavePeriodic (s : State) : Host.Outcome State Fault Refusal := .next (s.onDev (fun d => d.savePeriodic))

/-- What a finished save leaves: the region saved longest ago is overwritten (R501). -/
def Device.finishSave (s : Device) : Device :=
  { s with log := { s.log with
    flash := s.log.entries, flashOther := s.log.flash, flashSaves := s.log.flashSaves + 1, saving := false, changed := false } }

/-! ## Freezing the counters (R508) -/

def Device.freeze (s : Device) (on : Bool) : Device := { s with frozen := if on then some s.counters else none }

/-- A counter as a read returns it (DEDUCED, assumption 77). -/
def Device.counterRead (s : Device) (off : Nat) : DWord := Tab.get 0 (s.frozen.getD s.counters) off

end Sys2Proof.Machine
end

