-- ==== Sys2Proof/Machine/Flags.lean ====
section
/-! DEFINITION. The registers of the status space as they are read, and the STATUS payload (R2, R398, R429, R435, R463, R472,
R503, R509 to R513). -/

namespace Sys2Proof.Machine

def flag (b : Bool) (pos : Nat) : Nat := if b then 2 ^ pos else 0

/-! ## Identity and start-up (R2, R463, R472, R508, R510) -/

def Device.identityReg (s : Device) : Nat :=
  flag s.ident.a384 0 + (if s.ident.a384 then 384 else 768) * 2 ^ 4 + s.ident.aRev.toNat * 2 ^ 16 + s.ident.pRev.toNat * 2 ^ 24

def Device.bootReg (s : Device) : Nat :=
  s.serviceOf s.primary % 8 + (s.mp 0).slot % 2 * 2 ^ 3 + (s.mp 1).slot % 2 * 2 ^ 4 + s.primary % 2 * 2 ^ 5 +
    flag ((s.mp 0).run == 3 || (s.mp 1).run == 3) 6 + s.boot.cause % 8 * 2 ^ 7 + (s.fuse s.primary).minSecurity % 256 * 2 ^ 10 +
    s.boot.strollMs % 4096 * 2 ^ 18

def Device.lightReg (s : Device) : Nat := s.panel.lightMode % 4 + s.panel.lightDuration % 256 * 2 ^ 2

def Device.faceplateReg (s : Device) : Nat := s.faceplateBits + s.panel.presses % 256 * 2 ^ 3

/-! ## Power (R398) -/

def Device.profileReg (s : Device) : Nat :=
  s.power.request % 4 + s.effective % 4 * 2 ^ 2 + s.power.maxProfile % 4 * 2 ^ 4 + flag s.capped 6 + flag s.changing 7

/-- A rail condition sets the level: it calls for the level in force and no other cause does. -/
def Device.railSets (s : Device) : Bool := decide (0 < s.power.level) && decide (s.levelCondition s.power.level = 1)

def Device.shedReg (s : Device) : Nat := s.power.level % 8 + s.power.input % 65536 * 2 ^ 3 + flag s.railSets 19

def Device.poolReg (s : Device) (t : Nat) : Nat := wrapInt 32 (s.stripe t).pool
def Device.refillReg (s : Device) (t : Nat) : Nat := wrapInt 32 (s.stripe t).refill
def Device.tempReg (s : Device) (t : Nat) : Nat := wrapInt 16 (s.stripe t).temp + wrapInt 16 (s.stripe t).current * 2 ^ 16

/-! ## Ports (R435) -/

def Device.portReg (s : Device) (n : Nat) : Nat :=
  let p := s.port n
  flag p.link 0 + flag p.inUse 1 + p.rate % 4 * 2 ^ 2 + flag p.optic 4 + flag p.awaiting 5 +
    (match s.hamper with | some _ => s.roleOf (n % 8) % 8 | none => 0) * 2 ^ 6 +
    flag (match s.hamper with | some h => h.pfc | none => false) 9

/-! ## The error log (R503) -/

def Device.heldCount (s : Device) : Nat := (s.log.entries.filter (fun e => e.severity == 1 && !e.decided)).length

def Device.logReg (s : Device) : Nat :=
  s.log.entries.length % 8192 + s.heldCount % 8192 * 2 ^ 13 + flag s.log.saving 26

def Device.seqLow (s : Device) : Nat := match s.log.entries.map (·.seq) with | [] => 0 | x :: t => t.foldl min x
def Device.seqHigh (s : Device) : Nat := (s.log.entries.map (·.seq)).foldl max 0

/-! ## A-dies (R511 to R513) -/

def Device.dieReg (s : Device) (d : Nat) : Nat :=
  flag (s.dieServes d && decide ((s.die d).power = 0)) 0 + flag ((s.die d).power == 2) 1 + flag (s.dieOut d) 2 +
    (s.die d).clock % 4 * 2 ^ 3 + flag (s.die d).tour.isSome 5

def Device.clusterReg (s : Device) (g : Nat) : Nat :=
  s.heldReason g 0 % 16 + s.heldReason g 1 % 16 * 2 ^ 4 + s.heldReason g 2 % 16 * 2 ^ 8 + s.heldReason g 3 % 16 * 2 ^ 12 +
    (s.cluster g).shape % 4 * 2 ^ 16 + flag (s.isHeld (.array g 0) && (s.cluster g).shape == 2) 18 +
    flag (s.isHeld (.array g 1) && (s.cluster g).shape == 2) 19 + flag (!s.clusterOut g) 20

/-- Entry byte 9 (R208). -/
def PageEntry.flags (e : PageEntry) : Nat := flag e.valid 0 + e.state % 8 * 2

/-- The page-map view of a page (R513). -/
def Device.pageBytes (s : Device) (d p : Nat) : List Byte :=
  let e := s.page d p
  [BitVec.ofNat 8 e.flags, BitVec.ofNat 8 e.filled] ++ leBytes 2 e.segLow ++ leBytes 2 e.segHigh ++
    [BitVec.ofNat 8 e.lap, BitVec.ofNat 8 e.owner]

/-! ## The whole space (R509) -/

/-- A block of bytes at a base: the 32-bit word at an offset, none outside it. -/
def inBlock (base len off : Nat) (b : List Byte) : Option Nat :=
  if base ≤ off ∧ off < base + len then some (fld b (off - base) 4) else none

/-- Keys and measurements of the primary. -/
def Device.keyWord (s : Device) (off : Nat) : Nat :=
  let x := s.mp s.primary
  let root := if x.run = 2 then (s.fuse s.primary).rootKey else []
  ((inBlock 0x40 64 off root).or ((inBlock 0x80 64 off x.idKey).or ((inBlock 0xC0 64 off x.f).or (inBlock 0x100 64 off x.h)))).getD 0

/-- The operation in a slot of the jobs block. -/
def Device.opWord (s : Device) (l : List Op) (off : Nat) : Nat :=
  match l[off / 32]? with
  | some o => fld (s.opState o 0) (off % 32) 4
  | none => 0

/-- The counter word at an offset; what is no counter reads as zero. -/
def Device.counterWord (s : Device) (off : Nat) : Nat :=
  (s.counterRead (off / 8 * 8)).toNat / 2 ^ (8 * (off % 8)) % 2 ^ 32

def Device.dieWord (s : Device) (off : Nat) : Nat :=
  let d := off / 0x100000 - 1
  let o := off % 0x100000
  if o = 0 then s.dieReg d
  else if 0x80000 ≤ o then fld (s.pageBytes d ((o - 0x80000) / 8)) (o % 8) 4
  else if 0x10000 ≤ o ∧ o < 0x10000 + 144 * 0x200 ∧ o % 0x200 = 0 then s.clusterReg (144 * d + (o - 0x10000) / 0x200)
  else s.counterWord off

def Device.jobWord (s : Device) (off : Nat) : Nat :=
  if off = 0x50000 then s.job.state
  else if off = 0x50004 then s.job.epoch
  else if off = 0x50008 ∨ off = 0x5000C then fld (leBytes 6 s.job.step) (off - 0x50008) 4
  else if 0x51000 ≤ off ∧ off < 0x51200 then s.opWord s.ops (off - 0x51000)
  else if 0x52000 ≤ off ∧ off < 0x54000 then s.opWord s.endedOps.reverse (off - 0x52000)
  else s.counterWord off

def Device.logWord (s : Device) (off : Nat) : Nat :=
  if off = 0x60000 then s.logReg
  else if off = 0x60004 then s.log.lost
  else if off = 0x60008 then s.seqLow
  else if off = 0x6000C then s.seqHigh
  else if 0x70000 ≤ off ∧ off < 0xB0000 then
    (match s.log.entries[(off - 0x70000) / 64]? with | some e => fld e.bytes (off % 64) 4 | none => 0)
  else s.counterWord off

def Device.powerWord (s : Device) (off : Nat) : Nat :=
  let o := off - 0x10000
  if o = 0 then s.power.request % 4
  else if o = 4 then s.profileReg
  else if o = 8 then s.shedReg
  else if 0x100 ≤ o ∧ o < 0x160 then s.poolReg ((o - 0x100) / 4)
  else if 0x200 ≤ o ∧ o < 0x260 then s.refillReg ((o - 0x200) / 4)
  else if 0x300 ≤ o ∧ o < 0x360 then s.tempReg ((o - 0x300) / 4)
  else s.counterWord off

def Device.identityWord (s : Device) (off : Nat) : Nat :=
  if off = 0 then s.identityReg
  else if off = 8 then s.ident.serial.toNat % 2 ^ 32
  else if off = 0xC then s.ident.serial.toNat / 2 ^ 32
  else if off = 0x14 then s.bootReg
  else if off = 0x18 then s.lightReg
  else if off = 0x1C then s.faceplateReg
  else if off = 0x20 then flag s.frozen.isSome 0
  else s.keyWord off

/-- The 32-bit word at an offset of the status space, a multiple of 4. -/
def Device.statusWord (s : Device) (off : Nat) : Nat :=
  if off < 0x10000 then s.identityWord off
  else if off < 0x20000 then s.powerWord off
  else if off < 0x30000 then (if off % 0x1000 = 0 then s.portReg ((off - 0x20000) / 0x1000) else s.counterWord off)
  else if off < 0x50000 then s.counterWord off
  else if off < 0x60000 then s.jobWord off
  else if off < 0x100000 then s.logWord off
  else if off < 0x500000 then s.dieWord off
  else 0

/-- Bytes of the status space. -/
def Device.statusBytes (s : Device) (off n : Nat) : List Byte :=
  (List.range (n / 4)).flatMap (fun i => leBytes 4 (s.statusWord (off + 4 * i)))

/-! ## STATUS (R429) -/

/-- The processor that answers on a flow: the primary, or in Standoff the one whose address the message named (R425, R457). -/
def Device.answerer (s : Device) (k : Nat) : Nat := if s.standoff then (if keyPair k = 10 then 1 else 0) else s.primary

/-- The 64 bytes of STATUS. -/
def Device.statusPayload (s : Device) (p : Nat) : List Byte :=
  [BitVec.ofNat 8 (s.serviceOf p), BitVec.ofNat 8 s.primary, BitVec.ofNat 8 s.job.state, BitVec.ofNat 8 s.power.level,
   BitVec.ofNat 8 s.effective, 0] ++ leBytes 2 s.portBits ++ leBytes 4 s.job.epoch ++ leBytes 6 s.job.step ++ [0, 0] ++
    leBytes 4 s.log.entries.length ++ leBytes 4 s.heldCount ++ List.replicate 36 0

/-- STATUS_CHANGE_REPORT (R429): the latest values, when something they report has changed. -/
def Device.statusChange (s : Device) : Device :=
  if s.net.statusDue && !s.off then
    ({ s with net := { s.net with statusDue := false } }).sendReports 0x07 (s.statusPayload s.primary)
  else s

def execStatusChangeReport (s : State) : Host.Outcome State Fault Refusal := .next (s.onDev (fun d => d.statusChange))

/-- ERROR_REPORT (R430): up to 256 records of severity information that no report has carried (DESIGN CHOICE, assumption 64). -/
def Device.reportInfo (s : Device) : Device :=
  let due := (s.log.entries.filter (fun e => !e.reported)).take 256
  match due.getLast? with
  | none => s
  | some z =>
    let s := s.sendReports 0x08 (due.flatMap LogEntry.record)
    { s with log := { s.log with
      entries := s.log.entries.map (fun e => if e.seq ≤ z.seq then { e with reported := true } else e) } }

def execErrorReport (s : State) : Host.Outcome State Fault Refusal := .next (s.onDev (fun d => d.reportInfo))

/-- LOG_SAVE_COMPLETE (R501, R503): a clear that waited takes effect; a granted removal goes on with STATUS, the ports go down
and the module is ready for removal (R474). -/
def Device.saveComplete (s : Device) : Device :=
  if !s.log.saving then s
  else
    let s := s.finishSave
    let s := if s.log.clearAfterSave then s.clearLog else s
    if s.panel.removing && !s.panel.removalReady && s.stilled then
      let s := (s.sendReports 0x07 (s.statusPayload s.primary)).portsDown
      { s with panel := { s.panel with removalReady := true } }
    else s

def execLogSaveComplete (s : State) : Host.Outcome State Fault Refusal := .next (s.onDev (fun d => d.saveComplete))

end Sys2Proof.Machine
end

