-- ==== Sys2Proof/Machine/Messages.lean ====
section
/-! DEFINITION. Requests of the hosts and neighbours as they are delivered, and the commands that carry them (R417, R425 to
R434, R459 to R465, R507). -/

namespace Sys2Proof.Machine

/-! ## READ and WRITE (R427, R428) -/

def accessAddr (m : Msg) : Nat := fld m.payload 0 6
def accessLen (m : Msg) : Nat := fld m.payload 8 4
def writeData (m : Msg) : List Byte := m.payload.drop 16
def inStatus (a : Nat) : Bool := decide (statusBase ≤ a) && decide (a < statusBase + 2 ^ 32)

/-- The fields of a READ or WRITE are well formed (DEDUCED, assumption 54). -/
def accessOk (isWrite : Bool) (m : Msg) : Bool :=
  let a := accessAddr m
  let n := accessLen m
  decide (16 ≤ m.payload.length) && zeros m.payload 6 2 && zeros m.payload 12 4 && decide (1 ≤ n ∧ n ≤ 8192) &&
    decide ((writeData m).length = if isWrite then n else 0) && (!inStatus a || (decide (a % 4 = 0) && decide (n % 4 = 0)))

/-- READ_REPLY: the address and length again, a result and the data. -/
def Device.readReply (s : Device) (k : Nat) (m : Msg) (code : Nat) (data : List Byte) : Device :=
  s.send k 0x06 false 0 0 0 (leBytes 6 (accessAddr m) ++ leBytes 2 (if code = 0 then 0 else Code.wire code) ++
    leBytes 4 (accessLen m) ++ [0, 0, 0, 0] ++ data)

/-- The management port, or a session on which a quote was sent (R428). -/
def Device.trusted (s : Device) (k : Nat) (m : Msg) : Bool := decide (8 ≤ keyPair k) || s.net.attested.contains (k, m.src)

/-- The five registers a WRITE may name (R16). -/
def resetCtrl : Nat := statusBase + 0x10
def lightTest : Nat := statusBase + 0x18
def counterFreeze : Nat := statusBase + 0x20
def profileReq : Nat := statusBase + 0x10000
def logClearReg : Nat := statusBase + 0x60010
def writableReg (a : Nat) : Bool := [resetCtrl, lightTest, counterFreeze, profileReq, logClearReg].contains a

def damagedCode (s : Device) (a : Nat) : Nat :=
  match s.regionOf a with
  | some r => if r.kind = 0 then Code.memHbmUncorrectable else if r.kind = 1 then Code.memLpUncorrectable else Code.memStoreParity
  | none => 0

/-- READ: what the reply carries (R427) (DEDUCED, assumption 54). -/
def Device.onRead (s : Device) (k : Nat) (m : Msg) : Device :=
  let a := accessAddr m
  let n := accessLen m
  if !accessOk false m then s.readReply k m Code.netMessageMalformed []
  else if inStatus a then
    if statusBase + 2 ^ 32 < a + n then s.readReply k m Code.memAddressUnbacked []
    else s.readReply k m 0 (s.statusBytes (a - statusBase) n)
  else if !s.backed a n then s.readReply k m Code.memAddressUnbacked []
  else if !s.trusted k m then s.readReply k m Code.netAccessDenied []
  else
    match s.damaged.find? (fun w => overlap (64 * w) 64 a n) with
    | some w => s.readReply k m (damagedCode s (64 * w)) []
    | none => s.readReply k m 0 (s.read a n)

/-- Memory the host may not write now: any while a job is present, a checkpoint range outside NONE, ADMITTED and REFUSED, and
the staging region (R377, R427). -/
def Device.writeDenied (s : Device) (a n : Nat) : Bool :=
  let c := secBytes s.job.image 0x04
  let g := 327680 + ceilDiv (fld (secBytes s.job.image 0x05) 4 4) (2 * max 1 (fld (secBytes s.job.image 0x01) 4 2)) * 8192
  s.hasJob || overlap a n stagingBase (2 ^ 30) ||
    (decide (s.job.state ∉ [0, 3, 4]) && !c.isEmpty && (List.range 4).any (fun i => overlap a n (fld c (6 * i) 6) g))

/-! ### RESET_CTRL and the other registers (R396, R398, R459 to R465, R472, R503, R508) -/

/-- An operation that RESET_CTRL asked for is refused (R459, R465) (DEDUCED, assumption 56). -/
def Device.refuseReset (s : Device) (k : Nat) (m : Msg) (tag : Nat) : Device :=
  (s.log1 (s.opRec Code.jobOpRefused 0 tag)).readReply k m Code.jobOpRefused []

/-- A write of RESET_CTRL with its key; other actions do nothing (R462) (DEDUCED, assumption 56). -/
def Device.onReset (s : Device) (k : Nat) (m : Msg) (v : Nat) : Device :=
  let ok := s.readReply k m 0 []
  let p := s.answerer k
  match v % 16 with
  | 1 => ok.warmReset
  | 2 => ok.portReset (bits v 7 4)
  | 3 => if s.hasJob then ok.jobReset false else ok
  | 4 =>
    match s.updateRefused p (bits v 8 8) with
    | some tag => s.refuseReset k m tag
    | none => ok.startUpdate p (bits v 8 8)
  | 5 => if s.standbyRefused then s.refuseReset k m 0 else { ok with boot := { ok.boot with standbyEntry := true } }
  | 6 => if 8 ≤ keyPair k then ok.leaveStandby else ok
  | _ => ok

/-- A write of one of the five registers. -/
def Device.onRegister (s : Device) (k : Nat) (m : Msg) : Device :=
  let a := accessAddr m
  let v := fld m.payload 16 4
  let ok := s.readReply k m 0 []
  let no := s.readReply k m Code.netAccessDenied []
  if a = counterFreeze then ok.freeze (bit v 0)
  else if a = lightTest then { ok with panel := { ok.panel with lightMode := bits v 1 0, lightDuration := bits v 9 2 } }
  else if !s.trusted k m then no
  else if a = profileReq then (if v % 4 = 3 then ok else { ok with power := { ok.power with request := v % 4 } })
  else if a = resetCtrl then (if bits v 31 16 = 0x4B7E then s.onReset k m v else no)
  else if bits v 31 16 = 0x6C0E then ok.logClear v else no

/-- The record of a host's write into an input bank or accumulator (R40, R56): held, with the tag of a write to a protected
region, until a decision. No unit of the module waits for it (DEDUCED, assumption 50). -/
def Device.protectedRec (s : Device) (m : Msg) : Rec :=
  { s.netRec Code.memAddressUnbacked m with posKind := 1, pos := accessAddr m, tag := 31, key := 2 }

/-- WRITE (R427). -/
def Device.onWrite (s : Device) (k : Nat) (m : Msg) : Device :=
  let a := accessAddr m
  let n := accessLen m
  if !accessOk true m then s.readReply k m Code.netMessageMalformed []
  else if inStatus a then
    if statusBase + 2 ^ 32 < a + n then s.readReply k m Code.memAddressUnbacked []
    else if writableReg a && decide (n = 4) then s.onRegister k m
    else s.readReply k m Code.netAccessDenied []
  else if !s.writable a n then
    (if s.backed a n && !s.isHeld (.hostWrite k) then s.hold (s.protectedRec m) (.hostWrite k) else s).readReply k m
      Code.memAddressUnbacked []
  else if s.writeDenied a n || !s.trusted k m then s.readReply k m Code.netAccessDenied []
  else (s.write a (writeData m)).readReply k m 0 []

/-! ## HOST_DECISION (R431, R458, R507) -/

/-- Items of a context whose rows have all run complete once nothing holds them (R72, R384). -/
def Device.settleCtx (s : Device) (g k : Nat) : Device :=
  let x := s.ctx g k
  ((x.items ++ x.other).map Item.id).foldl (fun s i => s.settleRows g k i) s

/-- The flows whose due message is a round's input that failed the gauntlet: the peer sends it again (R325). -/
def Device.releaseRound (s : Device) (b : Nat) : Device :=
  (s.net.flows.map (·.1)).foldl (fun s k =>
    let ph : Phase := if s.planePair true = keyPair k then .contribution else .part
    if flowClass (keyFlow k) = 3 ∧ (s.flow k).rxHeld ∧ (s.dueOnFlow ph k).map (·.2) = some b ∧ ¬ s.isHeld (.reductionFlow k)
    then s.releaseRx k else s) s

/-- The issue of a context that stands at a decision before it starts. -/
def Device.heldIssue (s : Device) (d q k kind : Nat) : Option Issue :=
  (s.quad d q).issues.find? (fun i => i.statsHeld && i.ctx == k && i.kind == kind)

/-- The statistics are looked at again (R236). -/
def Device.recheckWalk (s : Device) (d q k : Nat) : Device :=
  match s.heldIssue d q k 2 with
  | none => s
  | some i =>
    if s.statsOk d (s.walkRec d i.index) then
      (s.modQuad d q (fun x => { x with
        issues := x.issues.map (fun y => if y.id = i.id then { y with statsHeld := false } else y) })).startWalk d q i
    else s.statsHold d q k (s.walkRec d i.index)

/-- RETRY: the unit repeats what failed, from the point its rule names. -/
def Device.retryAt (s : Device) : Site → Device
  | .context g k => s.settleCtx g k
  | .vector g k => s.settleCtx g k
  | .walkStats d q k => s.recheckWalk d q k
  | .round p b ph =>
    let s := s.releaseRound b
    (match s.round p s.job.step b ph with | some r => s.completeRound p r | none => s)
  | .netFlow k =>
    let s := s.modFlow k (fun f => { f with held := false, resends := 0 })
    (match (s.flow k).unacked with | x :: _ => s.resendFrom k x.seq | [] => s)
  | .job => s.retryJob
  | .stageFlow grad => (s.releaseRx (s.stageIn grad)).grantStage grad
  | .reductionFlow k => s.releaseRx k
  | .carousel _ k => s.releaseRx k
  | _ => s

/-- SKIP, as the held code's rule defines it (R146, R225, R329). -/
def Device.skipAt (s : Device) : Site → Device
  | .tableStart d q k =>
    (match s.heldIssue d q k 1, s.heldIssue d q k 2 with
     | some i, _ => (s.countEmpty d q i.members).endIssue d q i
     | none, some i => s.finishWalk d q i
     | none, none => s)
  | .walkPage d q k _ p =>
    (s.streamMembers d q k).foldl (fun s m =>
      s.modWalk (gOf d q m.1) k m.2.2.item (fun r => { r with skipped := r.skipped ++ [p] })) s
  | .round p b ph => s.resumeRound p b ph true
  | _ => s

def Device.waitAt (s : Device) : Site → Device
  | .round p b ph => s.resumeRound p b ph false
  | _ => s

def partialOf : Site → Bool
  | .round _ _ ph => ph
  | _ => false

/-- The effect of a decision that is taken (R507). -/
def Device.decide' (s : Device) (h : Hold) (dec : Nat) : Device :=
  let t := s.unhold h
  match dec with
  | 0 => ({ t with log := { t.log with retried := t.log.retried ++ [h] } }).retryAt h.site
  | 1 => s.jobReset false
  | 2 => t.skipAt h.site
  | 3 => t.waitAt h.site
  | 4 => s.decidePrimary 0
  | _ => s.decidePrimary 1

/-- What a HOST_DECISION is answered with: 0 taken, 1 no match, 2 not offered, 3 refused (R431) (DEDUCED, assumption 55). -/
def Device.decisionResult (s : Device) (k : Nat) (m : Msg) (h : Option Hold) : Nat :=
  let dec := fld m.payload 2 1
  match h with
  | none => 1
  | some h =>
    if !Code.offers h.code h.tag (partialOf h.site) dec then 2
    else if 4 ≤ dec ∧ ¬(keyPair k = (if dec = 4 then 8 else 10) ∧ s.net.attested.contains (k, m.src)) then 3
    else 0

/-- HOST_DECISION as it is delivered (DEDUCED, assumption 55). -/
def Device.onDecision (s : Device) (k : Nat) (m : Msg) : Device :=
  let b := m.payload
  if b.length ≠ 32 ∨ ¬ zeros b 3 1 ∨ ¬ zeros b 16 16 then s.logMsg m (s.netRec Code.netMessageMalformed m)
  else
    let h := s.log.holds.find? (fun h => decide (Code.wire h.code = fld b 0 2) && decide (h.dataPath.toNat = fld b 4 4) &&
      decide (h.position.toNat = fld b 8 8))
    let res := s.decisionResult k m h
    let s := s.send k 0x16 false 0 0 0 (sub b 0 3 ++ [BitVec.ofNat 8 res] ++ b.drop 4)
    match h with
    | some h => if res = 0 then s.decide' h (fld b 2 1) else s
    | none => s

/-! ## ATTEND_GRANT (R432) -/

def Device.onAttend (s : Device) (m : Msg) : Device :=
  let b := m.payload
  if b.length ≠ 8 ∨ 1 < fld b 0 1 ∨ ¬ zeros b 1 7 then s.logMsg m (s.netRec Code.netMessageMalformed m)
  else if fld b 0 1 = 1 then s.attendGrant else s.attendRefuse

/-! ## The mailbox (R433, R434) -/

def Device.slotAddr (s : Device) (j : Nat) : Nat := nth 0 s.job.mailbox 0 + j * nth 0 s.job.mailbox 1

/-- The lowest slot whose state is free and that no arriving request has taken. -/
def Device.freeSlot (s : Device) : Option Nat :=
  (List.range (nth 0 s.job.mailbox 2)).find? (fun j =>
    decide (s.readNat (s.slotAddr j + 8) 1 = 0) && !s.job.infers.any (fun i => i.slot == j))

/-- A fragment of a request that holds a slot is written; the last marks the request present. -/
def Device.inferPart (s : Device) (i : Infer) (m : Msg) : Device :=
  let data := m.payload.drop 16
  let a := s.slotAddr i.slot
  let got := i.received + data.length
  let rest := s.job.infers.erase i
  let s := s.write (a + 64 + i.received) data
  if !m.last then { s with job := { s.job with infers := rest ++ [{ i with received := got }] } }
  else if got ≠ i.total then
    ({ s with job := { s.job with infers := rest } }).logMsg m (s.netRec Code.netMessageMalformed m)
  else
    let s := (s.write a (leBytes 4 i.request ++ leBytes 4 i.total)).write (a + 8) [1]
    { s with job := { s.job with infers := rest ++ [{ i with received := got, present := true }] } }

/-- INFER_REQ as it is delivered; it waits while the mailbox's die is parked (R54). -/
def Device.onInfer (s : Device) (k : Nat) (m : Msg) : Device × Bool :=
  let b := m.payload
  let req := fld b 0 4
  let total := fld b 8 4
  let off := fld b 12 4
  let n := (b.drop 16).length
  if b.length < 16 ∨ ¬ zeros b 4 4 ∨ 8192 < n ∨ total < off + n then (s.logMsg m (s.netRec Code.netMessageMalformed m), true)
  else if s.job.mailbox.isEmpty then (if off = 0 then s.inferStatus k req 1 else s, true)
  else if (s.waitsForDie (s.slotAddr 0)).isSome then (s, false)
  else if off = 0 then
    let s : Device := { s with job := { s.job with infers := s.job.infers.filter (fun i => i.present || i.flow != k) } }
    if nth 0 s.job.mailbox 1 < total + 64 then (s.inferStatus k req 3, true)
    else
      match s.freeSlot with
      | none => (s.inferStatus k req 2, true)
      | some j =>
        let i : Infer := ⟨j, req, total, 0, k, keyPair k, false⟩
        (({ s with job := { s.job with infers := s.job.infers ++ [i] } }).inferPart i m, true)
  else
    match s.job.infers.find? (fun i => i.flow == k && !i.present && i.request == req && i.received == off && i.total == total) with
    | some i => (s.inferPart i m, true)
    | none => (s, true)

/-- MAILBOX_POLL: a reply that is ready goes out on its request's session, and the slot is free again. -/
def Device.pollSlot (s : Device) (i : Infer) : Device :=
  let a := s.slotAddr i.slot
  if !i.present || (s.waitsForDie a).isSome || decide (s.readNat (a + 8) 1 ≠ 2) then s
  else
    let n := min (s.readNat (a + 16) 4) (nth 0 s.job.mailbox 1 - 64)
    let hdr (off : Nat) : List Byte := leBytes 4 i.request ++ [0, 0, 0, 0] ++ leBytes 4 n ++ leBytes 4 off
    let s := s.sendAll i.flow 0x24 0 (fragments hdr (n / 8192 + 1) 0 (s.read (a + 64) n))
    { s.write (a + 8) [0] with job := { s.job with infers := s.job.infers.erase i } }

def execMailboxPoll (s : State) : Host.Outcome State Fault Refusal :=
  .next (s.onDev (fun d => d.job.infers.foldl Device.pollSlot d))

/-! ## The queue of management requests (R40, R54, R425) -/

/-- JOB_LOAD with its answer (R345). -/
def Device.onLoad (s : Device) (k : Nat) (m : Msg) : Device :=
  if m.payload.length < 16 ∨ 8208 < m.payload.length then s.logMsg m (s.netRec Code.netMessageMalformed m)
  else if !s.backed stagingBase 1 then s.refuseOp k 0 0 Code.jobOpRefused
  else
    match s.jobLoad k m with
    | (s, some tag) => s.refuseOp k 0 tag Code.jobOpRefused
    | (s, none) => s

/-- STATUS from a host (R429). -/
def Device.onStatus (s : Device) (k : Nat) (m : Msg) : Device :=
  if m.payload.isEmpty then s.send k 0x07 false 0 0 0 (s.statusPayload (s.answerer k))
  else s.logMsg m (s.netRec Code.netMessageMalformed m)

/-- The access must wait: for the passes of the owning cluster that were in flight when it arrived, those before `gate`
(R40), or for a parked die (R54). -/
def Device.accessWaits (s : Device) (isWrite : Bool) (gate : Nat) (m : Msg) : Bool :=
  let a := accessAddr m
  let n := accessLen m
  accessOk isWrite m && !inStatus a &&
    (if isWrite then s.writeWaits a n else s.gatedWaits a n gate)

def Device.mustWait (s : Device) (kind gate : Nat) (m : Msg) : Bool :=
  match kind with
  | 0x04 => s.accessWaits false gate m
  | 0x05 => s.accessWaits true gate m
  | 0x10 => s.job.resetting || (s.waitsForDie stagingBase).isSome
  | _ => false

/-- What the recovery loader answers beside HELLO: STATUS, a READ of the status space, a WRITE to the hamper update source and a
WRITE of RESET_CTRL with action 4 (R451). -/
def loaderTakes (kind : Nat) (m : Msg) : Bool :=
  let a := accessAddr m
  match kind with
  | 0x04 => inStatus a
  | 0x05 => (decide (updateSource ≤ a) && decide (a + accessLen m ≤ updateSource + 0x4000000)) ||
      (decide (a = resetCtrl) && decide (fld m.payload 16 1 % 16 = 4))
  | 0x07 => true
  | _ => false

/-- The answer to a management request (DEDUCED, assumption 72). -/
def Device.answer (s : Device) (kind k : Nat) (m : Msg) : Device :=
  if (s.mp (s.answerer k)).run = 3 ∧ loaderTakes kind m = false then s
  else
  match kind with
  | 0x02 => s.onAttest k (s.answerer k) m
  | 0x04 => s.onRead k m
  | 0x05 => s.onWrite k m
  | 0x07 => s.onStatus k m
  | 0x10 => s.onLoad k m
  | 0x11 => s.onJobStart k m
  | 0x12 => s.onSuspend k m
  | 0x13 => s.onResume k m
  | 0x14 => s.onCancel k m
  | 0x15 => s.onOpState k m
  | 0x16 => s.onDecision k m
  | 0x41 => s.onAttend m
  | _ => s

/-- A request is answered at once, or waits behind those of its flow; a full queue answers NET_BUSY. -/
def Device.request (s : Device) (kind k : Nat) (m : Msg) : Device :=
  let gate := s.readGate (accessAddr m)
  if s.net.requests.any (fun e => e.1 / 256 == k) || s.mustWait kind gate m then
    if 64 ≤ s.net.requests.length then s.sendAck k false false (Code.wire Code.netBusy)
    else { s with net := { s.net with requests := s.net.requests ++ [(k * 256 + kind, gate, m)] } }
  else s.answer kind k m

/-- The first request that need wait no longer, of those that are the first of their flow. -/
def Device.nextServed (s : Device) : List Nat → List (Nat × Nat × Msg) → Option (Nat × Nat × Msg)
  | _, [] => none
  | seen, e :: t =>
    if !seen.contains (e.1 / 256) && !s.mustWait (e.1 % 256) e.2.1 e.2.2 then some e else s.nextServed (e.1 / 256 :: seen) t

def Device.serveFuel : Nat → Device → Device
  | 0, s => s
  | n + 1, s =>
    match s.nextServed [] s.net.requests with
    | none => s
    | some e => Device.serveFuel n (({ s with net := { s.net with requests := s.net.requests.erase e } }).answer (e.1 % 256) (e.1 / 256) e.2.2)

/-- Requests whose wait has ended are answered (DESIGN CHOICE, assumption 17). -/
def Device.serve (s : Device) : Device := Device.serveFuel s.net.requests.length s

/-! ## Delivery (R417, R424) -/

/-- What takes a delivered message; during a warm reset only HELLO and STATUS are answered (R461) (DEDUCED, assumption 72). -/
def takeMessage : Deliver := fun s kind k m =>
  if s.boot.warmReset ∧ kind ≠ 0x01 ∧ kind ≠ 0x07 then (s, false)
  else
    match kind with
    | 0x01 => (s.onHello k m, true)
    | 0x20 => (s.onSample m, true)
    | 0x23 => s.onInfer k m
    | 0x30 => s.onCarouselPage k m
    | 0x31 => s.onCarouselGrad k m
    | 0x32 => s.onReduce k m
    | 0x33 => s.onGather k m
    | 0x34 => s.onStage false m
    | 0x35 => s.onStage true m
    | 0x36 => s.onMirror m
    | _ => (s.request kind k m, true)

/-- What a delivery may have brought to its end. -/
def Device.afterwards (s : Device) : Device := (((s.mirrorAcked 0).mirrorAcked 1).settleRestore).attendAdvance

/-- A message arrives; a module that is off receives nothing. -/
def Device.arrive (s : Device) (kind : Nat) (m : Msg) : Device :=
  if s.off then s else (s.receive takeMessage kind m).afterwards

/-- Messages that waited in their buffers are offered again. -/
def Device.redeliver (s : Device) : Device :=
  ((s.net.flows.map (·.1)).foldl (fun s k => Device.deliverFrom takeMessage k (s.flow k).buffer.length s) s).serve.afterwards

/-! ## The commands that carry messages -/

/-- ACK (R419). -/
def execAck (m : Msg) (s : State) : Host.Outcome State Fault Refusal := .next (s.onDev (fun d => d.arrive 0x3F m))
/-- ICVAN_UNKNOWN_TYPE (R424): the type is one no table lists. -/
def execIcvanUnknownType (m : Msg) (s : State) : Host.Outcome State Fault Refusal := .next (s.onDev (fun d => d.arrive 0xFF m))
/-- HELLO (R426). -/
def execHello (m : Msg) (s : State) : Host.Outcome State Fault Refusal := .next (s.onDev (fun d => d.arrive 0x01 m))
/-- ATTEST_REQ (R454). -/
def execAttestReq (m : Msg) (s : State) : Host.Outcome State Fault Refusal := .next (s.onDev (fun d => d.arrive 0x02 m))
/-- READ (R427). -/
def execRead (m : Msg) (s : State) : Host.Outcome State Fault Refusal := .next (s.onDev (fun d => d.arrive 0x04 m))
/-- WRITE (R427). -/
def execWrite (m : Msg) (s : State) : Host.Outcome State Fault Refusal := .next (s.onDev (fun d => d.arrive 0x05 m))
/-- STATUS (R429). -/
def execStatus (m : Msg) (s : State) : Host.Outcome State Fault Refusal := .next (s.onDev (fun d => d.arrive 0x07 m))
/-- JOB_LOAD (R345). -/
def execJobLoad (m : Msg) (s : State) : Host.Outcome State Fault Refusal := .next (s.onDev (fun d => d.arrive 0x10 m))
/-- OP_SUSPEND (R367). -/
def execOpSuspend (m : Msg) (s : State) : Host.Outcome State Fault Refusal := .next (s.onDev (fun d => d.arrive 0x12 m))
/-- OP_RESUME (R367). -/
def execOpResume (m : Msg) (s : State) : Host.Outcome State Fault Refusal := .next (s.onDev (fun d => d.arrive 0x13 m))
/-- OP_CANCEL (R367, R370). -/
def execOpCancel (m : Msg) (s : State) : Host.Outcome State Fault Refusal := .next (s.onDev (fun d => d.arrive 0x14 m))
/-- OP_STATE (R368). -/
def execOpState (m : Msg) (s : State) : Host.Outcome State Fault Refusal := .next (s.onDev (fun d => d.arrive 0x15 m))
/-- SAMPLE (R280). -/
def execSample (m : Msg) (s : State) : Host.Outcome State Fault Refusal := .next (s.onDev (fun d => d.arrive 0x20 m))
/-- INFER_REQ (R434). -/
def execInferReq (m : Msg) (s : State) : Host.Outcome State Fault Refusal := .next (s.onDev (fun d => d.arrive 0x23 m))
/-- CAROUSEL_PAGE (R256). -/
def execCarouselPage (m : Msg) (s : State) : Host.Outcome State Fault Refusal := .next (s.onDev (fun d => d.arrive 0x30 m))
/-- CAROUSEL_GRAD (R260). -/
def execCarouselGrad (m : Msg) (s : State) : Host.Outcome State Fault Refusal := .next (s.onDev (fun d => d.arrive 0x31 m))
/-- REDUCE_CHUNK (R325): a message, or the P-die's own input. -/
def execReduceChunk (i : ReduceInput) (s : State) : Host.Outcome State Fault Refusal :=
  .next (s.onDev (fun d => match i with
    | .remote m => d.arrive 0x32 m
    | .own p b ph => if p < 2 then d.ownReduce p b ph else d))
/-- GATHER_CHUNK (R331). -/
def execGatherChunk (m : Msg) (s : State) : Host.Outcome State Fault Refusal := .next (s.onDev (fun d => d.arrive 0x33 m))
/-- STAGE_ACT (R358). -/
def execStageAct (m : Msg) (s : State) : Host.Outcome State Fault Refusal := .next (s.onDev (fun d => d.arrive 0x34 m))
/-- STAGE_GRAD (R358). -/
def execStageGrad (m : Msg) (s : State) : Host.Outcome State Fault Refusal := .next (s.onDev (fun d => d.arrive 0x35 m))
/-- THERMOS_MIRROR (R374). -/
def execThermosMirror (m : Msg) (s : State) : Host.Outcome State Fault Refusal := .next (s.onDev (fun d => d.arrive 0x36 m))

/-- A message whose content is the command's. -/
def Device.arriveIf (s : Device) (p : Bool) (kind : Nat) (m : Msg) : Device := if p then s.arrive kind m else s

/-- The action of a JOB_START (R352), the decision of a HOST_DECISION (R431), the answer of an ATTEND_GRANT (R432). -/
def startAction (m : Msg) : Nat := fld m.payload 4 1
def decisionOf (m : Msg) : Nat := fld m.payload 2 1
def grantOf (m : Msg) : Nat := fld m.payload 0 1
/-- The value a WRITE of four bytes gives a register. -/
def regValue (m : Msg) : Nat := fld m.payload 16 4
/-- A write of RESET_CTRL with an action. -/
def isReset (m : Msg) (action : Nat) : Bool := decide (accessAddr m = resetCtrl) && decide (regValue m % 16 = action)

/-- JOB_START, action 0, or an action no rule gives (R352, R353). -/
def execJobStart (m : Msg) (s : State) : Host.Outcome State Fault Refusal :=
  .next (s.onDev (fun d => d.arriveIf (startAction m == 0 || decide (3 < startAction m)) 0x11 m))
/-- JOB_START, action 1 (R376). -/
def execJobStartRestore (m : Msg) (s : State) : Host.Outcome State Fault Refusal :=
  .next (s.onDev (fun d => d.arriveIf (startAction m == 1) 0x11 m))
/-- JOB_START, action 2 (R366). -/
def execJobStartThermos (m : Msg) (s : State) : Host.Outcome State Fault Refusal :=
  .next (s.onDev (fun d => d.arriveIf (startAction m == 2) 0x11 m))
/-- JOB_START, action 3 (R53). -/
def execJobStartScrub (m : Msg) (s : State) : Host.Outcome State Fault Refusal :=
  .next (s.onDev (fun d => d.arriveIf (startAction m == 3) 0x11 m))

/-- HOST_DECISION RETRY (R507), or a decision no rule gives, which no record offers. -/
def execHostDecisionRetry (m : Msg) (s : State) : Host.Outcome State Fault Refusal :=
  .next (s.onDev (fun d => d.arriveIf (decisionOf m == 0 || decide (5 < decisionOf m)) 0x16 m))
/-- HOST_DECISION ABORT (R507). -/
def execHostDecisionAbort (m : Msg) (s : State) : Host.Outcome State Fault Refusal :=
  .next (s.onDev (fun d => d.arriveIf (decisionOf m == 1) 0x16 m))
/-- HOST_DECISION SKIP (R507). -/
def execHostDecisionSkip (m : Msg) (s : State) : Host.Outcome State Fault Refusal :=
  .next (s.onDev (fun d => d.arriveIf (decisionOf m == 2) 0x16 m))
/-- HOST_DECISION WAIT (R329). -/
def execHostDecisionWait (m : Msg) (s : State) : Host.Outcome State Fault Refusal :=
  .next (s.onDev (fun d => d.arriveIf (decisionOf m == 3) 0x16 m))
/-- HOST_DECISION primary MP0 (R458). -/
def execHostDecisionPrimaryMp0 (m : Msg) (s : State) : Host.Outcome State Fault Refusal :=
  .next (s.onDev (fun d => d.arriveIf (decisionOf m == 4) 0x16 m))
/-- HOST_DECISION primary MP1 (R458). -/
def execHostDecisionPrimaryMp1 (m : Msg) (s : State) : Host.Outcome State Fault Refusal :=
  .next (s.onDev (fun d => d.arriveIf (decisionOf m == 5) 0x16 m))

/-- ATTEND_GRANT that grants (R474). -/
def execAttendGrant (m : Msg) (s : State) : Host.Outcome State Fault Refusal :=
  .next (s.onDev (fun d => d.arriveIf (grantOf m == 1) 0x41 m))
/-- ATTEND_GRANT that refuses (R475). -/
def execAttendRefuse (m : Msg) (s : State) : Host.Outcome State Fault Refusal :=
  .next (s.onDev (fun d => d.arriveIf (grantOf m != 1) 0x41 m))

/-- RESET_CTRL action 1 (R461). -/
def execWarmReset (m : Msg) (s : State) : Host.Outcome State Fault Refusal := .next (s.onDev (fun d => d.arriveIf (isReset m 1) 0x05 m))
/-- RESET_CTRL action 2 (R461). -/
def execPortReset (m : Msg) (s : State) : Host.Outcome State Fault Refusal := .next (s.onDev (fun d => d.arriveIf (isReset m 2) 0x05 m))
/-- RESET_CTRL action 3 (R461). -/
def execJobReset (m : Msg) (s : State) : Host.Outcome State Fault Refusal := .next (s.onDev (fun d => d.arriveIf (isReset m 3) 0x05 m))
/-- RESET_CTRL action 4 (R459). -/
def execHamperUpdate (m : Msg) (s : State) : Host.Outcome State Fault Refusal := .next (s.onDev (fun d => d.arriveIf (isReset m 4) 0x05 m))
/-- RESET_CTRL action 5 (R465). -/
def execEnterStandby (m : Msg) (s : State) : Host.Outcome State Fault Refusal := .next (s.onDev (fun d => d.arriveIf (isReset m 5) 0x05 m))
/-- RESET_CTRL action 6 (R465). -/
def execLeaveStandby (m : Msg) (s : State) : Host.Outcome State Fault Refusal := .next (s.onDev (fun d => d.arriveIf (isReset m 6) 0x05 m))
/-- PROFILE_REQ (R396, R398). -/
def execProfileReq (m : Msg) (s : State) : Host.Outcome State Fault Refusal :=
  .next (s.onDev (fun d => d.arriveIf (accessAddr m == profileReq) 0x05 m))
/-- LIGHT_TEST (R472). -/
def execLightTest (m : Msg) (s : State) : Host.Outcome State Fault Refusal :=
  .next (s.onDev (fun d => d.arriveIf (accessAddr m == lightTest) 0x05 m))
/-- LOG_CLEAR (R503). -/
def execLogClear (m : Msg) (s : State) : Host.Outcome State Fault Refusal :=
  .next (s.onDev (fun d => d.arriveIf (accessAddr m == logClearReg) 0x05 m))
/-- COUNTER_FREEZE with 1 (R508). -/
def execCounterFreeze (m : Msg) (s : State) : Host.Outcome State Fault Refusal :=
  .next (s.onDev (fun d => d.arriveIf (accessAddr m == counterFreeze && bit (regValue m) 0) 0x05 m))
/-- COUNTER_FREEZE with 0 (R508). -/
def execCounterUnfreeze (m : Msg) (s : State) : Host.Outcome State Fault Refusal :=
  .next (s.onDev (fun d => d.arriveIf (accessAddr m == counterFreeze && !bit (regValue m) 0) 0x05 m))
/-- A WRITE to any other address of the status space (R16). -/
def execRegisterWriteOther (m : Msg) (s : State) : Host.Outcome State Fault Refusal :=
  .next (s.onDev (fun d => d.arriveIf (inStatus (accessAddr m) && !writableReg (accessAddr m)) 0x05 m))

/-! ## Events after which what waited goes on -/

/-- INPUT_BANK_READ_SERVED (R40): a pass of the cluster has completed, and the reads that waited for it are answered. -/
def execInputBankReadServed (g : Nat) (s : State) : Host.Outcome State Fault Refusal :=
  .next (s.onDev (fun d => if 576 ≤ g then d else d.serve))
/-- DIE_PARKED (R403). -/
def execDieParked (d : Nat) (s : State) : Host.Outcome State Fault Refusal := .next (s.onDev (fun v => (v.diePark d).attendAdvance))
/-- DIE_UNPARKED (R403, R54); a hamper update whose image waited for A0 is checked. -/
def execDieUnparked (d : Nat) (s : State) : Host.Outcome State Fault Refusal :=
  .next (s.onDev (fun v => (v.dieUnpark d).checkUpdate.redeliver))
/-- STEP_BOUNDARY (R357); messages of the new step that came early are taken. -/
def execStepBoundary (s : State) : Host.Outcome State Fault Refusal :=
  .next (s.onDev (fun d => if d.stepOver then d.stepBoundary.redeliver else d))
/-- OPERATION_STOP_POINT (R367). -/
def execOperationStopPoint (handle : Nat) (s : State) : Host.Outcome State Fault Refusal :=
  .next (s.onDev (fun d => ((d.stopPointEnd handle).dropQuotes).attendAdvance))
/-- JOB_RESET_COMPLETE (R461). -/
def execJobResetComplete (s : State) : Host.Outcome State Fault Refusal :=
  .next (s.onDev (fun d => if d.job.resetting then d.jobResetComplete.redeliver else d))
/-- WARM_RESET_COMPLETE (R461). -/
def execWarmResetComplete (s : State) : Host.Outcome State Fault Refusal :=
  .next (s.onDev (fun d => if d.boot.warmReset then d.warmResetComplete.redeliver else d))

end Sys2Proof.Machine
end

