-- ==== Sys2Proof/Machine/Dispatch.lean ====
section
/-! DEFINITION. The dispatch: one arm per command, each one call of that command's meaning. -/

namespace Sys2Proof.Machine

def exec (i : Instr) (s : State) : Host.Outcome State Fault Refusal :=
  match i with
  | .inputBankReadServed g => Sys2Proof.Machine.execInputBankReadServed g s
  | .moveStart d q => Sys2Proof.Machine.execMoveStart d q s
  | .moveComplete d q e => Sys2Proof.Machine.execMoveComplete d q e s
  | .memoryReadReturn u store addr res => Sys2Proof.Machine.execMemoryReadReturn u store addr res s
  | .patrolScrubGranule u found => Sys2Proof.Machine.execPatrolScrubGranule u found s
  | .hostScrubChunk serial found => Sys2Proof.Machine.execHostScrubChunk serial found s
  | .itemStart g vector order => Sys2Proof.Machine.execItemStart g vector order s
  | .formatHoldRelease g ctx => Sys2Proof.Machine.execFormatHoldRelease g ctx s
  | .arrayIssueCycle g half weightWait wait => Sys2Proof.Machine.execArrayIssueCycle g half weightWait wait s
  | .passComplete g half => Sys2Proof.Machine.execPassComplete g half s
  | .readoutRow g half waited => Sys2Proof.Machine.execReadoutRow g half waited s
  | .shapeChange g => Sys2Proof.Machine.execShapeChange g s
  | .shapeReconfigDone g => Sys2Proof.Machine.execShapeReconfigDone g s
  | .weightQueueFill g ctx bytes => Sys2Proof.Machine.execWeightQueueFill g ctx bytes s
  | .frameLoad g ctx => Sys2Proof.Machine.execFrameLoad g ctx s
  | .table c => Sys2Proof.Machine.execTable c s
  | .tableComplete d q ctx => Sys2Proof.Machine.execTableComplete d q ctx s
  | .multicastDelivery d q ctx waits => Sys2Proof.Machine.execMulticastDelivery d q ctx waits s
  | .vectorInvocationStart g => Sys2Proof.Machine.execVectorInvocationStart g s
  | .vNop g f => Sys2Proof.Machine.execVNop g f s
  | .vEnd g f => Sys2Proof.Machine.execVEnd g f s
  | .jmp g f => Sys2Proof.Machine.execJmp g f s
  | .jany g f => Sys2Proof.Machine.execJany g f s
  | .jnone g f => Sys2Proof.Machine.execJnone g f s
  | .vIn g f => Sys2Proof.Machine.execVIn g f s
  | .inc g f => Sys2Proof.Machine.execInc g f s
  | .vOut g f => Sys2Proof.Machine.execVOut g f s
  | .outr g f => Sys2Proof.Machine.execOutr g f s
  | .rowbase g base => Sys2Proof.Machine.execRowbase g base s
  | .sys g f => Sys2Proof.Machine.execSys g f s
  | .ldr g f => Sys2Proof.Machine.execLdr g f s
  | .str g f => Sys2Proof.Machine.execStr g f s
  | .mov g f => Sys2Proof.Machine.execMov g f s
  | .movi g f => Sys2Proof.Machine.execMovi g f s
  | .sel g f => Sys2Proof.Machine.execSel g f s
  | .fadd g f => Sys2Proof.Machine.execFadd g f s
  | .fsub g f => Sys2Proof.Machine.execFsub g f s
  | .fmul g f => Sys2Proof.Machine.execFmul g f s
  | .ffma g f => Sys2Proof.Machine.execFfma g f s
  | .fmin g f => Sys2Proof.Machine.execFmin g f s
  | .fmax g f => Sys2Proof.Machine.execFmax g f s
  | .faddi g f => Sys2Proof.Machine.execFaddi g f s
  | .fmuli g f => Sys2Proof.Machine.execFmuli g f s
  | .fabs g f => Sys2Proof.Machine.execFabs g f s
  | .fneg g f => Sys2Proof.Machine.execFneg g f s
  | .fcmp g f => Sys2Proof.Machine.execFcmp g f s
  | .vExp g f => Sys2Proof.Machine.execVExp g f s
  | .vLog g f => Sys2Proof.Machine.execVLog g f s
  | .rcp g f => Sys2Proof.Machine.execRcp g f s
  | .rsq g f => Sys2Proof.Machine.execRsq g f s
  | .tanh g f => Sys2Proof.Machine.execTanh g f s
  | .erf g f => Sys2Proof.Machine.execErf g f s
  | .iadd g f => Sys2Proof.Machine.execIadd g f s
  | .isub g f => Sys2Proof.Machine.execIsub g f s
  | .imul g f => Sys2Proof.Machine.execImul g f s
  | .iand g f => Sys2Proof.Machine.execIand g f s
  | .ior g f => Sys2Proof.Machine.execIor g f s
  | .ixor g f => Sys2Proof.Machine.execIxor g f s
  | .ishl g f => Sys2Proof.Machine.execIshl g f s
  | .ishr g f => Sys2Proof.Machine.execIshr g f s
  | .isra g f => Sys2Proof.Machine.execIsra g f s
  | .iaddi g f => Sys2Proof.Machine.execIaddi g f s
  | .icmp g f => Sys2Proof.Machine.execIcmp g f s
  | .imin g f => Sys2Proof.Machine.execImin g f s
  | .imax g f => Sys2Proof.Machine.execImax g f s
  | .itof g f => Sys2Proof.Machine.execItof g f s
  | .ftoi g f => Sys2Proof.Machine.execFtoi g f s
  | .cvt g f => Sys2Proof.Machine.execCvt g f s
  | .cvtf g f => Sys2Proof.Machine.execCvtf g f s
  | .rsum g f => Sys2Proof.Machine.execRsum g f s
  | .rmax g f => Sys2Proof.Machine.execRmax g f s
  | .rmin g f => Sys2Proof.Machine.execRmin g f s
  | .rargmax g f => Sys2Proof.Machine.execRargmax g f s
  | .pand g f => Sys2Proof.Machine.execPand g f s
  | .por g f => Sys2Proof.Machine.execPor g f s
  | .pxor g f => Sys2Proof.Machine.execPxor g f s
  | .pnot g f => Sys2Proof.Machine.execPnot g f s
  | .pfirst g f => Sys2Proof.Machine.execPfirst g f s
  | .psys g f => Sys2Proof.Machine.execPsys g f s
  | .vecRunaway g => Sys2Proof.Machine.execVecRunaway g s
  | .walk c => Sys2Proof.Machine.execWalk c s
  | .walkDescriptorEmit d q c waited => Sys2Proof.Machine.execWalkDescriptorEmit d q c waited s
  | .attPageLate d q ctx => Sys2Proof.Machine.execAttPageLate d q ctx s
  | .softmaxPipeGroup g ctx => Sys2Proof.Machine.execSoftmaxPipeGroup g ctx s
  | .walkComplete d q ctx => Sys2Proof.Machine.execWalkComplete d q ctx s
  | .seal c => Sys2Proof.Machine.execSeal c s
  | .sealResume d q => Sys2Proof.Machine.execSealResume d q s
  | .tour c => Sys2Proof.Machine.execTour c s
  | .tourStart d => Sys2Proof.Machine.execTourStart d s
  | .carouselPageSend d dir => Sys2Proof.Machine.execCarouselPageSend d dir s
  | .carouselPage m => Sys2Proof.Machine.execCarouselPage m s
  | .tourReleaseFrames d => Sys2Proof.Machine.execTourReleaseFrames d s
  | .carouselGradSend d path => Sys2Proof.Machine.execCarouselGradSend d path s
  | .carouselGrad m => Sys2Proof.Machine.execCarouselGrad m s
  | .carLapTimeout d flow => Sys2Proof.Machine.execCarLapTimeout d flow s
  | .senderCreditTimeout d flow => Sys2Proof.Machine.execSenderCreditTimeout d flow s
  | .sample m => Sys2Proof.Machine.execSample m s
  | .decodeStart p => Sys2Proof.Machine.execDecodeStart p s
  | .decodeComplete p e cycles => Sys2Proof.Machine.execDecodeComplete p e cycles s
  | .ingBudgetExceeded p e => Sys2Proof.Machine.execIngBudgetExceeded p e s
  | .concealmentFill p e => Sys2Proof.Machine.execConcealmentFill p e s
  | .periodEnd => Sys2Proof.Machine.execPeriodEnd s
  | .recordDeliver => Sys2Proof.Machine.execRecordDeliver s
  | .ingestCredit pair => Sys2Proof.Machine.execIngestCredit pair s
  | .reductionSendBundle p => Sys2Proof.Machine.execReductionSendBundle p s
  | .reduceChunk r => Sys2Proof.Machine.execReduceChunk r s
  | .roundWindowClose p bundle partialPhase => Sys2Proof.Machine.execRoundWindowClose p bundle partialPhase s
  | .gatherChunk m => Sys2Proof.Machine.execGatherChunk m s
  | .updateBundle p => Sys2Proof.Machine.execUpdateBundle p s
  | .jobLoad m => Sys2Proof.Machine.execJobLoad m s
  | .admissionComplete => Sys2Proof.Machine.execAdmissionComplete s
  | .jobStart m => Sys2Proof.Machine.execJobStart m s
  | .jobStartRestore m => Sys2Proof.Machine.execJobStartRestore m s
  | .jobStartThermos m => Sys2Proof.Machine.execJobStartThermos m s
  | .jobStartScrub m => Sys2Proof.Machine.execJobStartScrub m s
  | .deferredJobStart => Sys2Proof.Machine.execDeferredJobStart s
  | .hello m => Sys2Proof.Machine.execHello m s
  | .helloResend k => Sys2Proof.Machine.execHelloResend k s
  | .jobPeerSilent k => Sys2Proof.Machine.execJobPeerSilent k s
  | .programNop c => Sys2Proof.Machine.execProgramNop c s
  | .vpass c => Sys2Proof.Machine.execVpass c s
  | .field c => Sys2Proof.Machine.execField c s
  | .move c => Sys2Proof.Machine.execMove c s
  | .wait c => Sys2Proof.Machine.execWait c s
  | .post c => Sys2Proof.Machine.execPost c s
  | .setr c => Sys2Proof.Machine.execSetr c s
  | .loadr c => Sys2Proof.Machine.execLoadr c s
  | .sendAct c => Sys2Proof.Machine.execSendAct c s
  | .sendGrad c => Sys2Proof.Machine.execSendGrad c s
  | .recvAct c => Sys2Proof.Machine.execRecvAct c s
  | .recvGrad c => Sys2Proof.Machine.execRecvGrad c s
  | .drain c => Sys2Proof.Machine.execDrain c s
  | .stepEnd c => Sys2Proof.Machine.execStepEnd c s
  | .waitSatisfied d q play => Sys2Proof.Machine.execWaitSatisfied d q play s
  | .drainSatisfied d q play => Sys2Proof.Machine.execDrainSatisfied d q play s
  | .deferredIssue d q play => Sys2Proof.Machine.execDeferredIssue d q play s
  | .stepBoundary => Sys2Proof.Machine.execStepBoundary s
  | .contextRotation g ctx => Sys2Proof.Machine.execContextRotation g ctx s
  | .stageMessageSend grad => Sys2Proof.Machine.execStageMessageSend grad s
  | .stageAct m => Sys2Proof.Machine.execStageAct m s
  | .stageGrad m => Sys2Proof.Machine.execStageGrad m s
  | .opSuspend m => Sys2Proof.Machine.execOpSuspend m s
  | .opResume m => Sys2Proof.Machine.execOpResume m s
  | .opCancel m => Sys2Proof.Machine.execOpCancel m s
  | .opState m => Sys2Proof.Machine.execOpState m s
  | .operationStopPoint handle => Sys2Proof.Machine.execOperationStopPoint handle s
  | .thermosRecordWrite p => Sys2Proof.Machine.execThermosRecordWrite p s
  | .thermosMirrorSend p => Sys2Proof.Machine.execThermosMirrorSend p s
  | .thermosMirror m => Sys2Proof.Machine.execThermosMirror m s
  | .mirrorTimeout => Sys2Proof.Machine.execMirrorTimeout s
  | .thermosRestoreRecord p => Sys2Proof.Machine.execThermosRestoreRecord p s
  | .energyRefill t temp current => Sys2Proof.Machine.execEnergyRefill t temp current s
  | .donorTransfer d => Sys2Proof.Machine.execDonorTransfer d s
  | .priorityRequest g ctx vector => Sys2Proof.Machine.execPriorityRequest g ctx vector s
  | .pwrCreditStarved g ctx vector => Sys2Proof.Machine.execPwrCreditStarved g ctx vector s
  | .profileReq m => Sys2Proof.Machine.execProfileReq m s
  | .clockStep d => Sys2Proof.Machine.execClockStep d s
  | .thermalTrip part => Sys2Proof.Machine.execThermalTrip part s
  | .thermalRecover part => Sys2Proof.Machine.execThermalRecover part s
  | .railCondition r percent => Sys2Proof.Machine.execRailCondition r percent s
  | .railConditionClear r percent => Sys2Proof.Machine.execRailConditionClear r percent s
  | .stripeOvercurrent t => Sys2Proof.Machine.execStripeOvercurrent t s
  | .inputThresholdCrossed volts => Sys2Proof.Machine.execInputThresholdCrossed volts s
  | .inputThresholdRecovered volts => Sys2Proof.Machine.execInputThresholdRecovered volts s
  | .shedLevelActions => Sys2Proof.Machine.execShedLevelActions s
  | .dieParked d => Sys2Proof.Machine.execDieParked d s
  | .dieUnparked d => Sys2Proof.Machine.execDieUnparked d s
  | .powerRemoval => Sys2Proof.Machine.execPowerRemoval s
  | .inputOvervoltage volts => Sys2Proof.Machine.execInputOvervoltage volts s
  | .dieIdle d => Sys2Proof.Machine.execDieIdle d s
  | .foreignPacket port => Sys2Proof.Machine.execForeignPacket port s
  | .neighbourDiscovery port src target => Sys2Proof.Machine.execNeighbourDiscovery port src target s
  | .pauseFrame port priority pause => Sys2Proof.Machine.execPauseFrame port priority pause s
  | .ecnRateRaise k => Sys2Proof.Machine.execEcnRateRaise k s
  | .icvanUnknownType m => Sys2Proof.Machine.execIcvanUnknownType m s
  | .ack m => Sys2Proof.Machine.execAck m s
  | .ackDelayExpiry k => Sys2Proof.Machine.execAckDelayExpiry k s
  | .retransmitTimeout k => Sys2Proof.Machine.execRetransmitTimeout k s
  | .linkDown port => Sys2Proof.Machine.execLinkDown port s
  | .replayRound pair => Sys2Proof.Machine.execReplayRound pair s
  | .linkReturn port => Sys2Proof.Machine.execLinkReturn port s
  | .read m => Sys2Proof.Machine.execRead m s
  | .write m => Sys2Proof.Machine.execWrite m s
  | .status m => Sys2Proof.Machine.execStatus m s
  | .statusChangeReport => Sys2Proof.Machine.execStatusChangeReport s
  | .errorReport => Sys2Proof.Machine.execErrorReport s
  | .hostDecisionRetry m => Sys2Proof.Machine.execHostDecisionRetry m s
  | .hostDecisionAbort m => Sys2Proof.Machine.execHostDecisionAbort m s
  | .hostDecisionSkip m => Sys2Proof.Machine.execHostDecisionSkip m s
  | .hostDecisionWait m => Sys2Proof.Machine.execHostDecisionWait m s
  | .hostDecisionPrimaryMp0 m => Sys2Proof.Machine.execHostDecisionPrimaryMp0 m s
  | .hostDecisionPrimaryMp1 m => Sys2Proof.Machine.execHostDecisionPrimaryMp1 m s
  | .attendGrant m => Sys2Proof.Machine.execAttendGrant m s
  | .attendRefuse m => Sys2Proof.Machine.execAttendRefuse m s
  | .attendReqResend => Sys2Proof.Machine.execAttendReqResend s
  | .inferReq m => Sys2Proof.Machine.execInferReq m s
  | .mailboxPoll => Sys2Proof.Machine.execMailboxPoll s
  | .powerOn strap => Sys2Proof.Machine.execPowerOn strap s
  | .mpRelease p => Sys2Proof.Machine.execMpRelease p s
  | .partBringUpComplete part ok => Sys2Proof.Machine.execPartBringUpComplete part ok s
  | .strollService ms => Sys2Proof.Machine.execStrollService ms s
  | .fullService => Sys2Proof.Machine.execFullService s
  | .bootFullLate => Sys2Proof.Machine.execBootFullLate s
  | .bringUpDeadline => Sys2Proof.Machine.execBringUpDeadline s
  | .heartbeat p => Sys2Proof.Machine.execHeartbeat p s
  | .heartbeatLost => Sys2Proof.Machine.execHeartbeatLost s
  | .heartbeatRestored => Sys2Proof.Machine.execHeartbeatRestored s
  | .endorsementSigned p => Sys2Proof.Machine.execEndorsementSigned p s
  | .attestReq m => Sys2Proof.Machine.execAttestReq m s
  | .attestQuote p => Sys2Proof.Machine.execAttestQuote p s
  | .warmReset m => Sys2Proof.Machine.execWarmReset m s
  | .warmResetComplete => Sys2Proof.Machine.execWarmResetComplete s
  | .portReset m => Sys2Proof.Machine.execPortReset m s
  | .portResetComplete port => Sys2Proof.Machine.execPortResetComplete port s
  | .jobReset m => Sys2Proof.Machine.execJobReset m s
  | .hamperUpdate m => Sys2Proof.Machine.execHamperUpdate m s
  | .hamperSectorWritten => Sys2Proof.Machine.execHamperSectorWritten s
  | .enterStandby m => Sys2Proof.Machine.execEnterStandby m s
  | .standbyEntered => Sys2Proof.Machine.execStandbyEntered s
  | .leaveStandby m => Sys2Proof.Machine.execLeaveStandby m s
  | .moduleReset strap => Sys2Proof.Machine.execModuleReset strap s
  | .attendPress => Sys2Proof.Machine.execAttendPress s
  | .ejectorLift => Sys2Proof.Machine.execEjectorLift s
  | .ejectorLower => Sys2Proof.Machine.execEjectorLower s
  | .opticChange port seated overPower => Sys2Proof.Machine.execOpticChange port seated overPower s
  | .inputOvercurrent => Sys2Proof.Machine.execInputOvercurrent s
  | .coolantSample inlet outlet flow sustained => Sys2Proof.Machine.execCoolantSample inlet outlet flow sustained s
  | .strapChange level => Sys2Proof.Machine.execStrapChange level s
  | .i2cRead n => Sys2Proof.Machine.execI2cRead n s
  | .i2cWrite offset data => Sys2Proof.Machine.execI2cWrite offset data s
  | .refclockLoss serdes => Sys2Proof.Machine.execRefclockLoss serdes s
  | .lightTest m => Sys2Proof.Machine.execLightTest m s
  | .lightTestExpiry => Sys2Proof.Machine.execLightTestExpiry s
  | .logClear m => Sys2Proof.Machine.execLogClear m s
  | .counterFreeze m => Sys2Proof.Machine.execCounterFreeze m s
  | .counterUnfreeze m => Sys2Proof.Machine.execCounterUnfreeze m s
  | .logSavePeriodic => Sys2Proof.Machine.execLogSavePeriodic s
  | .logSaveComplete => Sys2Proof.Machine.execLogSaveComplete s
  | .registerWriteOther m => Sys2Proof.Machine.execRegisterWriteOther m s
  | .jobResetComplete => Sys2Proof.Machine.execJobResetComplete s
  | .i2cSnapshotRefresh power => Sys2Proof.Machine.execI2cSnapshotRefresh power s

end Sys2Proof.Machine
end

