-- ==== Sys2Proof/Safety.lean ====
section
/-! DEFINITION. What claims are stated in: the invariant every step keeps, the frames of the shared operations, the state a
vector instruction or a received message completes from, and what a flow keeps to send. -/

namespace Sys2Proof.Machine

/-! ## The invariant -/

/-- Memory is in canonical form: addresses rise strictly and no listed byte is 0, what an unlisted address reads as (R55). -/
def State.Inv (s : State) : Prop := Memory.wf s.dev.mem

/-! ## Frames -/

/-- Only the network side and the counters differ. -/
abbrev Device.OnlyNet (s t : Device) : Prop := t = { s with net := t.net, counters := t.counters }

/-- Only the network side, the counters and the error log differ; a record takes a time stamp. -/
abbrev Device.OnlyLog (s t : Device) : Prop :=
  t = { s with net := t.net, counters := t.counters, log := t.log, fresh := t.fresh }

/-- Every byte of memory reads as before. -/
abbrev Device.SameBytes (s t : Device) : Prop := ∀ a, memGet t.mem a = memGet s.mem a

/-- Every byte outside `[a, a + n)` reads as before. -/
abbrev Device.SameOutside (s t : Device) (a n : Nat) : Prop := ∀ b, ¬(a ≤ b ∧ b < a + n) → memGet t.mem b = memGet s.mem b

/-! ## What happened -/

/-- The token is posted (R382, R383): a step token stands at the job's step, a stream token counts one more. -/
abbrev Device.Posted (s t : Device) (tok : Nat) : Prop :=
  (tok < 0xF000 → t.tokenStep tok = s.job.step) ∧
  (0xF000 ≤ tok ∧ tok < 0xFFFF → Tab.get 0 t.streamTokens tok = Tab.get 0 s.streamTokens tok + 1)

/-- One new hold, of this code at this place (R491). -/
abbrev Device.NewHold (s t : Device) (code : Nat) (site : Site) : Prop :=
  ∃ h, t.log.holds = s.log.holds ++ [h] ∧ h.code = code ∧ h.site = site

/-- One new entry of the error log, of this code (R497); nothing new holds. -/
abbrev Device.NewEntry (s t : Device) (code : Nat) : Prop :=
  ∃ e, t.log.entries = s.log.entries ++ [e] ∧ e.code = code ∧ t.log.holds = s.log.holds

/-- The play of a quadrant stands after command `i`, at no wait; no other play has moved (R356). -/
abbrev Device.PlayAt (s t : Device) (d q p i : Nat) : Prop :=
  t.play d q p = { s.play d q p with pos := i + 1, waiting := none, draining := false, receiving := false } ∧
  (∀ d' q' p', 4 * d' + q' ≠ 4 * d + q ∨ p' ≠ p → t.play d' q' p' = s.play d' q' p')

/-- A message took the flow's next sequence number, and the flow keeps it to send or to send again (R414, R418). -/
abbrev Device.Sent (s t : Device) (k kind : Nat) (payload : List Byte) : Prop :=
  ∃ x ∈ (t.flow k).unacked ++ (t.flow k).waiting, x.kind = kind ∧ x.payload = payload ∧ x.seq = (s.flow k).txNext

/-! ## Received messages (R417) -/

/-- A message of type `kind` on flow `k` passes steps 1 to 3 of R417 on a module that is not off. -/
abbrev Device.Arrives (s : Device) (kind k : Nat) (m : Msg) : Prop :=
  s.off = false ∧ (s.port m.port).inUse = true ∧ m.intact = true ∧ m.version = 1 ∧ (m.hold = false ∨ kind = 0x3F) ∧
    m.payload.length ≤ 9114 ∧ typeClass kind ≠ 6 ∧
    (∃ peer, s.peerIndex m.port m.src = some peer ∧ k = flowKey (s.pairAt m) m.flow peer) ∧
    offsetUsed m.flow = true ∧ s.classOk m.port m.flow kind = true ∧
    (typeClass kind = 7 ∨ typeClass kind = flowClass m.flow ∧ typeOffset kind m.flow = true)

/-- A message that passes every step of R417 and is the one due on its flow, with nothing before it, so that it is delivered at
once; no warm reset runs. -/
abbrev Device.Due (s : Device) (kind k : Nat) (m : Msg) : Prop :=
  s.Arrives kind k m ∧ kind ≠ 0x3F ∧ (flowClass m.flow = 0 ∨ m.epoch.toNat = (if s.hasJob then s.job.epoch else 0)) ∧
    m.seq = (s.flow k).rxDue ∧ (s.flow k).buffer = [] ∧ m.payload.length ≤ (s.flow k).granted m.flow ∧
    (s.flow k).rxHeld = false ∧ s.boot.warmReset = false

/-- As `Due`, of a request to a processor that runs its image and not its recovery loader (R451). -/
abbrev Device.Answers (s : Device) (kind k : Nat) (m : Msg) : Prop := s.Due kind k m ∧ (s.mp (s.answerer k)).run ≠ 3

/-- Nothing waits behind a message: no request, no checkpoint, no restore, no removal. -/
abbrev Device.Quiet (s : Device) : Prop :=
  s.net.requests = [] ∧ s.liveOp 2 = none ∧ s.liveOp 3 = none ∧ s.panel.removing = false

/-- A READ_REPLY payload (R427). -/
def replyBytes (m : Msg) (code : Nat) (data : List Byte) : List Byte :=
  leBytes 6 (accessAddr m) ++ leBytes 2 (if code = 0 then 0 else Code.wire code) ++ leBytes 4 (accessLen m) ++ [0, 0, 0, 0] ++ data

/-! ## Vector instructions (R150 to R175) -/

/-- The invocation `v` runs on cluster `g`, its context does not hold, it has run fewer than 8,192 instructions, and the word it
stands at is `w` (R150, R160, R174). -/
abbrev Device.AtWord (s : Device) (g w : Nat) (v : Invocation) : Prop :=
  (s.cluster g).invocation = some v ∧ s.isHeld (.vector g v.ctx) = false ∧ v.executed < 8192 ∧
    s.progWord g v.ctx v.pc = w

/-- The next instruction of the invocation, after `n` vector cycles of which `m` are the special-function unit's: the
invocation is now `v`, and nothing but it and the two cycle counters of the cluster has changed (R159, R177). -/
abbrev State.Retired (s t : State) (g n m : Nat) (v : Invocation) : Prop :=
  t.pending = s.pending ∧
  t.dev = { s.dev with clusters := t.dev.clusters, counters := t.dev.counters } ∧
  t.dev.cluster g = { s.dev.cluster g with invocation := some v } ∧
  (∀ h, h ≠ g → t.dev.cluster h = s.dev.cluster h) ∧
  (∀ o, Tab.get 0 t.dev.counters o = Tab.get 0 s.dev.counters o +
    (if o = clusterBlock g + 0xC8 then BitVec.ofNat 64 n else 0) + (if o = clusterBlock g + 0xD0 then BitVec.ofNat 64 m else 0))

/-- As `Retired`, with further counters that rise: saturations, NaNs or waits, as offsets and amounts (R64, R177). -/
abbrev State.RetiredAnd (s t : State) (g n : Nat) (v : Invocation) (more : List (Nat × Nat)) : Prop :=
  t.pending = s.pending ∧
  t.dev = { s.dev with clusters := t.dev.clusters, counters := t.dev.counters } ∧
  t.dev.cluster g = { s.dev.cluster g with invocation := some v } ∧
  (∀ h, h ≠ g → t.dev.cluster h = s.dev.cluster h) ∧
  (∀ o, Tab.get 0 t.dev.counters o = Tab.get 0 s.dev.counters o +
    (if o = clusterBlock g + 0xC8 then BitVec.ofNat 64 n else 0) +
    BitVec.ofNat 64 ((more.filter (fun e => e.1 == o)).map (·.2)).sum)

/-- `v'` is `v` one instruction later, at word `pc`, with the same registers and predicates but for register `vd`, whose lane i
holds `val i` where the governing predicate is true and keeps its value, or takes +0, where it is false (R158). -/
abbrev Invocation.LanesSet (v v' : Invocation) (f : VFields) (val : Nat → Word) : Prop :=
  (∀ i, i < 64 → lane (v'.reg f.vd) i =
    if (v.pred f.pg.toNat).getLsbD i then val i else if f.zm then 0 else lane (v.reg f.vd) i) ∧
  (∀ r, r ≠ f.vd → v'.reg r = v.reg r) ∧
  v' = { v with pc := v.pc + 1, executed := v.executed + 1, regs := v'.regs }

/-- As `LanesSet`, for predicate `p` (R150, R158): p0 is never written. -/
abbrev Invocation.PredSet (v v' : Invocation) (p : Nat) (val : Nat → Bool) : Prop :=
  (∀ i, i < 64 → (v'.pred p).getLsbD i = if p % 8 = 0 then true else val i) ∧
  (∀ r, r % 8 ≠ p % 8 → v'.pred r = v.pred r) ∧
  v' = { v with pc := v.pc + 1, executed := v.executed + 1, preds := v'.preds }

/-- The runs of bytes an OUT of an invocation writes: for an epilogue row, a vector-pass row or a closing row (R154, R168). -/
def Device.outRuns (s : Device) (g : Nat) (f : VFields) (v : Invocation) : List (Nat × List Byte) :=
  let vs := if v.segOut < v.segs then v.outLanes f v.segOut else []
  (match v.kind, v.pass with
    | 0, some p => s.rowOut g (s.table (dOf g) p.table) p 3 v.r (64 * v.segOut) vs
    | 1, _ => s.vpassOut g (s.vpass (dOf g) (qOf g) v.index) v.rho (64 * v.segOut) vs
    | _, _ => s.closingOut g (elemAt (s.sec 0x13 (dOf g) 255 255) 128 v.index) v.rho (64 * v.segOut) vs).runs

end Sys2Proof.Machine
end

