-- ==== Sys2Proof/Certificates/Slice0/Obligations.lean ====
section
/-! DEFINITION. The statements for the provers. Every command of the table is in at least one statement whose conclusion is that
`exec` answers a next state with the command's own effect. -/

open Sys2Proof Sys2Proof.Machine

/-! ## The vector unit -/

/-- The lane-wise instructions of R159, R161 and R163: one register is written, one or two vector cycles are counted, and
everything else is as it was. -/
def Obligations.VectorLanes : Prop := ∀ (s : State) (g : Nat) (f : VFields) (v : Invocation),
  let a := lane (v.reg f.va)
  let b := lane (v.reg f.vb)
  let c := lane (v.reg f.vc)
  let Runs := fun (op : Nat) (i : Instr) (n m : Nat) (val : Nat → Word) =>
    s.dev.AtWord g (vword op f) v → ∃ t v', exec i s = .next t ∧ s.Retired t g n m v' ∧ v.LanesSet v' f val
  Runs 0x11 (.mov g f) 1 0 a ∧
  Runs 0x12 (.movi g f) 1 0 (fun _ => f.imm) ∧
  Runs 0x13 (.sel g f) 1 0 (fun i => if (v.pred f.vc.toNat).getLsbD i then a i else b i) ∧
  Runs 0x20 (.fadd g f) 1 0 (fun i => fAdd (a i) (b i)) ∧
  Runs 0x21 (.fsub g f) 1 0 (fun i => fSub (a i) (b i)) ∧
  Runs 0x22 (.fmul g f) 1 0 (fun i => fMul (a i) (b i)) ∧
  Runs 0x23 (.ffma g f) 1 0 (fun i => fFma (a i) (b i) (c i)) ∧
  Runs 0x24 (.fmin g f) 1 0 (fun i => fMin (a i) (b i)) ∧
  Runs 0x25 (.fmax g f) 1 0 (fun i => fMax (a i) (b i)) ∧
  Runs 0x26 (.faddi g f) 1 0 (fun i => fAdd (a i) f.imm) ∧
  Runs 0x27 (.fmuli g f) 1 0 (fun i => fMul (a i) f.imm) ∧
  Runs 0x28 (.fabs g f) 1 0 (fun i => if isNan32 (a i) then nan32 else a i &&& 0x7FFFFFFF) ∧
  Runs 0x29 (.fneg g f) 1 0 (fun i => if isNan32 (a i) then nan32 else a i ^^^ 0x80000000) ∧
  Runs 0x30 (.vExp g f) 2 2 (fun i => enc32 (sfuExp (dec32 (a i)))) ∧
  Runs 0x31 (.vLog g f) 2 2 (fun i => enc32 (sfuLog (dec32 (a i)))) ∧
  Runs 0x32 (.rcp g f) 2 2 (fun i => enc32 (sfuRcp (dec32 (a i)))) ∧
  Runs 0x33 (.rsq g f) 2 2 (fun i => enc32 (sfuRsq (dec32 (a i)))) ∧
  Runs 0x34 (.tanh g f) 2 2 (fun i => enc32 (sfuTanh (dec32 (a i)))) ∧
  Runs 0x35 (.erf g f) 2 2 (fun i => enc32 (sfuErf (dec32 (a i)))) ∧
  Runs 0x40 (.iadd g f) 1 0 (fun i => a i + b i) ∧
  Runs 0x41 (.isub g f) 1 0 (fun i => a i - b i) ∧
  Runs 0x42 (.imul g f) 1 0 (fun i => a i * b i) ∧
  Runs 0x43 (.iand g f) 1 0 (fun i => a i &&& b i) ∧
  Runs 0x44 (.ior g f) 1 0 (fun i => a i ||| b i) ∧
  Runs 0x45 (.ixor g f) 1 0 (fun i => a i ^^^ b i) ∧
  Runs 0x46 (.ishl g f) 1 0 (fun i => a i <<< (f.imm.toNat % 32)) ∧
  Runs 0x47 (.ishr g f) 1 0 (fun i => a i >>> (f.imm.toNat % 32)) ∧
  Runs 0x48 (.isra g f) 1 0 (fun i => (a i).sshiftRight (f.imm.toNat % 32)) ∧
  Runs 0x49 (.iaddi g f) 1 0 (fun i => a i + f.imm) ∧
  Runs 0x4B (.imin g f) 1 0 (fun i => if (a i).toInt ≤ (b i).toInt then a i else b i) ∧
  Runs 0x4C (.imax g f) 1 0 (fun i => if (b i).toInt ≤ (a i).toInt then a i else b i) ∧
  Runs 0x4E (.itof g f) 1 0 (fun i => enc32 (FVal.ofInt (a i).toInt 0))

/-- The reductions of R164 and R165: every active lane takes the tree's result over the active lanes, or the stated value when
there is none. The conversions of R161 and R166: the lane's value, and the saturation and NaN counters of the cluster, which
count active lanes only. -/
def Obligations.VectorReductions : Prop :=
  (∀ (s : State) (g : Nat) (f : VFields) (v : Invocation),
  let act := fun i => (v.pred f.pg.toNat).getLsbD i
  let leaves := (List.range 64).map (fun i => if act i then some (lane (v.reg f.va) i) else none)
  let Runs := fun (op : Nat) (i : Instr) (r : Word) =>
    s.dev.AtWord g (vword op f) v → ∃ t v', exec i s = .next t ∧ s.Retired t g 6 0 v' ∧ v.LanesSet v' f (fun _ => r)
  Runs 0x60 (.rsum g f) ((treeReduce fAdd leaves).getD 0) ∧
  Runs 0x61 (.rmax g f) ((treeReduce fMax leaves).getD 0xFF800000) ∧
  Runs 0x62 (.rmin g f) ((treeReduce fMin leaves).getD 0x7F800000) ∧
  (s.dev.AtWord g (vword 0x63 f) v → ∃ t v' r, exec (.rargmax g f) s = .next t ∧ s.Retired t g 6 0 v' ∧
    v.LanesSet v' f (fun _ => r) ∧
    ((∀ i, i < 64 → act i = false) → r = 0xFFFFFFFF) ∧
    (∀ i, i < 64 → act i = true → r.toNat < 64 ∧ act r.toNat = true ∧
      fCond 5 (lane (v.reg f.va) i) (lane (v.reg f.va) r.toNat) = false ∧
      (i < r.toNat → fCond 5 (lane (v.reg f.va) r.toNat) (lane (v.reg f.va) i) = true)))) ∧
  (∀ (s : State) (g : Nat) (f : VFields) (v : Invocation),
  let act := (List.range 64).filter (fun i => (v.pred f.pg.toNat).getLsbD i)
  let Runs := fun (op : Nat) (i : Instr) (h : Word → Word × Bool × Bool) =>
    s.dev.AtWord g (vword op f) v → ∃ t v', exec i s = .next t ∧
      v.LanesSet v' f (fun i => (h (lane (v.reg f.va) i)).1) ∧
      t.dev = { s.dev with clusters := t.dev.clusters, counters := t.dev.counters } ∧
      t.dev.cluster g = { s.dev.cluster g with invocation := some v' } ∧
      (∀ j, j ≠ g → t.dev.cluster j = s.dev.cluster j) ∧
      Tab.get 0 t.dev.counters (clusterBlock g + 0x70) = Tab.get 0 s.dev.counters (clusterBlock g + 0x70) +
        BitVec.ofNat 64 (act.countP (fun i => (h (lane (v.reg f.va) i)).2.1)) ∧
      Tab.get 0 t.dev.counters (clusterBlock g + 0x68) = Tab.get 0 s.dev.counters (clusterBlock g + 0x68) +
        BitVec.ofNat 64 (act.countP (fun i => (h (lane (v.reg f.va) i)).2.2)) ∧
      Tab.get 0 t.dev.counters (clusterBlock g + 0xC8) = Tab.get 0 s.dev.counters (clusterBlock g + 0xC8) + 1
  Runs 0x4F (.ftoi g f) fToI ∧ Runs 0x50 (.cvt g f) (cvtLane f) ∧ Runs 0x51 (.cvtf g f) (cvtfLane f))

/-- The comparisons of R162 and the predicate operations of R159; p0 keeps reading all ones (R150). -/
def Obligations.VectorPredicates : Prop := ∀ (s : State) (g : Nat) (f : VFields) (v : Invocation),
  let a := lane (v.reg f.va)
  let b := lane (v.reg f.vb)
  let act := fun i => (v.pred f.pg.toNat).getLsbD i
  let pa := fun i => (v.pred f.va.toNat).getLsbD i
  let pb := fun i => (v.pred f.vb.toNat).getLsbD i
  let p := f.vd.toNat % 8
  let under := fun (val : Nat → Bool) i => if act i then val i else if f.zm then false else (v.pred p).getLsbD i
  let Runs := fun (op : Nat) (i : Instr) (val : Nat → Bool) =>
    s.dev.AtWord g (vword op f) v → ∃ t v', exec i s = .next t ∧ s.Retired t g 1 0 v' ∧ v.PredSet v' p val
  Runs 0x2A (.fcmp g f) (under (fun i => fCond (f.imm.toNat % 8) (a i) (b i))) ∧
  Runs 0x4A (.icmp g f) (under (fun i => iCond (f.imm.toNat % 4) (a i) (b i))) ∧
  Runs 0x70 (.pand g f) (fun i => pa i && pb i) ∧
  Runs 0x71 (.por g f) (fun i => pa i || pb i) ∧
  Runs 0x72 (.pxor g f) (fun i => pa i ^^ pb i) ∧
  Runs 0x73 (.pnot g f) (fun i => !pa i) ∧
  Runs 0x74 (.pfirst g f) (fun i => decide (i < f.imm.toNat % 128)) ∧
  Runs 0x75 (.psys g f) (fun _ => s.dev.psysCond g v (f.imm.toNat % 4)) ∧
  (∀ w : Invocation, w.pred 0 = BitVec.allOnes 64)

/-- Control in a program (R159, R160): NOP, JMP, JANY and JNONE move the index and change nothing else of the invocation. -/
def Obligations.VectorControl : Prop := ∀ (s : State) (g : Nat) (f : VFields) (v : Invocation),
  let goes := fun (pc : Nat) => ({ v with pc := pc, executed := v.executed + 1 } : Invocation)
  let some' := ∃ i, i < 64 ∧ (v.pred f.pg.toNat).getLsbD i = true ∧ (v.pred f.va.toNat).getLsbD i = true
  let Runs := fun (op : Nat) (i : Instr) (c : Prop) (n : Nat) (pc : Nat) =>
    s.dev.AtWord g (vword op f) v → c → ∃ t, exec i s = .next t ∧ s.Retired t g n 0 (goes pc)
  Runs 0x00 (.vNop g f) True 1 (v.pc + 1) ∧
  Runs 0x02 (.jmp g f) True 2 (f.imm.toNat % 2048) ∧
  Runs 0x03 (.jany g f) some' 2 (f.imm.toNat % 2048) ∧
  Runs 0x03 (.jany g f) (¬some') 1 (v.pc + 1) ∧
  Runs 0x04 (.jnone g f) some' 1 (v.pc + 1) ∧
  Runs 0x04 (.jnone g f) (¬some') 2 (f.imm.toNat % 2048)

/-- IN, INC, SYS and LDR (R159, R167, R170): the row's next segment and its valid lanes, from the vector pass's input or the row in
hand; the same segment of the C row; the selected row quantity; a scratch word in every lane whatever the predicate. IN and INC
wait while their data is not present, and hold when its address has no memory. -/
def Obligations.VectorRowInput : Prop := ∀ (s : State) (g : Nat) (f : VFields) (v : Invocation),
  let act := fun i => (v.pred f.pg.toNat).getLsbD i
  let valid := fun (seg i : Nat) => decide (seg < v.segs ∧ 64 * seg + i < v.cols)
  let q := f.va.toNat % 8
  let d := s.dev.vpass (dOf g) (qOf g) v.index
  let k := min 64 (v.cols - 64 * v.segIn)
  let a := d.baseI + v.rho * d.pitch d.fmtI + 64 * v.segIn * outBytes d.fmtI
  let w := k * outBytes d.fmtI
  let reads := v.kind = 1 ∧ k ≠ 0
  let raw := if reads then s.dev.readRow d.fmtI a k else []
  let data := if v.kind = 1 then lanesOf d.fmtI v.expo raw else v.row.drop (64 * v.segIn)
  let n := min 64 (v.cols - 64 * v.segCur)
  let pos := v.n + 64 * v.segCur
  let Holds := fun (i : Instr) => ∃ t, exec i s = .next t ∧ s.dev.SameBytes t.dev ∧ t.dev.cluster g = s.dev.cluster g ∧
    t.dev.isHeld (.vector g v.ctx) = true
  (s.dev.AtWord g (vword 0x08 f) v →
    (reads → s.dev.readWaits a w = true ∨ s.dev.sound a w = false → exec (.vIn g f) s = .next s) ∧
    ((reads → s.dev.readWaits a w = false ∧ s.dev.sound a w = true) →
      (reads → s.dev.backed a w = false → Holds (.vIn g f)) ∧
      ((reads → s.dev.backed a w = true) → ∃ t v', exec (.vIn g f) s = .next t ∧
        s.RetiredAnd t g 1 v' [(clusterBlock g + 0x70, sat16 d.fmtI raw)] ∧
        (∀ i, i < 64 → lane (v'.reg f.vd) i =
          if act i then (if valid v.segIn i then nth 0 data i else 0) else if f.zm then 0 else lane (v.reg f.vd) i) ∧
        (∀ r, r ≠ f.vd → v'.reg r = v.reg r) ∧
        (∀ i, i < 64 → q ≠ 0 → (v'.pred q).getLsbD i =
          if act i then valid v.segIn i else if f.zm then false else (v.pred q).getLsbD i) ∧
        (∀ r, r % 8 ≠ q → v'.pred r = v.pred r) ∧
        v' = { v with pc := v.pc + 1, executed := v.executed + 1, regs := v'.regs, preds := v'.preds,
                      segIn := v.segIn + 1, segCur := v.segIn }))) ∧
  (s.dev.AtWord g (vword 0x09 f) v →
    (s.dev.cRow g v (64 * v.segCur) n = none → exec (.inc g f) s = .next s) ∧
    (∀ c, s.dev.cRow g v (64 * v.segCur) n = some c →
      (∀ b, c.addr = some b → n ≠ 0 → s.dev.readWaits b 1 = true ∨ s.dev.sound b (runBytes c.fmt n) = false →
        exec (.inc g f) s = .next s) ∧
      ((∀ b, c.addr = some b → n ≠ 0 → s.dev.readWaits b 1 = false ∧ s.dev.sound b (runBytes c.fmt n) = true) →
        (∀ b, c.addr = some b → n ≠ 0 → s.dev.backed b 1 = false → Holds (.inc g f)) ∧
        ((∀ b, c.addr = some b → n ≠ 0 → s.dev.backed b 1 = true) → ∃ t v', exec (.inc g f) s = .next t ∧
          s.RetiredAnd t g 1 v' [(clusterBlock g + 0x70, sat16 c.fmt c.vals)] ∧
          v.LanesSet v' f (fun i => if valid v.segCur i then nth 0 (lanesOfC c.fmt c.expo c.vals) i else 0))))) ∧
  (s.dev.AtWord g (vword 0x0E f) v → f.imm.toNat % 16 ≤ 5 → ∃ t v', exec (.sys g f) s = .next t ∧ s.Retired t g 1 0 v' ∧
    v.LanesSet v' f (fun i => BitVec.ofNat 32 (nth 0 [i, v.rho, pos + i, v.r, v.segCur, pos] (f.imm.toNat % 16)))) ∧
  (s.dev.AtWord g (vword 0x0F f) v → ∃ t v', exec (.ldr g f) s = .next t ∧ s.Retired t g 1 0 v' ∧
    (∀ i, i < 64 → lane (v'.reg f.vd) i = Tab.get 0 (s.dev.cluster g).scratch
      (s.dev.playIn g v.ctx * 4096 + 4 * (v.rho % 1024) + f.imm.toNat % 4)) ∧
    (∀ r, r ≠ f.vd → v'.reg r = v.reg r) ∧
    v' = { v with pc := v.pc + 1, executed := v.executed + 1, regs := v'.regs })

/-- ROWBASE, OUTR and STR (R169, R170): the base of row values; lane 0 stored at base + ρ × pitch + offset, and nowhere else,
when the lane is active and the address may be written; an address that may not is not written and the context holds; a scratch
word of the row's own entry. -/
def Obligations.VectorRowValues : Prop := ∀ (s : State) (g waited : Nat) (f : VFields) (v : Invocation),
  let i := f.imm.toNat
  let width := if i % 4 = 0 then 4 else 2
  let x := lane (v.reg f.va) 0
  let on := (v.pred f.pg.toNat).getLsbD 0
  let moved := ({ v with pc := v.pc + 1, executed := v.executed + 1 } : Invocation)
  let key := s.dev.playIn g v.ctx * 4096 + 4 * (v.rho % 1024) + i % 4
  (∀ base : BitVec 48, s.dev.AtWord g (0x0D * 2 ^ 56 + base.toNat) v →
    ∃ t, exec (.rowbase g base) s = .next t ∧ s.Retired t g 1 0 { moved with rowBase := some base.toNat }) ∧
  (s.dev.AtWord g (vword 0x0C f) v → on = false → ∃ t, exec (.outr g ⟨f, waited⟩) s = .next t ∧ s.Retired t g 1 0 moved) ∧
  (∀ base, s.dev.AtWord g (vword 0x0C f) v → on = true → v.rowBase = some base →
    let a := base + v.rho * (i / 2 ^ 10 % 256) + i / 4 % 256
    (s.dev.writeWaits a width = true → exec (.outr g ⟨f, waited⟩) s = .next s) ∧
    (s.dev.writeWaits a width = false →
      (s.dev.writable a width = true → ∃ t v', exec (.outr g ⟨f, waited⟩) s = .next t ∧
        s.dev.SameOutside t.dev a width ∧ t.dev.read a width = leBytes width x.toNat ∧
        t.dev = { s.dev with mem := t.dev.mem, damaged := t.dev.damaged, clusters := t.dev.clusters, counters := t.dev.counters } ∧
        t.dev.cluster g = { s.dev.cluster g with invocation := some v' } ∧ (∀ h, h ≠ g → t.dev.cluster h = s.dev.cluster h) ∧
        v' = { moved with nan := v.nan || (decide (width = 4) && isNan32 x), undo := (a, s.dev.read a width) :: v.undo }) ∧
      (s.dev.writable a width = false → ∃ t, exec (.outr g ⟨f, waited⟩) s = .next t ∧ s.dev.SameBytes t.dev ∧
        t.dev.cluster g = s.dev.cluster g ∧ t.dev.isHeld (.vector g v.ctx) = true))) ∧
  (s.dev.AtWord g (vword 0x10 f) v → ∃ t, exec (.str g f) s = .next t ∧
    t.dev = { s.dev with clusters := t.dev.clusters, counters := t.dev.counters } ∧
    t.dev.cluster g = { s.dev.cluster g with invocation := some moved, scratch := (t.dev.cluster g).scratch } ∧
    (∀ k, Tab.get 0 (t.dev.cluster g).scratch k =
      if on = true ∧ k = key then x else Tab.get 0 (s.dev.cluster g).scratch k) ∧
    (∀ h, h ≠ g → t.dev.cluster h = s.dev.cluster h))

/-- OUT (R113, R168, R177): when every address may be written, the segment's runs are written where they are computed to lie and
no other byte changes, or are kept while the row's tile is still being read out, or dropped when the tile is faulted; the
next segment is due and the waits are counted. When an address may not be written, nothing is, and the context holds. A
vector pass with FP32 or INT32 output writes each active valid lane's 32 bits unchanged, at the address of its row and
column (R154, R168). -/
def Obligations.VectorOut : Prop :=
  (∀ (s : State) (g waited : Nat) (f : VFields) (v : Invocation),
  let c := s.dev.cluster g
  let runs := s.dev.outRuns g f v
  let late := v.kind = 0 ∧ ∃ p x, v.pass = some p ∧ x ∈ c.readouts ∧ x.id = p.id
  let faulted := ∃ p x, v.pass = some p ∧ x ∈ c.draining ∧ x.id = p.id ∧ x.faulted = true
  s.dev.AtWord g (vword 0x0A f) v →
  ((∃ r ∈ runs, s.dev.writeWaits r.1 r.2.length = true) → exec (.vOut g ⟨f, waited⟩) s = .next s) ∧
  ((∀ r ∈ runs, s.dev.writeWaits r.1 r.2.length = false) →
    ((∀ r ∈ runs, s.dev.writable r.1 r.2.length = true) → ∃ t v', exec (.vOut g ⟨f, waited⟩) s = .next t ∧
      t.dev = { s.dev with mem := t.dev.mem, damaged := t.dev.damaged, clusters := t.dev.clusters, dies := t.dev.dies
                           counters := t.dev.counters } ∧
      t.dev.cluster g = { c with invocation := some v', outbuf := (t.dev.cluster g).outbuf } ∧
      (∀ h, h ≠ g → t.dev.cluster h = s.dev.cluster h) ∧
      v' = { v with pc := v.pc + 1, executed := v.executed + 1, segOut := v.segOut + 1, nan := v'.nan, undo := v'.undo } ∧
      Tab.get 0 t.dev.counters (clusterBlock g + 0xE8) =
        Tab.get 0 s.dev.counters (clusterBlock g + 0xE8) + BitVec.ofNat 64 waited ∧
      (¬late → ¬faulted → t.dev.mem = runs.foldl (fun m r => memWrite m r.1 r.2) s.dev.mem ∧
        (∀ b, (∀ r ∈ runs, ¬(r.1 ≤ b ∧ b < r.1 + r.2.length)) → memGet t.dev.mem b = memGet s.dev.mem b) ∧
        (t.dev.cluster g).outbuf = c.outbuf) ∧
      (∀ p, v.pass = some p → late → ¬faulted → t.dev.mem = s.dev.mem ∧
        (t.dev.cluster g).outbuf = c.outbuf ++ runs.map (fun r => (p.id, r))) ∧
      (faulted → t.dev.mem = s.dev.mem ∧ (t.dev.cluster g).outbuf = c.outbuf)) ∧
    ((∃ r ∈ runs, s.dev.writable r.1 r.2.length = false) → ∃ t, exec (.vOut g ⟨f, waited⟩) s = .next t ∧ s.dev.SameBytes t.dev ∧
      t.dev.cluster g = c ∧ t.dev.isHeld (.vector g v.ctx) = true))) ∧
  (∀ (s : State) (g waited : Nat) (f : VFields) (v : Invocation),
  let d := s.dev.vpass (dOf g) (qOf g) v.index
  let place := fun i => d.baseO + v.rho * d.pitch d.fmtO + (64 * v.segOut + i) * 4
  let out := fun i => decide (i < 64 ∧ v.segOut < v.segs ∧ 64 * v.segOut + i < v.cols) && (v.pred f.pg.toNat).getLsbD i
  s.dev.AtWord g (vword 0x0A f) v → v.kind = 1 → v.pass = none → d.fmtO = 0 ∨ d.fmtO = 0xD →
  (∀ i, out i = true → s.dev.writable (place i) 4 = true ∧ s.dev.writeWaits (place i) 4 = false) →
  ∃ t, exec (.vOut g ⟨f, waited⟩) s = .next t ∧
    (∀ i, out i = true → t.dev.read (place i) 4 = leBytes 4 (lane (v.reg f.va) i).toNat) ∧
    (∀ b, (∀ i, out i = true → ¬(place i ≤ b ∧ b < place i + 4)) → memGet t.dev.mem b = memGet s.dev.mem b))

/-- A free vector unit goes on with an invocation whose hold has ended, else starts the oldest epilogue row that is due, else a
closing row, else the next row of a vector pass, at its program's entry, with every register and predicate zero (R151, R153, R156,
R230); END ends the invocation, writes no memory and counts the row; one that has run 8,192 instructions without END stops and its
context holds until ABORT, while the unit is free for the other contexts (R174). -/
def Obligations.VectorInvocations : Prop := ∀ (s : State) (g : Nat),
  let c := s.dev.cluster g
  let free := c.invocation = none ∧ (s.dev.die (dOf g)).power ≠ 2
  let noStopped := c.stopped.find? (fun v => !s.dev.isHeld (.vector g v.ctx)) = none
  let due := fun (r : EpiRow) => !s.dev.isHeld (.vector g r.pass.ctx) &&
    (s.dev.rowItem g r.pass.ctx).all (fun i => i.id == r.pass.item)
  let Fresh := fun (v : Invocation) => v.executed = 0 ∧ v.segIn = 0 ∧ v.segOut = 0 ∧ (∀ x, v.reg x = Lanes.zero) ∧
    (∀ p, p % 8 ≠ 0 → v.pred p = 0)
  (∀ v, free → c.stopped.find? (fun v => !s.dev.isHeld (.vector g v.ctx)) = some v →
    ∃ t, exec (.vectorInvocationStart g) s = .next t ∧ t.dev.counters = s.dev.counters ∧ t.dev.mem = s.dev.mem ∧
      t.dev.cluster g = { c with invocation := some v, stopped := c.stopped.erase v }) ∧
  (∀ r, free → noStopped → c.epilogue.find? due = some r →
    ∃ t v, exec (.vectorInvocationStart g) s = .next t ∧ t.dev.mem = s.dev.mem ∧
      t.dev.cluster g = { c with epilogue := c.epilogue.erase r, invocation := some v } ∧ Fresh v ∧
      v.ctx = r.pass.ctx ∧ v.kind = 0 ∧ v.pc = (s.dev.table (dOf g) r.pass.table).entry ∧
      v.row = r.values ∧ v.r = r.r ∧ v.cols = r.pass.cols ∧ v.n = r.pass.n) ∧
  (∀ k w row, free → noStopped → c.epilogue.find? due = none →
    c.rotation.findSome? (fun k => (s.dev.nextClosing g k).map (fun e => (k, e))) = some (k, w, row) →
    ∃ t v, exec (.vectorInvocationStart g) s = .next t ∧ t.dev.mem = s.dev.mem ∧ (t.dev.cluster g).invocation = some v ∧
      Fresh v ∧ v.ctx = k ∧ v.kind = 2 ∧ v.pc = (s.dev.walkRec (dOf g) w.num).closing ∧ v.rho = row ∧
      v.cols = (s.dev.geometry (dOf g)).width) ∧
  (∀ k r, free → noStopped → c.epilogue.find? due = none →
    c.rotation.findSome? (fun k => (s.dev.nextClosing g k).map (fun e => (k, e))) = none →
    c.rotation.findSome? (fun k => (s.dev.nextRow g k).map (fun e => (k, e))) = some (k, r) → r.field = false →
    let d := s.dev.vpass (dOf g) (qOf g) r.index
    ∃ t v, exec (.vectorInvocationStart g) s = .next t ∧ t.dev.mem = s.dev.mem ∧ (t.dev.cluster g).invocation = some v ∧
      Fresh v ∧ v.ctx = k ∧ v.kind = 1 ∧ v.pc = d.entry ∧ v.rho = r.next ∧ v.cols = d.len ∧ v.expo = r.expo) ∧
  (∀ f v, s.dev.AtWord g (vword 0x01 f) v → ∃ t, exec (.vEnd g f) s = .next t ∧ s.dev.SameBytes t.dev ∧
    (t.dev.cluster g).invocation = none ∧ (∀ h, h ≠ g → (t.dev.cluster h).invocation = (s.dev.cluster h).invocation) ∧
    Tab.get 0 t.dev.counters (clusterBlock g + 0xD8) = Tab.get 0 s.dev.counters (clusterBlock g + 0xD8) + 1) ∧
  (∀ v, c.invocation = some v → 8192 ≤ v.executed → s.dev.isHeld (.vector g v.ctx) = false →
    ∃ t h, exec (.vecRunaway g) s = .next t ∧ t.dev.log.holds = s.dev.log.holds ++ [h] ∧
      h.code = Code.vecRunaway ∧ h.site = .vector g v.ctx ∧ t.dev.clusters = s.dev.clusters ∧ t.dev.mem = s.dev.mem ∧
      (∃ u, exec (.vectorInvocationStart g) t = .next u ∧ v ∈ (u.dev.cluster g).stopped ∧
        (u.dev.cluster g).invocation ≠ some v) ∧
      (s.dev.log.entries.length < 4096 → s.dev.log.retried = [] → ∃ e, t.dev.log.entries = s.dev.log.entries ++ [e] ∧
        e.code = Code.vecRunaway ∧ e.severity = 1 ∧ e.values = leBytes 4 v.rho ++ leBytes 2 v.pc ∧
        e.dataPath = BitVec.ofNat 32 (dpCluster g 1 v.ctx 0xFF)) ∧
      (∀ d, Code.offers h.code h.tag false d = decide (d = 1)))

/-! ## The array (R90 to R118, R134 to R139) -/

/-- An issue cycle of the pass at a half's issue port (R92, R93, R95, R98, R100, R101, R108): with no hold, no shape change, no
readout of its slot on the first cycle, and the weights of its reduction indices there, it adds the products of those
indices to exactly the active cells of the slot, each by R69, from +0 on the first cycle of an initialising pass; the cycle
and the waits are counted, used weights leave a streamed block, and after the last cycle the pass drains and its readout is
due. The effect of the products of a cycle on one accumulator (R69, R71): a NaN stays, an INT8 sum wraps modulo 2^32, and
any other sum is the exact sum rounded once. -/
def Obligations.ArrayIssue : Prop :=
  (∀ (s : State) (g half ww iw sw : Nat) (p : Pass) (b : WBlock),
  let c := s.dev.cluster g
  let ks := cycleIndices p.fmtA p.len p.issued
  let products := fun (i j : Nat) => (List.range ks.length).flatMap (fun n => pairProducts p.fmtA p.fmtB (p.issued % 3)
    (s.dev.bankElem g p i (nth 0 ks n)) (nth ⟨0, 0⟩ (nth [] b.slices (nth 0 ks n)) j))
  let cell := fun (i j : Nat) => accAddr g p.slot (cellIndex p.shape i j)
  let old := fun (i j : Nat) => if p.init = true ∧ p.issued = 0 then 0 else BitVec.ofNat 32 (s.dev.readNat (cell i j) 4)
  let new := fun (i j : Nat) => (products i j).foldl (accAdd (decide (fmtGroup p.fmtA = 5))) ⟨old i j, 0, false, 0⟩
  let cells := (List.range p.rows).flatMap (fun i => (List.range p.cols).map (fun j => (cell i j, (new i j).acc)))
  let mine := fun (x : WBlock) => x.ctx == p.ctx && x.item == p.item && x.point == p.point
  let Counts := fun (t : State) (o n : Nat) => Tab.get 0 t.dev.counters (clusterBlock g + o) =
    Tab.get 0 s.dev.counters (clusterBlock g + o) + BitVec.ofNat 64 n
  firstOfHalf c.issuing half = some p → s.dev.arrayHeld g p.half = false → p.faulted = false → c.target = none →
  (s.dev.die (dOf g)).power ≠ 2 → (p.issued = 0 → ∀ r ∈ c.readouts, r.slot ≠ p.slot) →
  (p.len ≠ 0 → c.blockOf p = some b ∧ ∀ t ∈ ks, t < b.slices.length) →
  ∃ t p', exec (.arrayIssueCycle g half ww ⟨iw, sw⟩) s = .next t ∧ t.pending = s.pending ∧
    t.dev = { s.dev with mem := t.dev.mem, damaged := t.dev.damaged, clusters := t.dev.clusters, counters := t.dev.counters
                         log := t.dev.log, fresh := t.dev.fresh } ∧ t.dev.log.holds = s.dev.log.holds ∧
    p' = { p with issued := p.issued + 1, nan := p'.nan, overflowed := p'.overflowed } ∧
    t.dev.mem = cells.foldl (fun m e => memWrite m e.1 (leBytes 4 e.2.toNat)) s.dev.mem ∧
    (∀ a, (∀ i j, i < p.rows → j < p.cols → ¬(cell i j ≤ a ∧ a < cell i j + 4)) → memGet t.dev.mem a = memGet s.dev.mem a) ∧
    Counts t 0x40 (if p.len = 0 then 0 else 1) ∧ Counts t 0x48 ww ∧ Counts t 0x50 iw ∧ Counts t 0x58 sw ∧
    (∀ h, h ≠ g → t.dev.cluster h = s.dev.cluster h) ∧
    t.dev.cluster g = { c with issuing := (t.dev.cluster g).issuing, draining := (t.dev.cluster g).draining
                               readouts := (t.dev.cluster g).readouts, queue := (t.dev.cluster g).queue
                               held := (t.dev.cluster g).held } ∧
    (p.issued + 1 < issueCycles p.fmtA p.len →
      (t.dev.cluster g).issuing = putPass c.issuing p' ∧ (t.dev.cluster g).draining = c.draining ∧
      (t.dev.cluster g).readouts = c.readouts ∧ (t.dev.cluster g).held = c.held ∧
      (t.dev.cluster g).queue = if p.source = 0 then c.queue.map (fun x => if mine x then
        { x with used := weightBytes x.feed.fmt p'.indicesUsed x.feed.cols } else x) else c.queue) ∧
    (issueCycles p.fmtA p.len ≤ p.issued + 1 →
      (t.dev.cluster g).issuing = dropPass c.issuing p.id ∧ (t.dev.cluster g).draining = c.draining ++ [p'] ∧
      (t.dev.cluster g).readouts = (if p.readout = 0 then c.readouts else c.readouts ++ [p']) ∧
      (t.dev.cluster g).queue = (if p.source = 2 then c.queue else c.queue.filter (fun x => !mine x)) ∧
      (∀ h, Tab.get none (t.dev.cluster g).held h =
        if p.source = 1 ∧ h = p.half then c.queue.find? mine else Tab.get none c.held h))) ∧
  (∀ (x : AccStep) (p : FVal),
  ((accAdd true x p).acc = BitVec.ofInt 32 (x.acc.toInt + (match p with | .fin s m _ => signed s m | _ => 0))) ∧
  (isNan32 x.acc = true → accAdd false x p = x) ∧
  (isNan32 x.acc = false → (accAdd false x p).acc = enc32 ((dec32 x.acc).add p)))

/-- A pass completes (R98): it leaves the array, or with an epilogue waits for its rows, and no byte of memory changes. A row of
a readout goes to the epilogue queue while it has room (R109, R153), to the softmax pipe (R229), or is kept; the last row
writes the tile, a gradient tile of a walk or what the epilogue's rows have stored, and nothing else, when every address may
be written, and nothing of a faulted tile (R110, R113). Changing shape (R111): with nothing in flight and no half held, the
array begins reconfiguring for a head item of another shape, its weight queue is dropped and the change is counted; when the
reconfiguration ends it has that shape, and nothing else changes. With a pass in flight it does not begin. -/
def Obligations.ArrayReadout : Prop :=
  (∀ (s : State) (g half waited : Nat) (p : Pass),
  let c := s.dev.cluster g
  let p1 := { p with row := p.row + 1 }
  let units := if p.shape = 1 then 4 else 1
  let vals := (List.range p.cols).map (fun j => s.dev.accVal g p p.row j)
  let tile := if p.walk = true then s.dev.gradRows g p else (List.range p.rows).flatMap (fun r =>
    (s.dev.rowOut g (s.dev.table (dOf g) p.table) p p.readout r 0
      ((List.range p.cols).map (fun j => some (s.dev.accVal g p r j)))).runs)
  let runs := if p.readout = 5 ∨ p.faulted = true then [] else
    if p.readout = 3 then (c.outbuf.filter (fun e => e.1 == p.id)).map (·.2) else tile
  let last := p.rows ≤ p.row + 1
  let mayWrite := last → ∀ r ∈ runs, s.dev.writeWaits r.1 r.2.length = false ∧ s.dev.writable r.1 r.2.length = true
  let Row := fun (t : State) => exec (.readoutRow g half waited) s = .next t ∧
    (¬last → s.dev.SameBytes t.dev ∧ (t.dev.cluster g).readouts = putPass c.readouts p1) ∧
    (last → t.dev.mem = runs.foldl (fun m r => memWrite m r.1 r.2) s.dev.mem ∧
      (∀ b, (∀ r ∈ runs, ¬(r.1 ≤ b ∧ b < r.1 + r.2.length)) → memGet t.dev.mem b = memGet s.dev.mem b) ∧
      (t.dev.cluster g).readouts = dropPass c.readouts p.id)
  (c.draining.find? (fun p => p.half == half && !p.drained) = some p →
    ∃ t, exec (.passComplete g half) s = .next t ∧ s.dev.SameBytes t.dev ∧ (t.dev.cluster g).issuing = c.issuing ∧
      (t.dev.cluster g).readouts = c.readouts ∧ (t.dev.cluster g).epilogue = c.epilogue ∧
      (p.readout ≠ 3 → (t.dev.cluster g).draining = dropPass c.draining p.id) ∧
      (p.readout = 3 → p.row ≠ p.rows ∨ c.rowsOpen p.id = true →
        (t.dev.cluster g).draining = putPass c.draining { p with drained := true }) ∧
      (p.len = 0 → Tab.get 0 t.dev.counters (clusterBlock g + 0x80) = Tab.get 0 s.dev.counters (clusterBlock g + 0x80) + 1)) ∧
  (firstOfHalf c.readouts half = some p → p.readout = 3 → c.queueUnits p.ctx + units ≤ 64 → mayWrite → ∃ t, Row t ∧
    (t.dev.cluster g).pipe = c.pipe ∧
    (t.dev.cluster g).epilogue = if p.faulted = true then c.epilogue else c.epilogue ++ [⟨p, p.row, vals⟩]) ∧
  (firstOfHalf c.readouts half = some p → p.readout = 3 → 64 < c.queueUnits p.ctx + units →
    exec (.readoutRow g half waited) s = .next s) ∧
  (firstOfHalf c.readouts half = some p → p.readout = 5 → ∃ t, Row t ∧ (t.dev.cluster g).epilogue = c.epilogue ∧
    (t.dev.cluster g).pipe = if p.faulted = true then c.pipe else
      c.pipe ++ [⟨p.item, p.group, p.stage, p.part, p.row, vals⟩]) ∧
  (firstOfHalf c.readouts half = some p → p.readout ≠ 3 → p.readout ≠ 5 → mayWrite → ∃ t, Row t ∧
    (t.dev.cluster g).epilogue = c.epilogue ∧ (t.dev.cluster g).pipe = c.pipe) ∧
  (firstOfHalf c.readouts half = some p → p.readout ≠ 3 → last → (∀ r ∈ runs, s.dev.writeWaits r.1 r.2.length = false) →
    (∃ r ∈ runs, s.dev.writable r.1 r.2.length = false) → s.dev.isHeld (.context g p.ctx) = false →
    ∃ t, exec (.readoutRow g half waited) s = .next t ∧ s.dev.SameBytes t.dev ∧ t.dev.cluster g = c ∧
      t.dev.isHeld (.context g p.ctx) = true)) ∧
  (∀ (s : State) (g : Nat),
  let c := s.dev.cluster g
  (∀ sh, ((List.range 4).filterMap (s.dev.headShape g)).find? (fun x => x != c.shape) = some sh →
    c.inFlight = [] → c.target = none → s.dev.isHeld (.array g 0) = false → s.dev.isHeld (.array g 1) = false →
    ∃ t, exec (.shapeChange g) s = .next t ∧ (t.dev.cluster g).target = some sh ∧ (t.dev.cluster g).shape = c.shape ∧
      (t.dev.cluster g).queue = [] ∧ (t.dev.cluster g).held = [] ∧ (t.dev.cluster g).slotTags = c.slotTags ∧
      t.dev = { s.dev with clusters := t.dev.clusters, counters := t.dev.counters } ∧
      Tab.get 0 t.dev.counters (clusterBlock g + 0x60) = Tab.get 0 s.dev.counters (clusterBlock g + 0x60) + 1 ∧
      (∀ h, h ≠ g → t.dev.cluster h = s.dev.cluster h)) ∧
  (c.inFlight ≠ [] → exec (.shapeChange g) s = .next s) ∧
  (∀ sh, c.target = some sh → ∃ t, exec (.shapeReconfigDone g) s = .next t ∧ t.pending = s.pending ∧
    t.dev = { s.dev with clusters := t.dev.clusters } ∧ t.dev.cluster g = { c with shape := sh, target := none } ∧
    (∀ h, h ≠ g → t.dev.cluster h = s.dev.cluster h)))

/-- The fill port delivers into the queue what has arrived of the next tile of a table or walk whose weights lie in the
cluster's own store, when the tile has room (R107, R108, R229): the block's bytes rise by what came, up to the tile's bytes;
its new slices are the tile's elements, all of them once it is whole; other blocks stay and memory is only read. The address
generator loads the first coming pass's A tile that no frame holds into a free frame (R136): the frame's rows are written,
nothing else is, and the directory lists the frame. The attention loader loads the frame of a walk's next pass in the same
way, once the rows it multiplies have been copied (R206, R229). -/
def Obligations.OperandLoads : Prop :=
  (∀ (s : State) (g k n : Nat) (f : Fetch),
  let c := s.dev.cluster g
  let mine := fun (b : WBlock) => b.ctx == k && b.item == f.item && b.point == f.point
  let old := (c.queue.find? mine).getD ⟨k, f.item, f.point, f.half, f.feed, 0, 0, []⟩
  s.dev.nextFetch g k = some f → s.dev.feedsLocal g k f.item = true → n ≤ 512 →
  s.dev.isHeld (.context g k) = false → s.dev.clusterStopped g = false → c.shapeOpen f.shape = true →
  old.bytes < f.feed.size → f.feed.size - old.bytes ≤ c.queueFree f.half f.shape →
  (∀ i, i < f.feed.cols → s.dev.readWaits (f.feed.addr + f.feed.pitch * i) 1 = false ∧
    s.dev.sound (f.feed.addr + f.feed.pitch * i) (runBytes f.feed.fmt f.feed.len) = true ∧
    s.dev.backed (f.feed.addr + f.feed.pitch * i) (runBytes f.feed.fmt f.feed.len) = true) →
  ∃ t b, exec (.weightQueueFill g k n) s = .next t ∧ t.dev = { s.dev with clusters := t.dev.clusters } ∧
    b ∈ (t.dev.cluster g).queue ∧ mine b = true ∧ b.bytes = min f.feed.size (old.bytes + n) ∧ b.used = old.used ∧
    (∀ i, i < b.slices.length → nth [] b.slices i =
      if i < old.slices.length then nth [] old.slices i else s.dev.feedSlice f.feed i) ∧
    (f.feed.size ≤ old.bytes + n → f.feed.len ≤ b.slices.length) ∧
    (∀ x ∈ c.queue, mine x = false → x ∈ (t.dev.cluster g).queue) ∧
    (t.dev.cluster g).held = c.held ∧ (t.dev.cluster g).issuing = c.issuing ∧
    (∀ h, h ≠ g → t.dev.cluster h = s.dev.cluster h)) ∧
  (∀ (s : State) (g k off : Nat),
  let c := s.dev.cluster g
  let Loaded := fun (t : State) (base pitch n : Nat) (bytes : Nat → List Byte) =>
    t.dev.mem = (List.range n).foldl (fun m i => memWrite m (base + i * pitch) (bytes i)) s.dev.mem ∧
    (∀ b, (∀ i, i < n → ¬(base + i * pitch ≤ b ∧ b < base + i * pitch + (bytes i).length)) →
      memGet t.dev.mem b = memGet s.dev.mem b) ∧ (∀ h, h ≠ g → t.dev.cluster h = s.dev.cluster h)
  let base := clusterWindow g + 0x300000 + off
  s.dev.isHeld (.context g k) = false → s.dev.clusterStopped g = false →
  (∀ r p pp seen, let tab := s.dev.table (dOf g) r.num
    let w := s.dev.window (dOf g) r.num
    let rows := (List.range pp.rows).map (fun i => s.dev.rowElems g tab w pp i)
    s.dev.headItem g k = some (.table r) →
    s.dev.frameAhead g r tab w (4 * tab.frames.2.2 + 1024) r.pos [] = some (p, pp, seen) →
    c.freeFrame tab.frames.1 tab.frames.2.1 tab.frames.2.2 seen = some off →
    (∀ l ∈ rows, ∀ e ∈ l, ∀ a, e.2 = some a → s.dev.backed a 1 = true ∧ s.dev.readWaits a 1 = false ∧ s.dev.sound a 1 = true) →
    ∃ t, exec (.frameLoad g k) s = .next t ∧
      Loaded t base (framePitch tab.fmtA tab.red) pp.rows (fun i => frameRow tab.fmtA tab.red ((nth [] rows i).map (·.1))) ∧
      ⟨off, tab.frames.2.1, frameKey tab w r.item g p pp, pp.rows, pp.len, true⟩ ∈ (t.dev.cluster g).frames) ∧
  (∀ r n x, let y := s.dev.geometry (dOf g)
    let rows := s.dev.rowEdge g (s.dev.walkRec (dOf g) r.num) y x n.pass
    let size := n.pass.rows * n.pass.pitch
    s.dev.headItem g k = some (.walk r) → s.dev.walkNext g k r = some n →
    r.groups.find? (fun x => x.id == n.pass.group) = some x → s.dev.walkPrepared g r n = true →
    c.frameOf n.key n.pass.rows n.pass.len = none → c.freeFrame 0 size (131072 / max 1 size) [] = some off →
    (∀ l ∈ rows, ∀ e ∈ l, ∀ a, e.2 = some a → s.dev.backed a 1 = true ∧ s.dev.readWaits a 1 = false ∧ s.dev.sound a 1 = true) →
    ∃ t, exec (.frameLoad g k) s = .next t ∧
      Loaded t base n.pass.pitch rows.length (fun i =>
        frameRow n.pass.fmtA n.pass.len ((nth [] rows i).map (fun e => ⟨e.1, 0⟩))) ∧
      ⟨off, size, n.key, n.pass.rows, n.pass.len, true⟩ ∈ (t.dev.cluster g).frames))

/-- The multicast engine delivers one B block to every member of a team that needs it next, once all of them stand at it and have
space (R137): each member's queue holds the whole block, read once, and each counts its wait. While one of them does not stand at
it, nobody gets it. With no B block due it delivers one C tile to the side buffer of every member due at its point. Memory is only
read. -/
def Obligations.MulticastDelivery : Prop := ∀ (s : State) (d q k : Nat) (waits : List (Nat × Nat)) (i : Issue),
  let recv := nextCast (i.members.filterMap (fun c => s.dev.memberNeed (gOf d q c) k i.id))
  let waited := fun (g : Nat) => ((waits.find? (fun w => w.1 == cOf g)).map (·.2)).getD 0
  let Counts := fun (t : State) (g : Nat) => Tab.get 0 t.dev.counters (clusterBlock g + 0xC0) =
    Tab.get 0 s.dev.counters (clusterBlock g + 0xC0) + BitVec.ofNat 64 (waited g)
  let run := fun (g : Nat) => findTable ((s.dev.ctx g k).items ++ (s.dev.ctx g k).other) i.id
  let tab := s.dev.table d i.index
  let due := i.members.filterMap (fun c =>
    (run (gOf d q c)).bind (fun t => (t.nextC tab 4096 t.cNext).map (fun e => (gOf d q c, e.1, e.2))))
  let tile := fun (g : Nat) (r : TableRun) (p : Nat) (pp : PointPass) (row : Nat) =>
    s.dev.cElems g (s.dev.makePass g k r tab p pp 0) row 0 pp.cols
  s.dev.isHeld (.multicast d q k) = false → i.members.Nodup → (∀ c ∈ i.members, c < 36) → q < 4 →
  (s.dev.castIssues d q k = [i] → recv ≠ [] →
    ((∀ e ∈ recv, e.here = true ∧ s.dev.isHeld (.context e.g k) = false ∧ s.dev.clusterStopped e.g = false ∧
        (s.dev.cluster e.g).shapeOpen e.fetch.shape = true ∧ e.fetch.feed = (recv.headD e).fetch.feed ∧ 0 < e.fetch.feed.size ∧
        e.fetch.feed.size ≤ (s.dev.cluster e.g).queueFree e.fetch.half e.fetch.shape ∧
        (∀ b ∈ (s.dev.cluster e.g).queue, b.of k e.fetch = true → b.bytes = 0 ∧ b.slices = []) ∧
        ∀ c, c < e.fetch.feed.cols → s.dev.readWaits (e.fetch.feed.addr + e.fetch.feed.pitch * c) 1 = false ∧
          s.dev.sound (e.fetch.feed.addr + e.fetch.feed.pitch * c) (runBytes e.fetch.feed.fmt e.fetch.feed.len) = true ∧
          s.dev.backed (e.fetch.feed.addr + e.fetch.feed.pitch * c) (runBytes e.fetch.feed.fmt e.fetch.feed.len) = true) →
      ∃ t, exec (.multicastDelivery d q k waits) s = .next t ∧ t.dev.mem = s.dev.mem ∧
        (∀ e ∈ recv, Counts t e.g ∧ ∃ b ∈ (t.dev.cluster e.g).queue, b.of k e.fetch = true ∧ b.bytes = e.fetch.feed.size ∧
          b.slices = (List.range e.fetch.feed.len).map (s.dev.feedSlice e.fetch.feed)) ∧
        (∀ g, (∀ e ∈ recv, e.g ≠ g) → t.dev.cluster g = s.dev.cluster g)) ∧
    ((∃ e ∈ recv, e.here = false) → (s.dev.quad d q).issues.all (fun i => i.kind == 2 || i.ctx != k || i.kind != 1 ||
        !((s.dev.table d i.index).cPresent && (s.dev.table d i.index).reuseC == 1)) = true →
      exec (.multicastDelivery d q k waits) s = .next s)) ∧
  (∀ p, s.dev.castIssues d q k = [] → (s.dev.quad d q).issues.filter (fun i => i.ctx == k && i.kind == 1 &&
      (let t := s.dev.table d i.index; t.cPresent && t.reuseC == 1)) = [i] →
    (∃ e ∈ due, e.2.1 = p) → (∀ e ∈ due, p ≤ e.2.1) →
    (∀ g pp r, (g, p, pp) ∈ due → run g = some r → s.dev.clusterStopped g = false ∧
      ((s.dev.cluster g).sides.filter (fun x => x.ctx == k)).length < sideRoom ∧
      ∀ row, row < pp.rows → let a := (tile g r p pp row).2
        s.dev.readWaits a 1 = false ∧ s.dev.backed a 1 = true ∧ s.dev.sound a (runBytes tab.fmtO pp.cols) = true) →
    ∃ t, exec (.multicastDelivery d q k waits) s = .next t ∧ t.dev.mem = s.dev.mem ∧
      (∀ g pp r, (g, p, pp) ∈ due → run g = some r → Counts t g ∧ (t.dev.cluster g).sides = (s.dev.cluster g).sides ++
        [⟨k, i.id, p, (List.range pp.rows).map (fun row => (tile g r p pp row).1)⟩]) ∧
      (∀ g, (∀ e ∈ due, e.2.1 = p → e.1 ≠ g) → t.dev.cluster g = s.dev.cluster g))

/-! ## The dispatcher (R117, R362, R387 to R394) -/

/-- With no context in a new hold, no priority request and enough energy, the first ready context in order starts its head
(R391, R393): its stripe's pool falls by the charge, the context is not held for energy, and the pass of a table or a walk is at the
array, or the rows of a vector group or a crop are granted, or those of a regrouping copied. With too little energy nothing starts
and the context is held for energy. -/
def Obligations.ItemStart : Prop := ∀ (s : State) (g k : Nat) (vector : Bool) (rest : List Nat) (h : Head),
  let x := s.dev.stripe (stripeOf g)
  let rows := fun (r : RowRun) => min 256 (s.dev.itemRows (dOf g) (qOf g) r - r.granted)
  let desc := fun (r : RowRun) => s.dev.fieldDesc (dOf g) (qOf g) r.index
  k < 4 → (∀ j, j < 4 → s.dev.noteHead g j = s.dev) → (∀ j, j < 4 → (s.dev.ctx g j).priority = false) → x.priorities = [] →
  s.dev.headReady g k vector = some h →
  (s.dev.charge g h = 0 ∨ (s.dev.charge g h : Int) ≤ x.pool → ∃ t, exec (.itemStart g vector (k :: rest)) s = .next t ∧
    (t.dev.stripe (stripeOf g)).pool = x.pool - s.dev.charge g h ∧ (t.dev.ctx g k).energyHeld = false ∧
    (∀ u, u ≠ stripeOf g → t.dev.stripe u = s.dev.stripe u) ∧
    (∀ r tab pp, h = .pass r tab pp → t.dev.mem = s.dev.mem ∧ ∃ p ∈ (t.dev.cluster g).issuing,
      p.ctx = k ∧ p.item = r.item ∧ p.table = r.num ∧ p.point = r.pos ∧ p.slot = pp.slot ∧ p.len = pp.len ∧ p.rows = pp.rows ∧
      p.cols = pp.cols ∧ p.init = pp.init ∧ p.shape = tab.shape ∧ p.issued = 0) ∧
    (∀ r n, h = .walk r n → t.dev.mem = s.dev.mem ∧ ∃ p ∈ (t.dev.cluster g).issuing,
      p = { n.pass with id := (s.dev.cluster g).nextPass, frame := p.frame, source := p.source }) ∧
    (∀ r, h = .rows r → r.field = false ∨ (desc r).kind = 2 → .rows r ∈ (s.dev.ctx g k).items → t.dev.mem = s.dev.mem ∧
      ∃ w, .rows w ∈ (t.dev.ctx g k).items ∧ w.item = r.item ∧ w.granted = r.granted + rows r ∧ w.next = r.next ∧
        (r.field = false → w.expo = s.dev.vpassExpo (dOf g) (s.dev.vpass (dOf g) (qOf g) r.index))) ∧
    (∀ r, h = .rows r → r.field = true → (desc r).kind ≠ 2 → s.dev.backed (desc r).baseI 1 = true →
      s.dev.writable (desc r).baseO 1 = true →
      (∀ i j, i < rows r → j < (desc r).rowLen → s.dev.sound ((desc r).baseI + ((desc r).pairAt (r.next + i) j).1) (desc r).eb = true) →
      t.dev.mem = ((List.range (rows r)).foldl (fun m i => m.regroupRow (desc r) (r.next + i)) s.dev).mem)) ∧
  (x.pool < (s.dev.charge g h : Int) → 0 < s.dev.charge g h → (s.dev.charge g h : Int) ≤ s.dev.poolCap (stripeOf g) →
    (∀ j, j < 4 → j ≠ k → s.dev.headReady g j vector = none) →
    ∃ t, exec (.itemStart g vector (k :: rest)) s = .next t ∧ (t.dev.ctx g k).energyHeld = true ∧
      t.dev.stripes = s.dev.stripes ∧ s.dev.SameBytes t.dev ∧ (t.dev.cluster g).issuing = (s.dev.cluster g).issuing)

/-- A ready item held for energy becomes the stripe's youngest priority request (R392); one at its limit is recorded as starved
and stays held (R394). A format hold ends when the profile takes the format of the pass its context stands at, be it a
table's or a walk's: only that hold goes, its record is marked decided, and nothing else of the module changes; while the
profile does not, it stands (R117). A context rotates when both plays have items and the resident one stands at a boundary:
the other is resident, the held and queued weights of the context go, those of others stay, and the rotation is counted
(R138, R362). -/
def Obligations.ContextHolds : Prop :=
  (∀ (s : State) (g k : Nat) (vector : Bool) (h : Head),
  let c := s.dev.ctx g k
  s.dev.headReady g k vector = some h → c.energyHeld = true →
  (c.priority = false → ∃ t, exec (.priorityRequest g k vector) s = .next t ∧
    (t.dev.stripe (stripeOf g)).priorities = (s.dev.stripe (stripeOf g)).priorities ++ [requestKey g k] ∧
    (t.dev.stripe (stripeOf g)).pool = (s.dev.stripe (stripeOf g)).pool ∧
    t.dev.ctx g k = { c with priority := true } ∧
    (t.dev.die (dOf g)).requests = (s.dev.die (dOf g)).requests ++ [requestKey g k] ∧ t.dev.mem = s.dev.mem) ∧
  (c.starved = false → s.dev.log.entries.length < 4096 → ∃ t e, exec (.pwrCreditStarved g k vector) s = .next t ∧
    t.dev.log.entries = s.dev.log.entries ++ [e] ∧ e.code = Code.pwrCreditStarved ∧
    e.dataPath = BitVec.ofNat 32 (dpCluster g 4 k 0xFF) ∧ t.dev.ctx g k = { c with starved := true } ∧
    t.dev.log.holds = s.dev.log.holds ∧ t.dev.stripes = s.dev.stripes ∧ t.dev.mem = s.dev.mem)) ∧
  (∀ (s : State) (g k : Nat),
  let c := s.dev.ctx g k
  let x := s.dev.cluster g
  (∀ h hd p, s.dev.log.holds.find? (fun h => h.site == .context g k && h.code == Code.arrFormatUnavailable) = some h →
    s.dev.head g k = some hd → s.dev.headPass g k hd = some p →
    (s.dev.effective ≠ 3 ∨ fmtGroup p.fmtA = 1 → ∃ t, exec (.formatHoldRelease g k) s = .next t ∧ t.pending = s.pending ∧
      t.dev = { s.dev with log := t.dev.log } ∧ t.dev.log.holds = s.dev.log.holds.erase h ∧
      t.dev.log.entries.length = s.dev.log.entries.length ∧
      (∀ pre e, s.dev.log.entries = pre ++ [e] → e.code = h.code → e.dataPath = h.dataPath → e.position = h.position →
        e.decided = false → e.restored = false → e.severity = 1 →
        t.dev.log.entries = pre ++ [{ e with decided := true }])) ∧
    (s.dev.effective = 3 → fmtGroup p.fmtA ≠ 1 → exec (.formatHoldRelease g k) s = .next s)) ∧
  (c.items ≠ [] → c.other ≠ [] → s.dev.atBoundary g k = true →
    ∃ t, exec (.contextRotation g k) s = .next t ∧
      t.dev = { s.dev with clusters := t.dev.clusters, counters := t.dev.counters } ∧
      (t.dev.ctx g k).resident = 1 - c.resident ∧ (t.dev.ctx g k).items.map Item.id = c.other.map Item.id ∧
      (t.dev.ctx g k).other.map Item.id = c.items.map Item.id ∧
      t.dev.cluster g = { x with queue := x.queue.filter (fun b => b.ctx != k), held := (t.dev.cluster g).held
                                 ctxs := (t.dev.cluster g).ctxs } ∧
      (∀ e ∈ (t.dev.cluster g).held, ∀ b, e.2 = some b → b.ctx ≠ k) ∧
      (∀ e ∈ x.held, (∀ b, e.2 = some b → b.ctx ≠ k) → e ∈ (t.dev.cluster g).held) ∧
      (∀ j, j ≠ k → t.dev.ctx g j = s.dev.ctx g j) ∧ (∀ h, h ≠ g → t.dev.cluster h = s.dev.cluster h) ∧
      Tab.get 0 t.dev.counters (clusterBlock g + 0x150) = Tab.get 0 s.dev.counters (clusterBlock g + 0x150) + 1) ∧
  (s.dev.atBoundary g k = false → exec (.contextRotation g k) s = .next s))

/-! ## Moves and memory (R33, R44 to R54) -/

/-- A move starts on a free engine, taking the stream token it waited for, and later writes the source's bytes at its destination,
nowhere else, and posts its token (R44, R46). It waits while the memory of either lies in a parked die (R54), while a word of its
source is known to be damaged (R52), and behind a held move (R51). -/
def Obligations.Moves : Prop := ∀ (s : State) (d q : Nat),
  let x := s.dev.quad d q
  let src := fun (m : MoveRun) => fld (s.dev.moveBytes d q m.index) 0 6
  let dst := fun (m : MoveRun) => fld (s.dev.moveBytes d q m.index) 6 6
  let len := fun (m : MoveRun) => fld (s.dev.moveBytes d q m.index) 12 4
  let wait := fun (m : MoveRun) => fld (s.dev.moveBytes d q m.index) 16 2
  let tok := fun (m : MoveRun) => fld (s.dev.moveBytes d q m.index) 18 2
  let before := s.dev.openMoves d q
  (∀ e i m, s.dev.freeEngine d q = some e →
    ((List.range before.length).zip before).find? (fun e => e.2.engine.isNone && s.dev.moveEligible d q e.2) = some (i, m) →
    s.dev.running = true → s.dev.dieParked d = false → s.dev.backed (src m) (len m) = true →
    s.dev.writable (dst m) (len m) = true →
    ∃ t, exec (.moveStart d q) s = .next t ∧ t.dev.mem = s.dev.mem ∧ t.dev.log = s.dev.log ∧
      (t.dev.quad d q).moves = putAt x.moves i { m with engine := some e, waitMet := true, gate := s.dev.readGate (src m) } ∧
      t.dev.stepTokens = s.dev.stepTokens ∧
      (m.waitMet = true ∨ wait m < 0xF000 ∨ 0xFFFF ≤ wait m → t.dev.streamTokens = s.dev.streamTokens) ∧
      (m.waitMet = false → 0xF000 ≤ wait m → wait m < 0xFFFF →
        Tab.get 0 t.dev.streamTokens (wait m) = Tab.get 0 s.dev.streamTokens (wait m) - 1)) ∧
  (∀ e m, x.moves.find? (fun m => m.engine == some e) = some m → m ∈ before →
    s.dev.gatedWaits (src m) (len m) m.gate = false → s.dev.writeWaits (dst m) (len m) = false →
    s.dev.sound (src m) (len m) = true → s.dev.backed (src m) (len m) = true →
    (s.dev.writable (dst m) (len m) = true →
      ∃ t, exec (.moveComplete d q e) s = .next t ∧ t.dev.read (dst m) (len m) = s.dev.read (src m) (len m) ∧
        s.dev.SameOutside t.dev (dst m) (len m) ∧ (t.dev.quad d q).moves = x.moves.erase m ∧ s.dev.Posted t.dev (tok m)) ∧
    (s.dev.writable (dst m) (len m) = false → ∃ t, exec (.moveComplete d q e) s = .next t ∧ s.dev.SameBytes t.dev ∧
      (t.dev.quad d q).moves = x.moves ∧ t.dev.isHeld (.move d q e) = true)) ∧
  (∀ e m, x.moves.find? (fun m => m.engine == some e) = some m → m ∈ before →
    s.dev.gatedWaits (src m) (len m) m.gate = false → s.dev.writeWaits (dst m) (len m) = false →
    s.dev.sound (src m) (len m) = true → s.dev.backed (src m) (len m) = false →
    ∃ t, exec (.moveComplete d q e) s = .next t ∧ s.dev.SameBytes t.dev ∧ (t.dev.quad d q).moves = x.moves ∧
      t.dev.isHeld (.move d q e) = true) ∧
  (∀ e m, x.moves.find? (fun m => m.engine == some e) = some m →
    m ∉ before ∨ s.dev.sound (src m) (len m) = false ∨ s.dev.waitsForDie (src m) ≠ none ∨ s.dev.waitsForDie (dst m) ≠ none →
    exec (.moveComplete d q e) s = .next s)

/-- What the protection code says of a word read (R49 to R52, R113, R516): sound data changes nothing; a corrected error is
counted for its memory; an uncorrectable one is counted, marks its sideband word, is found again until the word is written,
and, with a job, holds the consumer; one in the array's own memories faults the pass's tile and holds the array; damage
beyond the code changes the word and is not reported. A patrol checks the words of the next granule of a die that serves and
is not parked, marks those found uncorrectable, and moves on, whatever it finds (R52, R54); a host scrub does the same with
its next MiB and is done after the last (R53). No byte changes and nothing holds. -/
def Obligations.ProtectionCodes : Prop :=
  (∀ (s : State) (u : Consumer) (st : Store) (a : Nat) (r : Region),
  let k := (s.dev.memIndex a).1
  (a / 64 ∉ s.dev.damaged ∨ addressed st = false → exec (.memoryReadReturn u st a .clean) s = .next s) ∧
  (addressed st = true → s.dev.regionOf a = some r →
    (a / 64 ∉ s.dev.damaged → ∃ t, exec (.memoryReadReturn u st a .corrected) s = .next t ∧ t.dev.mem = s.dev.mem ∧
      t.dev.damaged = s.dev.damaged ∧ t.dev.log.holds = s.dev.log.holds ∧
      Tab.get 0 t.dev.counters (0x60100 + 8 * k) = Tab.get 0 s.dev.counters (0x60100 + 8 * k) + 1) ∧
    (∀ res, res = .uncorrectable ∨ a / 64 ∈ s.dev.damaged →
      ∃ t, exec (.memoryReadReturn u st a res) s = .next t ∧
        ((∀ g k, u ≠ .vector g k) → a / 64 ∈ t.dev.damaged ∧ t.dev.mem = s.dev.mem) ∧
        Tab.get 0 t.dev.counters (0x60200 + 8 * k) = Tab.get 0 s.dev.counters (0x60200 + 8 * k) + 1 ∧
        (∀ dp ctl dom site, s.dev.consumerAt u = some (dp, ctl, dom, site) → s.dev.hasJob = true → s.dev.isHeld site = false →
          ∃ h, t.dev.log.holds = s.dev.log.holds ++ [h] ∧ h.site = site ∧ h.position = BitVec.ofNat 64 a ∧
            h.dataPath = BitVec.ofNat 32 dp))) ∧
  (∀ g k p, s.dev.hasJob = true → st ∈ [.inputBank, .accumulator, .weightQueue] → s.dev.passOf g k a st = some p →
    s.dev.isHeld (.array g p.half) = false →
    ∃ t, exec (.memoryReadReturn (.array g k) st a .uncorrectable) s = .next t ∧ s.dev.SameBytes t.dev ∧
      t.dev.isHeld (.array g p.half) = true ∧ (∀ x ∈ (t.dev.cluster g).epilogue, x.pass.id ≠ p.id) ∧
      ∀ x ∈ (t.dev.cluster g).issuing ++ (t.dev.cluster g).draining ++ (t.dev.cluster g).readouts, x.id = p.id →
        x.faulted = true) ∧
  (∀ flips, st ∈ [.hbm, .lpddr, .tileStore, .inputBank, .accumulator] → s.dev.regionOf a = some r →
    a / 64 ∉ s.dev.damaged ∨ addressed st = false →
    ∃ t, exec (.memoryReadReturn u st a (.undetected flips)) s = .next t ∧ s.dev.SameOutside t.dev a 4 ∧
      t.dev.read a 4 = leBytes 4 (s.dev.readNat a 4 ^^^ flips % 2 ^ 32) ∧
      t.dev = { s.dev with mem := t.dev.mem, damaged := t.dev.damaged }) ∧
  (addressed st = true → s.dev.regionOf a = none → a / 64 ∉ s.dev.damaged → ∀ res,
    exec (.memoryReadReturn u st a res) s = .next s)) ∧
  (∀ (s : State) (found : List (Nat × Check)),
  let Marks := fun (t : State) (base n : Nat) =>
    ∀ i, i < n → (i, Check.uncorrectable) ∈ found → (base + 64 * i) / 64 ∈ t.dev.damaged
  (∀ d, d < 4 → s.dev.dieServes d = true → s.dev.dieParked d = false →
    ∃ t, exec (.patrolScrubGranule d found) s = .next t ∧ t.dev.mem = s.dev.mem ∧ t.dev.log.holds = s.dev.log.holds ∧
      Marks t (d * hbmSize + 512 * (s.dev.die d).patrol) 8 ∧
      t.dev.die d = { s.dev.die d with patrol := ((s.dev.die d).patrol + 1) % (hbmSize / 512) }) ∧
  (∀ d, d < 4 → s.dev.dieParked d = true → exec (.patrolScrubGranule d found) s = .next s) ∧
  (∀ p, p < 2 → s.dev.boot.service = 2 →
    ∃ t, exec (.patrolScrubGranule (4 + p) found) s = .next t ∧ t.dev.mem = s.dev.mem ∧ t.dev.log.holds = s.dev.log.holds ∧
      Marks t (lpBase + p * lpWindow + 256 * (s.dev.pdie p).patrol) 4 ∧
      t.dev.pdie p = { s.dev.pdie p with patrol := ((s.dev.pdie p).patrol + 1) % (s.dev.lpBacked / 256) }) ∧
  (∀ n o, s.dev.ops.find? (fun o => o.handle == 5 * 2 ^ 24 + n) = some o → o.state = 0 →
    s.dev.waitsForDie o.next = none → s.dev.backed o.next 0x100000 = true →
    ∃ t, exec (.hostScrubChunk n found) s = .next t ∧ t.dev.mem = s.dev.mem ∧ t.dev.log.holds = s.dev.log.holds ∧
      (∀ e ∈ found, o.next ≤ e.1 → e.1 < o.next + 0x100000 → e.2 = .uncorrectable → e.1 / 64 ∈ t.dev.damaged) ∧
      (o.next + 0x100000 < o.hi → { o with passed := o.passed + 1, next := o.next + 0x100000 } ∈ t.dev.ops ∧
        t.dev.endedOps = s.dev.endedOps) ∧
      (o.hi ≤ o.next + 0x100000 → (∀ x ∈ t.dev.ops, x.handle ≠ o.handle) ∧ ∃ x ∈ t.dev.endedOps,
        x.handle = o.handle ∧ x.state = 4 ∧ x.passed = o.passed + 1)))

/-! ## Job programs (R354 to R360, R381 to R384) -/

/-- NOP, SETR and LOADR (R355): the play goes on; SETR and LOADR write one job register, LOADR with the four bytes at its
address; it waits for a parked die or a word known to be damaged (R51, R54), and holds the play where the address has no memory
(R33). -/
def Obligations.ProgramRegisters : Prop := ∀ (s : State) (c : ProgCmd) (i : Nat),
  let regs := (s.dev.quad c.d c.q).regs
  let Goes := fun (t : State) (f : Tab Word → Prop) => t.pending = s.pending ∧ t.dev = { s.dev with quads := t.dev.quads } ∧
    s.dev.PlayAt t.dev c.d c.q c.play i ∧ f (t.dev.quad c.d c.q).regs ∧
    (t.dev.quad c.d c.q).issues = (s.dev.quad c.d c.q).issues
  (s.dev.canTake 0x00 c = some i → ∃ t, exec (.programNop c) s = .next t ∧ Goes t (fun r => r = regs)) ∧
  (s.dev.canTake 0x0A c = some i → ∃ t, exec (.setr c) s = .next t ∧ Goes t (fun r => ∀ j,
    Tab.get 0 r j = if j = c.token % 64 then c.imm.setWidth 32 else Tab.get 0 regs j)) ∧
  (s.dev.canTake 0x0B c = some i → s.dev.startHeld c.d c.q (c.play % 4) = false →
    (s.dev.readWaits (cmdAddr c) 4 = true ∨ s.dev.sound (cmdAddr c) 4 = false → exec (.loadr c) s = .next s)) ∧
  (s.dev.canTake 0x0B c = some i → s.dev.startHeld c.d c.q (c.play % 4) = false → s.dev.readWaits (cmdAddr c) 4 = false →
    s.dev.sound (cmdAddr c) 4 = true →
    (s.dev.backed (cmdAddr c) 4 = true → ∃ t, exec (.loadr c) s = .next t ∧ Goes t (fun r =>
      leBytes 4 (Tab.get 0 r (c.token % 64)).toNat = s.dev.read (cmdAddr c) 4 ∧
      ∀ j, j ≠ c.token % 64 → Tab.get 0 r j = Tab.get 0 regs j)) ∧
    (s.dev.backed (cmdAddr c) 4 = false → ∃ t, exec (.loadr c) s = .next t ∧ t.dev.quads = s.dev.quads ∧
      s.dev.NewHold t.dev Code.memAddressUnbacked (.tableStart c.d c.q (c.play % 4))))

/-- POST and WAIT (R355, R381 to R383): a post sets its token and no other; a wait goes on when its token is posted, taking one
count of a stream token, and stands until then. DRAIN stands until the play's deferred queue is empty and none of it runs
(R355); a VPASS or WAIT that is deferred joins the queue; a deferred command runs, in queue order, only while its play is
blocked (R360); STEP_END ends the quadrant's step body (R356). -/
def Obligations.ProgramTokens : Prop :=
  (∀ (s : State) (c : ProgCmd) (i : Nat),
  let Taken := fun (t : State) (tok : Nat) => t.dev.stepTokens = s.dev.stepTokens ∧
    (∀ k, Tab.get 0 t.dev.streamTokens k =
      if k = tok ∧ 0xF000 ≤ tok ∧ tok < 0xFFFF then Tab.get 0 s.dev.streamTokens k - 1 else Tab.get 0 s.dev.streamTokens k)
  (s.dev.canTake 0x09 c = some i → ∃ t, exec (.post c) s = .next t ∧ t.dev.mem = s.dev.mem ∧
    s.dev.PlayAt t.dev c.d c.q c.play i ∧ s.dev.Posted t.dev c.token ∧
    (∀ k, k ≠ c.token → Tab.get 0 t.dev.stepTokens k = Tab.get 0 s.dev.stepTokens k ∧
      Tab.get 0 t.dev.streamTokens k = Tab.get 0 s.dev.streamTokens k)) ∧
  (s.dev.canTake 0x08 c = some i → c.deferred = false →
    (s.dev.tokenMet c.token c.index = true → ∃ t, exec (.wait c) s = .next t ∧
      s.dev.PlayAt t.dev c.d c.q c.play i ∧ Taken t c.token) ∧
    (s.dev.tokenMet c.token c.index = false → ∃ t, exec (.wait c) s = .next t ∧
      t.dev = { s.dev with quads := t.dev.quads } ∧
      t.dev.play c.d c.q c.play = { s.dev.play c.d c.q c.play with waiting := some c })) ∧
  (∀ d q p b, (s.dev.play d q p).waiting = some c → s.dev.nextCmd d q p = some (i, b) → s.dev.running = true →
    (s.dev.tokenMet c.token c.index = true → ∃ t, exec (.waitSatisfied d q p) s = .next t ∧
      s.dev.PlayAt t.dev d q p i ∧ Taken t c.token) ∧
    (s.dev.tokenMet c.token c.index = false → exec (.waitSatisfied d q p) s = .next s))) ∧
  (∀ (s : State) (d q p i : Nat) (c : ProgCmd),
  (∀ op x, (op, x) ∈ [(0x03, Instr.vpass c), (0x08, .wait c)] → s.dev.canTake op c = some i → c.deferred = true →
    ∃ t, exec x s = .next t ∧ t.dev = { s.dev with quads := t.dev.quads } ∧
      t.dev.play c.d c.q c.play = { s.dev.play c.d c.q c.play with
        pos := i + 1, deferredQ := (s.dev.play c.d c.q c.play).deferredQ ++ [(op, c)] } ∧
      (t.dev.quad c.d c.q).issues = (s.dev.quad c.d c.q).issues) ∧
  (s.dev.canTake 0x10 c = some i →
    (s.dev.drained c.d c.q c.play = true → ∃ t, exec (.drain c) s = .next t ∧
      t.dev = { s.dev with quads := t.dev.quads } ∧ s.dev.PlayAt t.dev c.d c.q c.play i) ∧
    (s.dev.drained c.d c.q c.play = false → ∃ t, exec (.drain c) s = .next t ∧
      t.dev = { s.dev with quads := t.dev.quads } ∧
      t.dev.play c.d c.q c.play = { s.dev.play c.d c.q c.play with draining := true })) ∧
  (∀ b, s.dev.nextCmd d q p = some (i, b) → (s.dev.play d q p).draining = true → s.dev.drained d q p = true →
    s.dev.running = true → ∃ t, exec (.drainSatisfied d q p) s = .next t ∧
      t.dev = { s.dev with quads := t.dev.quads } ∧ s.dev.PlayAt t.dev d q p i) ∧
  (∀ op rest, (s.dev.play d q p).deferredQ = (op, c) :: rest → s.dev.running = true → s.dev.blocked d q p = true →
    s.dev.deferredBusy d q p = false → s.dev.startHeld d q (p % 4) = false → c.d = d → c.q = q →
    (op = 0x08 → s.dev.tokenMet c.token c.index = true → ∃ t, exec (.deferredIssue d q p) s = .next t ∧
      t.dev.play d q p = { s.dev.play d q p with deferredQ := rest } ∧ t.dev.mem = s.dev.mem) ∧
    (op = 0x08 → s.dev.tokenMet c.token c.index = false → exec (.deferredIssue d q p) s = .next s) ∧
    (op = 0x03 → ∃ t x, exec (.deferredIssue d q p) s = .next t ∧
      t.dev.play d q p = { s.dev.play d q p with deferredQ := rest } ∧ t.dev.mem = s.dev.mem ∧
      (t.dev.quad d q).issues = (s.dev.quad d q).issues ++ [x] ∧ x.kind = 3 ∧ x.index = c.index ∧ x.token = c.token) ∧
    (op = 0x01 → let tab := s.dev.table d c.index
      let len := effLen tab (s.dev.window d c.index) (s.dev.quad d q).regs
      s.dev.badLength d q tab = none → len 0 ≠ 0 → len 1 ≠ 0 → (∀ w, s.dev.window d c.index = some w → w.pOut ≠ 0) →
      ∃ t x, exec (.deferredIssue d q p) s = .next t ∧ t.dev.mem = s.dev.mem ∧
        t.dev.play d q p = { s.dev.play d q p with deferredQ := rest } ∧
        (t.dev.quad d q).issues = (s.dev.quad d q).issues ++ [x] ∧ x.kind = 1 ∧ x.index = c.index ∧ x.token = c.token ∧
        x.members = maskMembers tab.mask)) ∧
  (∀ b, (s.dev.programCmds c.d c.q).getLast? = some b → fits 0x11 c b = true → s.dev.running = true → c.d < 4 → c.q < 4 →
    (s.dev.die c.d).power ≤ 1 → (∀ p, p < 8 → s.dev.nextCmd c.d c.q p = none ∧ (s.dev.play c.d c.q p).stands = false ∧
      (s.dev.play c.d c.q p).deferredQ = []) →
    ∃ t, exec (.stepEnd c) s = .next t ∧ t.dev = { s.dev with quads := t.dev.quads } ∧
      t.dev.quad c.d c.q = { s.dev.quad c.d c.q with ended := true }))

/-- TABLE (R121, R128, R130, R146, R360): a table with work is issued and every member has it in the play's context; an empty
one only posts its token; a length register above the coverage holds; a deferred one joins the queue. Once every member has
finished, the issue ends and its token is posted. -/
def Obligations.ProgramTable : Prop := ∀ (s : State) (c : ProgCmd) (i : Nat),
  let tab := s.dev.table c.d c.index
  let regs := (s.dev.quad c.d c.q).regs
  let len := effLen tab (s.dev.window c.d c.index) regs
  let k := c.play % 4
  (s.dev.canTake 0x01 c = some i →
    (c.deferred = true → ∃ t, exec (.table c) s = .next t ∧ t.dev = { s.dev with quads := t.dev.quads } ∧
      (t.dev.play c.d c.q c.play).deferredQ = (s.dev.play c.d c.q c.play).deferredQ ++ [(0x01, c)] ∧
      (t.dev.quad c.d c.q).issues = (s.dev.quad c.d c.q).issues) ∧
    (c.deferred = false → s.dev.startHeld c.d c.q k = false →
      (s.dev.badLength c.d c.q tab = none → len 0 ≠ 0 → len 1 ≠ 0 → (∀ w, s.dev.window c.d c.index = some w → w.pOut ≠ 0) →
        ∃ t x, exec (.table c) s = .next t ∧ t.dev.mem = s.dev.mem ∧ s.dev.PlayAt t.dev c.d c.q c.play i ∧
          (t.dev.quad c.d c.q).issues = (s.dev.quad c.d c.q).issues ++ [x] ∧ x.kind = 1 ∧ x.index = c.index ∧
          x.token = c.token ∧ x.members = maskMembers tab.mask ∧ x.lens = [len 0, len 1, len 2] ∧
          (∀ m ∈ x.members, ∃ r, .table r ∈ (t.dev.ctx (gOf c.d c.q m) k).items ++ (t.dev.ctx (gOf c.d c.q m) k).other ∧
            r.item = x.id ∧ r.num = tab.number ∧ r.lenM = len 0 ∧ r.lenN = len 1 ∧ r.lenK = len 2 ∧ r.outstanding = 0)) ∧
      (s.dev.badLength c.d c.q tab = none → len 0 = 0 → s.dev.window c.d c.index = none →
        ∃ t, exec (.table c) s = .next t ∧ t.dev.mem = s.dev.mem ∧ s.dev.PlayAt t.dev c.d c.q c.play i ∧
          (t.dev.quad c.d c.q).issues = (s.dev.quad c.d c.q).issues ∧ s.dev.Posted t.dev c.token) ∧
      (∀ bad, s.dev.badLength c.d c.q tab = some bad → ∃ t, exec (.table c) s = .next t ∧ t.dev.mem = s.dev.mem ∧
        s.dev.NewHold t.dev Code.loopActualLengthInvalid (.tableStart c.d c.q k)))) ∧
  (∀ d q k x, (s.dev.quad d q).issues.find? (fun x => x.kind == 1 && x.ctx == k && !x.statsHeld && s.dev.tableFinished d q x) =
      some x → ∃ t, exec (.tableComplete d q k) s = .next t ∧ t.dev.mem = s.dev.mem ∧ s.dev.Posted t.dev x.token ∧
    (t.dev.quad d q).issues = (s.dev.quad d q).issues.filter (fun y => y.id != x.id) ∧
    (∀ m ∈ x.members, ∀ y ∈ (t.dev.ctx (gOf d q m) k).items ++ (t.dev.ctx (gOf d q m) k).other, y.id ≠ x.id))

/-- WALK, VPASS, FIELD, MOVE and TOUR (R46, R194, R198, R213, R216, R236, R251, R355): the item is issued and its clusters have
it in the play's context, or the move or tour joins its queue. A walk of pages above the geometry or without its statistics
holds; a field descriptor without rows only posts its token. -/
def Obligations.ProgramItems : Prop := ∀ (s : State) (c : ProgCmd) (i : Nat),
  let k := c.play % 4
  let w := s.dev.walkRec c.d c.index
  let nAct := (Tab.get 0 (s.dev.quad c.d c.q).regs w.reg).toNat
  let g := gOf c.d c.q (c.imm.toNat % 64)
  let held := fun (t : State) => t.dev.ctx g k
  let Issued := fun (t : State) (x : Issue) (kind : Nat) => t.dev.mem = s.dev.mem ∧ s.dev.PlayAt t.dev c.d c.q c.play i ∧
    (t.dev.quad c.d c.q).issues = (s.dev.quad c.d c.q).issues ++ [x] ∧ x.kind = kind ∧ x.index = c.index ∧ x.token = c.token
  (s.dev.canTake 0x02 c = some i → s.dev.startHeld c.d c.q k = false →
    (nAct ≤ (s.dev.geometry c.d).nCap → s.dev.statsOk c.d w = true → ∃ t x, exec (.walk c) s = .next t ∧ Issued t x 2 ∧
      x.members = maskMembers w.mask ∧ x.lens = [nAct] ∧ (∀ m ∈ x.members, ∃ r,
        .walk r ∈ (t.dev.ctx (gOf c.d c.q m) k).items ++ (t.dev.ctx (gOf c.d c.q m) k).other ∧ r.item = x.id ∧ r.nAct = nAct)) ∧
    (nAct ≤ (s.dev.geometry c.d).nCap → s.dev.statsOk c.d w = false → ∃ t, exec (.walk c) s = .next t ∧
      t.dev.mem = s.dev.mem ∧ s.dev.NewHold t.dev Code.attStatsMissing (.walkStats c.d c.q k)) ∧
    ((s.dev.geometry c.d).nCap < nAct → ∃ t, exec (.walk c) s = .next t ∧ t.dev.mem = s.dev.mem ∧
      s.dev.NewHold t.dev Code.loopActualLengthInvalid (.tableStart c.d c.q k))) ∧
  (s.dev.canTake 0x03 c = some i → c.deferred = false → s.dev.startHeld c.d c.q k = false →
    ∃ t x r, exec (.vpass c) s = .next t ∧ Issued t x 3 ∧ x.members = [c.imm.toNat % 64] ∧
      .rows r ∈ (held t).items ++ (held t).other ∧ r = ⟨x.id, false, c.index, 0, 0, false, 0, false⟩) ∧
  (s.dev.canTake 0x04 c = some i → s.dev.startHeld c.d c.q k = false →
    ((s.dev.fieldDesc c.d c.q c.index).rows ≠ 0 → ∃ t x r, exec (.field c) s = .next t ∧ Issued t x 4 ∧
      x.members = [c.imm.toNat % 64] ∧ .rows r ∈ (held t).items ++ (held t).other ∧ r = ⟨x.id, true, c.index, 0, 0, false, 0, false⟩) ∧
    ((s.dev.fieldDesc c.d c.q c.index).rows = 0 → ∃ t, exec (.field c) s = .next t ∧ t.dev.mem = s.dev.mem ∧
      s.dev.PlayAt t.dev c.d c.q c.play i ∧ (t.dev.quad c.d c.q).issues = (s.dev.quad c.d c.q).issues ∧
      s.dev.Posted t.dev c.token ∧
      Tab.get 0 t.dev.counters (clusterBlock g + 0x110) = Tab.get 0 s.dev.counters (clusterBlock g + 0x110) + 1)) ∧
  (s.dev.canTake 0x06 c = some i → (s.dev.quad c.d c.q).moves.length < 64 → ∃ t, exec (.move c) s = .next t ∧
    t.dev = { s.dev with quads := t.dev.quads } ∧ s.dev.PlayAt t.dev c.d c.q c.play i ∧
    (t.dev.quad c.d c.q).moves = (s.dev.quad c.d c.q).moves ++ [⟨c.index, c.play, 0, none, false, false⟩]) ∧
  (64 ≤ (s.dev.quad c.d c.q).moves.length → exec (.move c) s = .next s) ∧
  (s.dev.canTake 0x07 c = some i → ∃ t, exec (.tour c) s = .next t ∧
    t.dev = { s.dev with quads := t.dev.quads, dies := t.dev.dies } ∧ s.dev.PlayAt t.dev c.d c.q c.play i ∧
    t.dev.die c.d = { s.dev.die c.d with tours := (s.dev.die c.d).tours ++ [(c.index, c.token)] })

/-- SEAL (R206, R210, R212): every page the descriptor names records its filled count, the range of its marks and the state
sealed, its marks are written into its home frame and nowhere else, and the seal's token is posted; a page past N_act stays
empty; a seal whose pages a walk still uses, or whose marks' memory is not there, waits, in order, and runs when that has
ended. Stage transfers (R355, R358): SEND and RECV start a transfer, or post at once when it has no bytes; a RECV stands.
The next message carries up to 8,192 bytes with step, number and offset, and the token is posted with the last byte. -/
def Obligations.SealsAndStages : Prop :=
  (∀ (s : State) (d q : Nat) (index token : Nat) (rest : List (Nat × Nat)),
  let b := s.dev.sealBytes d q index
  let y := s.dev.geometry d
  let t0 := fun (lam : Nat) => globalToken s.dev.ringS (y.stretch s.dev.ringS) s.dev.ringPos (16 * lam)
  let page := fun (lam : Nat) => t0 lam / 16
  let filled := fun (lam : Nat) => min 16 ((Tab.get 0 (s.dev.quad d q).regs (fbits b 8 1 5 0)).toNat - t0 lam)
  let marks := fld b 9 6
  let mark := fun (lam i : Nat) => if marks = 0 then 0 else s.dev.readNat (marks + 2 * (16 * lam + i)) 2
  let frame := fun (lam : Nat) => y.homeBase + lam * y.homePitch
  let free := (marks ≠ 0 → s.dev.readWaits marks 1 = false) ∧ ∀ lam ∈ sealPages b, s.dev.pageInUse d (page lam) = false
  let apart := 64 ≤ y.homePitch ∧ (∀ l m, l ∈ sealPages b → m ∈ sealPages b → page l = page m → l = m) ∧
    (∀ l m, l ∈ sealPages b → m ∈ sealPages b → marks ≠ 0 →
      frame l + 64 ≤ marks + 32 * m ∨ marks + 32 * m + 32 ≤ frame l)
  let Sealed := fun (t : State) => s.dev.Posted t.dev token ∧
    (∀ d' p, d' ≠ d ∨ (∀ lam ∈ sealPages b, p ≠ page lam) → t.dev.page d' p = s.dev.page d' p) ∧
    (∀ a, (∀ lam ∈ sealPages b, ¬(frame lam ≤ a ∧ a < frame lam + 64)) → memGet t.dev.mem a = memGet s.dev.mem a) ∧
    (∀ lam ∈ sealPages b, filled lam = 0 → t.dev.page d (page lam) = { s.dev.page d (page lam) with state := 0, filled := 0 }) ∧
    (∀ lam ∈ sealPages b, filled lam ≠ 0 →
      (∀ i, i < filled lam → t.dev.read (frame lam + 2 * i) 2 = leBytes 2 (mark lam i)) ∧
      t.dev.page d (page lam) = { s.dev.page d (page lam) with
        filled := filled lam, state := 1, lap := 0, slot := 0xFFFF
        segLow := (t.dev.page d (page lam)).segLow, segHigh := (t.dev.page d (page lam)).segHigh } ∧
      (∀ i, i < filled lam → (t.dev.page d (page lam)).segLow ≤ mark lam i ∧ mark lam i ≤ (t.dev.page d (page lam)).segHigh))
  (∀ c i, s.dev.canTake 0x05 c = some i → c.d = d → c.q = q → c.index = index → c.token = token →
    ((s.dev.quad d q).seals = [] → free → apart →
      ∃ t, exec (.seal c) s = .next t ∧ s.dev.PlayAt t.dev d q c.play i ∧ Sealed t) ∧
    ((s.dev.quad d q).seals ≠ [] ∨ ¬free → ∃ t, exec (.seal c) s = .next t ∧
      t.dev = { s.dev with quads := t.dev.quads } ∧ s.dev.PlayAt t.dev d q c.play i ∧
      (t.dev.quad d q).seals = (s.dev.quad d q).seals ++ [(index, token)])) ∧
  ((s.dev.quad d q).seals = (index, token) :: rest →
    (¬free ∨ s.dev.dieStopped d = true → exec (.sealResume d q) s = .next s) ∧
    (free → s.dev.dieStopped d = false → apart →
      ∃ t, exec (.sealResume d q) s = .next t ∧ (t.dev.quad d q).seals = rest ∧ Sealed t)) ∧
  ((s.dev.quad d q).seals = [] → exec (.sealResume d q) s = .next s)) ∧
  (∀ (s : State) (c : ProgCmd) (i : Nat) (grad : Bool),
  let send := if grad then Instr.sendGrad c else .sendAct c
  let recv := if grad then Instr.recvGrad c else .recvAct c
  let zero := fun (x : Instr) => c.index = 0 → ∃ t, exec x s = .next t ∧ t.dev.mem = s.dev.mem ∧
    s.dev.PlayAt t.dev c.d c.q c.play i ∧ s.dev.Posted t.dev c.token ∧ t.dev.job = s.dev.job
  (s.dev.canTake (sendOp grad) c = some i → zero send ∧
    (c.index ≠ 0 → s.dev.sendsDone grad = s.dev.transferNumber (sendOp grad) c.d c.q i → ∃ t, exec send s = .next t ∧
      t.dev = { s.dev with quads := t.dev.quads, job := t.dev.job } ∧ s.dev.PlayAt t.dev c.d c.q c.play i ∧
      t.dev.job.transfers = s.dev.job.transfers ++
        [⟨grad, true, s.dev.transferNumber (sendOp grad) c.d c.q i, c.imm.toNat % 2 ^ 48, c.index, 0, c.token, c.d, c.q,
          c.play⟩])) ∧
  (s.dev.canTake (recvOp grad) c = some i → zero recv ∧
    (c.index ≠ 0 → ∃ t, exec recv s = .next t ∧
      t.dev = { s.dev with quads := t.dev.quads, job := t.dev.job, net := t.dev.net, counters := t.dev.counters } ∧
      t.dev.play c.d c.q c.play = { s.dev.play c.d c.q c.play with receiving := true } ∧
      t.dev.job.transfers = s.dev.job.transfers ++
        [⟨grad, false, s.dev.transferNumber (recvOp grad) c.d c.q i, c.imm.toNat % 2 ^ 48, c.index, 0, c.token, c.d, c.q,
          c.play⟩])) ∧
  (∀ x, let n := min 8192 (x.len - x.offset)
    s.dev.job.transfers.find? (fun x => x.grad == grad && x.send) = some x → s.dev.running = true →
    s.dev.hasCredit (s.dev.stageOut grad) (16 + n) = true → s.dev.readWaits (x.addr + x.offset) n = false →
    s.dev.sound (x.addr + x.offset) n = true → s.dev.startHeld x.d x.q (x.play % 4) = false →
    s.dev.isHeld (.stageSend grad) = false → s.dev.backed (x.addr + x.offset) n = true →
    ∃ t, exec (.stageMessageSend grad) s = .next t ∧ t.dev.mem = s.dev.mem ∧
      s.dev.Sent t.dev (s.dev.stageOut grad) (if grad then 0x35 else 0x34)
        (leBytes 4 (s.dev.job.step % 2 ^ 32) ++ leBytes 4 x.number ++ leBytes 8 x.offset ++
          s.dev.read (x.addr + x.offset) n) ∧
      Tab.get 0 t.dev.counters 0x50140 = Tab.get 0 s.dev.counters 0x50140 + BitVec.ofNat 64 n ∧
      (x.offset + n = x.len → s.dev.Posted t.dev x.token ∧ ∀ y ∈ t.dev.job.transfers,
        ¬(y.grad = grad ∧ y.send = true ∧ y.number = x.number)) ∧
      (x.offset + n ≠ x.len → { x with offset := x.offset + n } ∈ t.dev.job.transfers ∧
        t.dev.stepTokens = s.dev.stepTokens ∧ t.dev.streamTokens = s.dev.streamTokens)))

/-! ## Attention (R213 to R240) -/

/-- The next stream of a walk controller that can emit emits its next group as descriptors, in page order, the first and the
last of a group marked, and the turn passes to it (R222 to R224, R226); a group that needs an unmapped page holds before it
(R225); a member with no group left is at its end. With no turn to take the controller counts its wait. Memory is only read.
A row that sees no key of a group keeps its state, and its part of P is zero (R228); a walk waiting for a local page that is
still empty is recorded (R224); a walk that has written its last word leaves its contexts, a forward one makes its
statistics valid, the carousel sees the record complete, and its token is posted (R213, R231, R258); one that has not stays. -/
def Obligations.Walks : Prop :=
  (∀ (s : State) (d q ctl waited : Nat),
  let last := Tab.get 0 (s.dev.quad d q).turns ctl
  let streams := if last = ctl then [ctl + 2, ctl] else [ctl, ctl + 2]
  let cands := streams.flatMap (fun k => (s.dev.streamMembers d q k).map (fun m => (k, m)))
  let turn := cands.findSome? (fun e => match s.dev.walkTurn d q e.1 e.2.1 e.2.2.1 e.2.2.2 with
    | .wait => none
    | u => some (e.1, e.2.1, e.2.2.1, u))
  let block := dieBlock d + 0x3000 + 0x40 * q
  let Counts := fun (t : State) (skips groups : Nat) => ∀ o, Tab.get 0 t.dev.counters o = Tab.get 0 s.dev.counters o +
    (if o = block then BitVec.ofNat 64 skips else 0) + (if o = block + 8 then BitVec.ofNat 64 waited else 0) +
    (if o = block + 16 then BitVec.ofNat 64 groups else 0)
  let At := fun (t : State) (k c : Nat) (r : WalkRun) =>
    .walk r ∈ (t.dev.ctx (gOf d q c) k).items ++ (t.dev.ctx (gOf d q c) k).other
  ctl < 2 → s.dev.dieStopped d = false →
  (turn = none → ∃ t, exec (.walkDescriptorEmit d q ctl waited) s = .next t ∧
    t.dev = { s.dev with counters := t.dev.counters } ∧ Counts t 0 0) ∧
  (∀ k c w r n, turn = some (k, c, w, .emit r n) →
    ∃ t r' x, exec (.walkDescriptorEmit d q ctl waited) s = .next t ∧ t.dev.mem = s.dev.mem ∧ t.dev.log = s.dev.log ∧
      Counts t n.skips 1 ∧ Tab.get 0 (t.dev.quad d q).turns ctl = k ∧ At t k c r' ∧ r'.item = r.item ∧
      r'.groups = r.groups ++ [x] ∧ x.block = n.block ∧ x.last = n.last ∧ x.index = r.groupIndex ∧
      x.scored = 0 ∧ x.formed = 0 ∧ x.valued = 0 ∧
      (w.kind ≠ 2 → x.descs.map (·.page) = n.pages ∧ ∀ i e, x.descs[i]? = some e → e.record = w.number ∧ e.kind = w.kind ∧
        e.page2 = none ∧ e.position = n.pos + i ∧ e.first = decide (i = 0) ∧ e.lastOfGroup = decide (i + 1 = n.pages.length) ∧
        e.filled = (if r.skipped.contains e.page then 0 else (s.dev.page d e.page).filled) ∧
        (r.skipped.contains e.page = false → e.addr = s.dev.recordAddr d w e.page)) ∧
      (w.kind = 2 → (∃ e, x.descs = [e] ∧ e.record = w.number ∧ e.page = n.pages.headD 0 ∧ e.page2 = n.pages[1]?) ∧
        ∀ p ∈ n.pages, (w.number, p) ∈ (t.dev.die d).walked) ∧
      (∀ p ∈ n.pages, r.skipped.contains p = false → s.dev.pageReady d p = true)) ∧
  (∀ k c w p, turn = some (k, c, w, .unmapped p) →
    ∃ t, exec (.walkDescriptorEmit d q ctl waited) s = .next t ∧ t.dev.mem = s.dev.mem ∧ t.dev.clusters = s.dev.clusters ∧
      s.dev.NewHold t.dev Code.attPageUnmapped (.walkPage d q k c p)) ∧
  (∀ k c w r, turn = some (k, c, w, .over r) →
    ∃ t, exec (.walkDescriptorEmit d q ctl waited) s = .next t ∧ t.dev.mem = s.dev.mem ∧ t.dev.log = s.dev.log ∧
      At t k c r ∧ r.emitted = true)) ∧
  (∀ (s : State) (d q k : Nat),
  (∀ fmt scale m l keys, (∀ e ∈ keys, e.2 = false) →
    forwardRow fmt scale m l keys = ⟨m, l, none, keys.map (fun _ => 0), 0, 0, 0⟩) ∧
  (∀ c w r0 rest r n p, s.dev.streamMembers d q k = (c, w, r0) :: rest → s.dev.openWalk d w r0 = some r →
    s.dev.nextGroup d w r = some n →
    n.pages.find? (fun p => !r.skipped.contains p && decide ((s.dev.page d p).owner = s.dev.ringPos) &&
      decide ((s.dev.page d p).state = 0) && !s.dev.pageUnmapped d p) = some p → s.dev.log.entries.length < 4096 →
    ∃ t e, exec (.attPageLate d q k) s = .next t ∧ t.dev = { s.dev with log := t.dev.log, fresh := t.dev.fresh } ∧
      t.dev.log.entries = s.dev.log.entries ++ [e] ∧ e.code = Code.attPageLate ∧ e.position = BitVec.ofNat 64 p ∧
      t.dev.log.holds = s.dev.log.holds) ∧
  (s.dev.streamMembers d q k = [] → exec (.attPageLate d q k) s = .next s) ∧
  (∀ i, (s.dev.quad d q).issues.find? (fun i => i.kind == 2 && i.ctx == k && !i.statsHeld && s.dev.walkFinished d q i) =
      some i → s.dev.dieStopped d = false → (∀ run, (s.dev.die d).tour = some run → run.released = false) →
    ∃ t, exec (.walkComplete d q k) s = .next t ∧ t.dev.mem = s.dev.mem ∧ s.dev.Posted t.dev i.token ∧
      (t.dev.quad d q).issues = (s.dev.quad d q).issues.filter (fun y => y.id != i.id) ∧
      i.index ∈ (t.dev.die d).walksDone ∧
      ((s.dev.walkRec d i.index).kind = 0 → i.index ∈ (t.dev.die d).statsValid) ∧
      (∀ m ∈ i.members, ∀ y ∈ (t.dev.ctx (gOf d q m) k).items ++ (t.dev.ctx (gOf d q m) k).other, y.id ≠ i.id)) ∧
  ((∀ i ∈ (s.dev.quad d q).issues, i.kind = 2 → i.ctx = k → i.statsHeld = false → s.dev.walkFinished d q i = false) →
    exec (.walkComplete d q k) s = .next s))

/-- The pipe of a cluster (R218, R219, R228, R229, R233). Once the raw scores of a group of a forward walk have come, each valid row's
running maximum and sum become those of R228 over the keys it sees, and P is written in the operand format; once its value tiles have
come, they are folded into the FP32 rows of the working area and the group leaves. For a backward walk pb and ds are formed from
scores and dP. A held context, or one with no group, changes nothing. -/
def Obligations.SoftmaxPipe : Prop := ∀ (s : State) (g k : Nat) (r : WalkRun) (x : WGroup) (rest : List WGroup),
  let d := dOf g
  let w := s.dev.walkRec d r.num
  let y := s.dev.geometry d
  let c := s.dev.cluster g
  let rowsOf := fun (x : WGroup) => (s.dev.blockRows d w r.nAct x.block).take x.rows
  let key := fun (q : QRow) => s.dev.playIn g k * 4096 + 4 * (q.row % 1024)
  let scratch := fun (t : State) (i : Nat) => Tab.get 0 (t.dev.cluster g).scratch i
  let oAt := fun (q : QRow) (e : Nat) => workO g w y + (e * 256 + q.row % 256) * 4
  let tiles := if x.formed = 1 then c.pipeRows r.item x.id 2 0 (y.width / 8) 8 else none
  let Formed := fun (t : State) (z : WGroup) => ∃ r' fs, .walk r' ∈ (t.dev.ctx g k).items ∧ r'.item = r.item ∧
    r'.groups = r.groups.map (fun u => if u.id = z.id then { u with formed := u.formed + 1, factors := fs } else u)
  let pair := fun (q : QRow) (e : KeyRef) (raw dp : Word) =>
    backPair y.fmt w.scale (s.dev.rowStats w q.row).1 (s.dev.rowStats w q.row).2 raw dp (w.seesKey r.nAct q e)
  ((∀ i ∈ (s.dev.ctx g k).items, ∀ u, i = .walk u → u.groups = []) ∨ s.dev.isHeld (.context g k) = true →
    exec (.softmaxPipeGroup g k) s = .next s) ∧
  ((s.dev.ctx g k).items.findSome? (fun i => match i with | .walk r => if r.groups.isEmpty then none else some r | _ => none) =
      some r → r.groups = x :: rest → s.dev.isHeld (.context g k) = false → s.dev.clusterStopped g = false →
    s.dev.pipeMemory w y (rowsOf x) = (false, none) →
    (∀ z raw dp, w.kind < 2 → x.descs ≠ [] → tiles = none → r.groups.find? (fun z => decide (z.formed = 0)) = some z →
      z.descs ≠ [] → (z.index ≠ 0 ∨ s.dev.blockFree g r z = true) → (z.descs.flatMap Desc.keys).length ≤ 64 →
      c.pipeRows r.item z.id 0 0 (2 * z.descs.length) 8 = some raw →
      (if w.kind = 1 then c.pipeRows r.item z.id 1 0 (2 * z.descs.length) 8 else some []) = some dp →
      let keys := z.descs.flatMap Desc.keys
      let out := fun (i : Nat) (q : QRow) => forwardRow y.fmt w.scale
        (if z.index = 0 then 0xFF800000 else scratch s (key q)) (if z.index = 0 then 0 else scratch s (key q + 1))
        ((List.zip keys raw).map (fun e => (nth 0 e.2 i, w.seesKey r.nAct q e.1)))
      ∃ t, exec (.softmaxPipeGroup g k) s = .next t ∧ Formed t z ∧
        (∀ a, ¬(workP g w y z.id ≤ a ∧ a < workP g w y z.id + 256 * 64 * y.eb) →
          ¬(z.index = 0 ∧ workO g w y ≤ a ∧ a < workO g w y + 1024 * y.width) → memGet t.dev.mem a = memGet s.dev.mem a) ∧
        (∀ i q, (rowsOf z)[i]? = some q →
          (w.kind = 0 → scratch t (key q) = (out i q).m ∧ scratch t (key q + 1) = (out i q).l ∧
            t.dev.read (workP g w y z.id + i * 64 * y.eb) ((out i q).p.length * y.eb) = (out i q).p.flatMap (leBytes y.eb)) ∧
          (w.kind = 1 → z.index ≠ 0 → t.dev.read (workP g w y z.id + i * 64 * y.eb) (keys.length * y.eb) =
            (List.range keys.length).flatMap (fun j => leBytes y.eb (pair q (nth ⟨0, 0, 0, 0⟩ keys j)
              (nth 0 (nth [] raw j) i) (nth 0 (nth [] dp j) i)).2.1)))) ∧
    (∀ ts, w.kind < 2 → x.descs ≠ [] → tiles = some ts → x.last = false →
      ∃ t r', exec (.softmaxPipeGroup g k) s = .next t ∧ .walk r' ∈ (t.dev.ctx g k).items ∧ r'.item = r.item ∧
        r'.groups = r.groups.filter (fun z => z.id != x.id) ∧ r'.closing = r.closing ∧
        s.dev.SameOutside t.dev (workO g w y) (1024 * y.width) ∧
        (∀ i q e, (rowsOf x)[i]? = some q → e < y.width →
          let old := BitVec.ofNat 32 (s.dev.readNat (oAt q e) 4)
          let v := nth 0 (nth [] ts e) i
          t.dev.read (oAt q e) 4 = leBytes 4 (match w.kind, nth none x.factors i with
            | 0, some a => fFma old a v
            | 0, none => old
            | _, _ => fAdd old v).toNat)) ∧
    (∀ e more raw dp, w.kind = 2 → x.descs = e :: more → y.eb = 2 →
      let n := 16 * e.pages.length
      let rows := ((rowsOf x).drop (64 * x.formed)).take 64
      e.pages.length ≤ 2 → rows ≠ [] → c.pipeRows r.item x.id 0 x.formed 1 n = some raw →
      c.pipeRows r.item x.id 1 x.formed 1 n = some dp →
      ∃ t, exec (.softmaxPipeGroup g k) s = .next t ∧ Formed t x ∧
        s.dev.SameOutside t.dev (workP g w y x.formed) 8192 ∧
        (∀ i q j u, rows[i]? = some q → e.keys[j]? = some u →
          let b := pair q u (nth 0 (nth [] raw j) i) (nth 0 (nth [] dp j) i)
          t.dev.read (workP g w y x.formed + j * 128 + i * 2) 2 = leBytes 2 b.1 ∧
          t.dev.read (workP g w y x.formed + 4096 + j * 128 + i * 2) 2 = leBytes 2 b.2.1)))

/-! ## The carousel (R244 to R268) -/

/-- A tour starts on a die (R251, R257): nothing is sent or received yet, and every page of another owner is travelling when it
holds a token below N_act, else empty. With a tour in flight, or none queued, nothing starts. When every record of a tour is
complete and every page message sent and received, the visiting pages become released; a forward tour is then complete and
posts its token, a backward one waits for its returns and is complete with them (R258). While a record is not complete, or a
page message is not sent, the frames stay. -/
def Obligations.TourStarts : Prop :=
  (∀ (s : State) (d num token : Nat) (rest : List (Nat × Nat)),
  let nAct := (Tab.get 0 (s.dev.quad d 0).regs (s.dev.tourDesc d num).reg).toNat
  ((s.dev.die d).tour ≠ none ∨ (s.dev.die d).tours = [] → exec (.tourStart d) s = .next s) ∧
  ((s.dev.die d).tour = none → (s.dev.die d).tours = (num, token) :: rest → s.dev.running = true → s.dev.boot.service = 2 →
  s.dev.dieParked d = false →
  ∃ t r, exec (.tourStart d) s = .next t ∧ t.dev = { s.dev with dies := t.dev.dies, net := t.dev.net, counters := t.dev.counters } ∧
    (t.dev.die d).tour = some r ∧ r.num = num ∧ r.nAct = nAct ∧
    r.sent = [] ∧ r.due = [] ∧ r.retSent = [] ∧ r.retDue = [] ∧ r.pathIn = [] ∧ r.timeouts = [] ∧ r.released = false ∧
    (t.dev.die d).tours = (num, token) :: rest ∧
    (∀ p, p < (s.dev.geometry d).nCap / 16 →
      ((s.dev.page d p).owner = s.dev.ringPos → t.dev.page d p = s.dev.page d p) ∧
      ((s.dev.page d p).owner ≠ s.dev.ringPos → (t.dev.page d p).state = (if 16 * p < nAct then 2 else 0) ∧
        (t.dev.page d p).owner = (s.dev.page d p).owner ∧ (t.dev.page d p).slot = 0xFFFF)) ∧
    (∀ e, e ≠ d → t.dev.die e = s.dev.die e))) ∧
  (∀ (s : State) (d num token : Nat) (rest : List (Nat × Nat)) (run : TourRun),
  let td := s.dev.tourDesc d run.num
  (s.dev.die d).tour = some run → (s.dev.die d).tours = (num, token) :: rest → s.dev.dieParked d = false → run.released = false →
  ((∃ r ∈ td.records, (s.dev.die d).walksDone.contains r = false) ∨
    (1 < s.dev.ringS ∧ ∃ x, x < 2 ∧ Tab.get 0 run.sent x ≠ (s.dev.ownPages d run.nAct x).length) →
    exec (.tourReleaseFrames d) s = .next s) ∧
  ((∀ r ∈ td.records, r ∈ (s.dev.die d).walksDone) →
  (1 < s.dev.ringS → ∀ x, x < 2 → Tab.get 0 run.sent x = (s.dev.ownPages d run.nAct x).length ∧
    Tab.get 0 run.due x = (s.dev.duePages d run.nAct x).length ∧ (s.dev.flow (s.dev.pageOut d x)).waiting = []) →
  ∃ t, exec (.tourReleaseFrames d) s = .next t ∧
    (∀ p, t.dev.page d p = if (s.dev.page d p).state = 3 then { s.dev.page d p with state := 4, slot := 0xFFFF }
      else s.dev.page d p) ∧
    (td.backward = false → t.dev.mem = s.dev.mem) ∧
    (td.backward = false ∨ s.dev.returnsDone d td run = true → (t.dev.die d).tour = none ∧ (t.dev.die d).tours = rest ∧
      s.dev.Posted t.dev token) ∧
    (td.backward = true → s.dev.returnsDone d td run = false → t.dev.mem = s.dev.mem ∧
      (t.dev.die d).tour = some { run with released := true } ∧ (t.dev.die d).tours = (num, token) :: rest)))

/-- The next page or gradient message of a direction goes out when it may be sent and holds credit (R253, R254, R259 to R261):
it takes the flow's next sequence and is counted. Without credit, and while the sequencer's memory holds it, it waits. A
message that has not come, or that has held no credit, for the lap timeout is recorded once per flow and tour, and the tour
goes on (R263). -/
def Obligations.TourMessages : Prop :=
  (∀ (s : State) (d x : Nat),
  d < 4 → x < 2 → s.dev.dieParked d = false →
  (∀ run m last, s.dev.nextPage d x = some (run, m, last) →
    (s.dev.isHeld (.carouselSend d x) = true ∨
      s.dev.hasCredit (s.dev.pageOut d x) (s.dev.pagePayload d run.num x m).length = false →
      exec (.carouselPageSend d x) s = .next s) ∧
    (s.dev.isHeld (.carouselSend d x) = false →
    s.dev.hasCredit (s.dev.pageOut d x) (s.dev.pagePayload d run.num x m).length = true →
    ∃ t r, exec (.carouselPageSend d x) s = .next t ∧ t.dev.mem = s.dev.mem ∧
      s.dev.Sent t.dev (s.dev.pageOut d x) 0x30 (s.dev.pagePayload d run.num x m) ∧
      (t.dev.die d).tour = some r ∧ (∀ i, Tab.get 0 r.sent i = Tab.get 0 run.sent i + if i = x then 1 else 0) ∧
      r.due = run.due ∧ r.released = run.released ∧
      Tab.get 0 t.dev.counters (dieBlock d + 0x1000) = Tab.get 0 s.dev.counters (dieBlock d + 0x1000) + 1)) ∧
  (s.dev.nextPage d x = none → exec (.carouselPageSend d x) s = .next s) ∧
  (∀ run m last, let v := s.dev.gradOutValue d x run m
    let p := leBytes 2 run.num ++ [BitVec.ofNat 8 m.lap,
        BitVec.ofNat 8 (m.group + 16 * m.part + (if v.isSome then 32 else 0) + 64 * x)] ++
      leBytes 4 (s.dev.job.step % 2 ^ 32) ++ List.replicate 8 0 ++ ((v.getD []).flatMap (fun w => leBytes 4 w.toNat))
    s.dev.nextGrad d x = some (run, m, last) →
    (s.dev.isHeld (.carouselSend d x) = true ∨ s.dev.hasCredit (s.dev.gradOut d x) p.length = false →
      exec (.carouselGradSend d x) s = .next s) ∧
    (s.dev.isHeld (.carouselSend d x) = false → s.dev.hasCredit (s.dev.gradOut d x) p.length = true →
    ∃ t, exec (.carouselGradSend d x) s = .next t ∧ s.dev.Sent t.dev (s.dev.gradOut d x) 0x31 p ∧
      (∀ r, (t.dev.die d).tour = some r → Tab.get 0 r.retSent x = Tab.get 0 run.retSent x + 1) ∧
      (run.released = false → t.dev.mem = s.dev.mem ∧ ∃ r, (t.dev.die d).tour = some r) ∧
      Tab.get 0 t.dev.counters (dieBlock d + 0x1018) = Tab.get 0 s.dev.counters (dieBlock d + 0x1018) + 1)) ∧
  (s.dev.nextGrad d x = none → exec (.carouselGradSend d x) s = .next s)) ∧
  (∀ (s : State) (d flow : Nat) (run : TourRun),
  let Noted := fun (t : State) (id tag : Nat) => ∃ e r, t.dev.log.entries = s.dev.log.entries ++ [e] ∧
    e.code = Code.carLapTimeout ∧ e.tag = tag ∧ t.dev.log.holds = s.dev.log.holds ∧ t.dev.mem = s.dev.mem ∧
    (t.dev.die d).tour = some r ∧ r.timeouts = id :: run.timeouts ∧
    Tab.get 0 t.dev.counters (dieBlock d + 0x1030) = Tab.get 0 s.dev.counters (dieBlock d + 0x1030) + 1
  flow < 4 → (s.dev.die d).tour = some run → s.dev.log.entries.length < 4096 →
  (∀ due, s.dev.dueOn d flow = some due → run.timeouts.contains flow = false →
    ∃ t, exec (.carLapTimeout d flow) s = .next t ∧ Noted t flow 0) ∧
  (∀ r m last, flow < 2 → s.dev.nextPage d flow = some (r, m, last) → run.timeouts.contains (4 + flow) = false →
    s.dev.hasCredit (s.dev.pageOut d flow) (80 + (s.dev.geometry d).recBytes) = false →
    ∃ t, exec (.senderCreditTimeout d flow) s = .next t ∧ Noted t (4 + flow) 19) ∧
  (∀ r m last, 2 ≤ flow → s.dev.nextGrad d (flow - 2) = some (r, m, last) → run.timeouts.contains (4 + flow) = false →
    s.dev.hasCredit (s.dev.gradOut d (flow - 2))
      (16 + (if (s.dev.gradOutValue d (flow - 2) r m).isSome then 64 * (s.dev.geometry d).width else 0)) = false →
    ∃ t, exec (.senderCreditTimeout d flow) s = .next t ∧ Noted t (4 + flow) 19))

/-! ## Ingest (R273 to R306) -/

/-- Decode engines (R287, R289, R295, R296): a staged use goes to the first free engine; it completes with its output kept for its
record and its concealed elements counted; one over budget is dropped and recorded; a missing use is filled wholly by concealment.
Only the reference area of an entry that repeats is written. Without a use or an engine, and while an engine holds or its memory is
stopped, none of this happens. (No key of an ended period waits.) -/
def Obligations.IngestEngines : Prop := ∀ (s : State) (p e cycles : Nat) (r : Recipe) (u : Use),
  let a := s.dev.absorbReleases r
  let staged := a.ingest.uses.find? (fun u => u.pdie == p && u.stage == 1 && (r.packing || a.slotFree r u.key))
  let taken := s.dev.ingest.uses.find? (fun u => u.pdie == p && u.engine == e && u.stage == 2)
  let missing := a.ingest.uses.find? (fun u => u.pdie == p && u.stage == 5 && (r.packing || a.slotFree r u.key))
  let put := fun (t : State) (d : Device) (x : Decoded) =>
    t.dev.mem = (d.writeRef r (d.entry u.entry) u x).mem ∧ ((d.entry u.entry).method ≠ 0 → t.dev.mem = s.dev.mem) ∧
    { u with stage := 3, concealed := (x.elems.filter (·.2)).length,
             data := (d.outputOf r (d.entry u.entry) u x).flatMap (·.2.2) } ∈ t.dev.ingest.uses ∧
    (u.stage ≠ 3 → u ∉ t.dev.ingest.uses) ∧ t.dev.ingest.delivered = s.dev.ingest.delivered
  s.dev.recipe = some r →
  (staged = some u →
    (List.range 16).find? (a.engineFree p) = some e → ∃ t, exec (.decodeStart p) s = .next t ∧ t.dev.mem = s.dev.mem ∧
      { u with stage := 2, engine := e } ∈ t.dev.ingest.uses ∧ Tab.get 0 t.dev.streamTokens r.release = 0 ∧
      t.dev.ingest.slotsUsed = s.dev.ingest.slotsUsed + Tab.get 0 s.dev.streamTokens r.release) ∧
  (staged = none ∨ (List.range 16).find? (a.engineFree p) = none → ∃ t, exec (.decodeStart p) s = .next t ∧ t.dev = a) ∧
  (taken = some u → s.dev.ingest.pendingKeys = [] →
    (s.dev.isHeld (.engine p e) = false → s.dev.ringWaits r = false →
      ((decodeUse u).elems.any (·.2) = false ∨ s.dev.refSound u = true) →
      ∃ t, exec (.decodeComplete p e cycles) s = .next t ∧ put t s.dev (decodeUse u)) ∧
    (s.dev.log.entries.length < 4096 → ∃ t x, exec (.ingBudgetExceeded p e) s = .next t ∧ t.dev.mem = s.dev.mem ∧
      t.dev.ingest.uses = s.dev.ingest.uses.filter (· != u) ∧
      t.dev.log.entries = s.dev.log.entries ++ [x] ∧ x.code = Code.ingBudgetExceeded ∧ x.position = BitVec.ofNat 64 u.sample)) ∧
  (taken = none ∨ s.dev.isHeld (.engine p e) = true ∨ s.dev.ringWaits r = true →
    exec (.decodeComplete p e cycles) s = .next s) ∧
  (missing = some u → a.engineFree p e = true → a.isHeld (.engine p e) = false → a.ringWaits r = false → a.refSound u = true →
    ∃ t, exec (.concealmentFill p e) s = .next t ∧
      put t a ⟨List.replicate (u.sizes.foldl (· * ·) 1) (0, true), 0, false⟩) ∧
  (missing = none → ∃ t, exec (.concealmentFill p e) s = .next t ∧ t.dev = a)

/-- Records (R285, R286, R289, R300, R301): a complete record is delivered with its uses' output and its directory, its uses
leave and the recipe's token is posted; under packing it becomes the next segment of the row, and a row whose step is over
is delivered. While the aligner holds, or the ring's memory is stopped, nothing is. A period ends (R284, R302, R303): the
next begins, no unsettled key of the ended one still stages, and INGEST_CREDIT is owed to both host pairs; it goes to every
peer of a pair that is owed it. -/
def Obligations.RecordDelivery : Prop :=
  (∀ (s : State) (r : Recipe),
  let a := s.dev.absorbReleases r
  let n := a.nextKey r
  let g := s.dev.ingest
  let ready := ∀ e, e < r.entries → a.ingest.complete n e = true
  let outs := (List.range r.entries).filterMap (firstUse a.ingest n)
  let len := fun (u : Use) => min (s.dev.entry u.entry).cw (nth 0 u.sizes 0) * (s.dev.entry u.entry).ch * (s.dev.entry u.entry).eb
  let base := slotBase r g.recordsDelivered
  s.dev.recipe = some r →
  (s.dev.isHeld .aligner = true ∨ a.ringWaits r = true → ∃ t, exec .recordDeliver s = .next t ∧ t.dev = a) ∧
  (s.dev.isHeld .aligner = false → a.ringWaits r = false →
  (r.packing = false → ready → ∃ t, exec .recordDeliver s = .next t ∧
    t.dev.mem = memWrite (outs.foldl (fun m u => (List.range (s.dev.entry u.entry).planes).foldl (fun m i =>
        memWrite m (slotBase r u.key + (s.dev.entry u.entry).outOff + i * (s.dev.entry u.entry).pitch)
          (sub u.data (i * len u) (len u))) m) s.dev.mem) (slotBase r n) (a.directory r n) ∧
    t.dev.ingest.delivered = g.delivered ++ [n] ∧ t.dev.ingest.recordsDelivered = g.recordsDelivered + 1 ∧
    (g.pendingKeys = [] → ∀ u ∈ t.dev.ingest.uses, u.key ≠ n) ∧ a.Posted t.dev r.token) ∧
  (r.packing = false → ¬ready → ∃ t, exec .recordDeliver s = .next t ∧ t.dev = a) ∧
  (∀ u, let e := s.dev.entry 0
    let x := e.tokens u
    r.packing = true → ready → firstUse a.ingest n 0 = some u →
    (∀ k, g.rowSegs.head? = some k → k.1 / r.nRec = n / r.nRec) → g.rowFilled + x < r.rowLen →
    g.rowSegs.length + 1 < 65535 → a.slotFree r g.recordsDelivered = true →
    (∃ i, i < r.nRec ∧ g.period * r.nRec + i ∉ g.delivered ++ [n]) →
    ∃ t, exec .recordDeliver s = .next t ∧ t.dev.ingest.rowSegs = g.rowSegs ++ [(n, u.concealed)] ∧
      t.dev.ingest.rowFilled = g.rowFilled + x ∧ t.dev.ingest.delivered = g.delivered ++ [n] ∧
      t.dev.ingest.recordsDelivered = g.recordsDelivered ∧ (∀ v ∈ t.dev.ingest.uses, v.key ≠ n) ∧
      t.dev.mem = (List.range x).foldl (fun m i =>
        memWrite (memWrite m (base + r.marks + 2 * (g.rowFilled + i)) (leBytes 2 (g.rowSegs.length + 1)))
          (base + r.positions + 4 * (g.rowFilled + i)) (leBytes 4 i))
        ((List.range e.c).foldl (fun m c => memWrite m (base + e.outOff + c * e.pitch + g.rowFilled * e.eb)
          (sub u.data (c * x * e.eb) (x * e.eb))) s.dev.mem)) ∧
  (∀ k, r.packing = true → ¬ready → g.rowSegs.head? = some k → k.1 / r.nRec ≠ n / r.nRec → k.1 / r.nRec < g.period →
    ∃ t, exec .recordDeliver s = .next t ∧ t.dev.ingest.rowSegs = [] ∧ t.dev.ingest.rowFilled = 0 ∧
      t.dev.ingest.recordsDelivered = g.recordsDelivered + 1 ∧ t.dev.ingest.delivered = g.delivered ∧ a.Posted t.dev r.token))) ∧
  (∀ (s : State),
  (∀ r, s.dev.recipe = some r → s.dev.ingest.running = true → 0 < r.nRec → ∃ t, exec .periodEnd s = .next t ∧
    t.dev.ingest.period = s.dev.ingest.period + 1 ∧ t.dev.ingest.running = true ∧
    t.dev.ingest.creditDue = [0, 1].filterMap s.dev.pairOf ∧
    (∀ u ∈ t.dev.ingest.uses, u.stage = 0 → u.key / r.nRec = s.dev.ingest.period → s.dev.ingest.settled u.key = true) ∧
    (r.packing = false → t.dev.mem = s.dev.mem) ∧ t.dev.ingest.delivered = s.dev.ingest.delivered) ∧
  (s.dev.recipe = none ∨ s.dev.ingest.running = false → exec .periodEnd s = .next s) ∧
  (∀ pair, let ps := s.dev.peersOf (s.dev.roleOf pair)
    pair ∈ s.dev.ingest.creditDue → (ps.map (fun x => flowKey pair 128 x.index)).Nodup →
    ∃ t, exec (.ingestCredit pair) s = .next t ∧ pair ∉ t.dev.ingest.creditDue ∧ t.dev.mem = s.dev.mem ∧
      (∀ q ∈ s.dev.ingest.creditDue, q ≠ pair → q ∈ t.dev.ingest.creditDue) ∧
      (∀ x ∈ ps, s.dev.Sent t.dev (flowKey pair 128 x.index) 0x21 s.dev.creditPayload)) ∧
  (∀ pair, pair ∉ s.dev.ingest.creditDue → exec (.ingestCredit pair) s = .next s))

/-! ## Gradient exchange and update (R310 to R341) -/

/-- The sender reads a bundle's contribution, sends it to its owner or keeps it, and leaves its gradient range zero and every
other byte as it was (R318, R320, R322); while the tensor is not ready, its memory is stopped or holds no sound data, or the
flow has no credit, it waits. The update engine takes the oldest bundle whose signs are known (R331 to R333): it writes each
element's new master weight and working copies, and nothing else, and the bundle counts as updated. At shed level 4, behind
a checkpoint that has not copied the bundle, and while its memory is stopped or holds no sound data, it waits (R51, R54,
R338, R373); a working copy without memory holds it (R33). -/
def Obligations.BundlesOut : Prop :=
  (∀ (s : State) (p b : Nat) (tr : TensorRec),
  let i := (s.dev.pdie p).sendTensor
  let bundle := tr.b0 + b
  let k := s.dev.redFlow true false bundle (s.dev.shardOf bundle)
  let sat := if b = 0 then (s.dev.takeSat tr.id).2 else 0
  let inp := { (s.dev.readContribution tr b).1 with saturation := min 65535 sat }
  let lo := tr.grad + 4096 * b
  let n := min 4096 (roundUp (2 * tr.n) 512 - 4096 * b)
  let Cleared := fun (t : State) => (∀ a, lo ≤ a ∧ a < lo + n → memGet t.dev.mem a = 0) ∧ s.dev.SameOutside t.dev lo n
  let goes := s.dev.waitsForDie tr.grad = none ∧ s.dev.sound lo n = true
  p < 2 → s.dev.running = true → s.dev.isHeld (.reductionSender p) = false → s.dev.tensorRecs[i]? = some tr →
  (s.dev.reduction.readied.contains i = false → s.dev.tokenMet tr.ready 0 = false →
    exec (.reductionSendBundle p) s = .next s) ∧
  ((s.dev.reduction.readied.contains i = true ∨ s.dev.tokenMet tr.ready 0 = true) → s.dev.nextSend p tr = some b →
  (¬goes ∨ (s.dev.shardOf bundle ≠ s.dev.replica ∧ s.dev.hasCredit k (24 + 512 * maskCount inp.mask) = false) →
    ∃ t, exec (.reductionSendBundle p) s = .next t ∧ t.dev.mem = s.dev.mem ∧ t.dev.pdies = s.dev.pdies ∧ t.dev.net = s.dev.net) ∧
  (goes → s.dev.backed lo n = true →
  ((s.dev.shardOf bundle ≠ s.dev.replica ∨ s.dev.isBackup = true) → s.dev.hasCredit k (24 + 512 * maskCount inp.mask) = true →
    ∃ t, exec (.reductionSendBundle p) s = .next t ∧ Cleared t ∧
      s.dev.Sent t.dev k 0x32 (s.dev.reducePayload false bundle inp)) ∧
  (s.dev.shardOf bundle = s.dev.replica → s.dev.isBackup = false →
    ∃ t, exec (.reductionSendBundle p) s = .next t ∧ Cleared t ∧
      (t.dev.pdie p).own = (s.dev.pdie p).own ++ [(false, bundle, inp)] ∧ t.dev.net = s.dev.net)))) ∧
  (∀ (s : State) (p i : Nat) (x : SignedBundle) (rest : List SignedBundle) (tr : TensorRec),
  let bases := tr.bases.filter (· != 0)
  let off := x.bundle - tr.b0
  let waits := s.dev.isHeld (.update p) = true ∨ 4 ≤ s.dev.power.level ∨ s.dev.workingWaits tr = true ∨
    s.dev.copyPending p x.bundle = true ∨ ∃ e ∈ s.dev.updateReads tr x, s.dev.sound e.1 e.2 = false
  ((s.dev.pdie p).ready = [] → exec (.updateBundle p) s = .next s) ∧
  ((s.dev.pdie p).ready = x :: rest → s.dev.tensorOfBundle x.bundle = some (i, tr) →
    (waits → exec (.updateBundle p) s = .next s) ∧
    (¬waits → (∃ a ∈ bases, s.dev.backed (a + 4096 * off) 2 = false) → ∃ t, exec (.updateBundle p) s = .next t ∧
      t.dev.mem = s.dev.mem ∧ (t.dev.pdie p).ready = x :: rest ∧ s.dev.NewHold t.dev Code.memAddressUnbacked (.update p)) ∧
    (¬waits → (∀ a ∈ bases, s.dev.backed (a + 4096 * off) 2 = true) →
  ∃ t, exec (.updateBundle p) s = .next t ∧ (t.dev.pdie p).ready = rest ∧
    (t.dev.pdie p).updated = (s.dev.pdie p).updated + 1 ∧ t.dev.job.updatedAny = true ∧
    x.bundle ∈ t.dev.reduction.bundlesDone ∧
    t.dev.mem = (s.dev.updateElems tr x (s.dev.weightAt tr x.bundle)).foldl (fun m e =>
      bases.foldl (fun m a => memWrite m (a + 2 * (2048 * off + e.1)) (leBytes 2 e.2.2.2))
        (if tr.noMaster then m else memWrite m (s.dev.masterSlot x.bundle + 4 * e.1) (leBytes 4 e.2.2.1.toNat))) s.dev.mem)))

/-- The window of a round closes (R327, R329): with a place missing the round holds; with every place there by its primary or
its backup it is done, and the combined bundle goes on to its signs, to its own home, or to another home. The bundle that
combines a round's inputs (R321, R324): its checksum is that of its values when every input's is, and its mask holds what
any input's holds. -/
def Obligations.RoundClose : Prop :=
  (∀ (s : State) (p b : Nat) (ph : Bool) (r : Round),
  let absent := (s.dev.places ph).filter (fun x => (r.primary x).isNone)
  let missing := absent.filter (fun x => (r.backupOf x).isNone)
  let c := combine ((s.dev.places ph).filterMap r.used)
  s.dev.round p s.dev.job.step b ph = some r → r.closed = false → r.done = false → r.inputs ≠ [] →
  s.dev.isHeld (.round p b ph) = false →
  (missing ≠ [] → ∃ t, exec (.roundWindowClose p b ph) s = .next t ∧ t.dev.mem = s.dev.mem ∧
    t.dev.round p s.dev.job.step b ph = some { r with closed := true } ∧
    s.dev.NewHold t.dev Code.redContributionMissing (.round p b ph)) ∧
  (missing = [] → ∃ t, exec (.roundWindowClose p b ph) s = .next t ∧ t.dev.mem = s.dev.mem ∧
    t.dev.round p s.dev.job.step b ph = some { r with closed := true, done := true } ∧
    (ph = true → (t.dev.pdie p).ready = (s.dev.pdie p).ready ++
      [⟨b, c.mask, c.contributors, c.saturation, c.values.map Int.sign⟩]) ∧
    (ph = false → s.dev.homeOf b = s.dev.ringPos → (t.dev.pdie p).own = (s.dev.pdie p).own ++
      [(true, b, { c with place := s.dev.homeOf b })]) ∧
    (ph = false → s.dev.homeOf b ≠ s.dev.ringPos →
      s.dev.Sent t.dev (s.dev.redFlow false false b (s.dev.homeOf b)) 0x32 (s.dev.reducePayload true b c)))) ∧
  (∀ (l : List RoundInput),
  (∀ i ∈ l, i.mask < 256 ∧ i.values.length = 256 * maskCount i.mask ∧ i.checksum = checksumOf i.values) →
  (combine l).checksum = checksumOf (combine l).values ∧ (combine l).values.length = 256 * maskCount (combine l).mask ∧
  (∀ k, k < 8 → (bit (combine l).mask k = true ↔ ∃ i ∈ l, bit i.mask k = true)) ∧
  (∀ k j, k < 8 → j < 256 → nth 0 ((combine l).chunk k) j = sumInts (l.map (fun i => nth 0 (i.chunk k) j))))

/-! ## Jobs, operations and checkpoints (R345 to R376) -/

/-- Admission and held starts (R27, R346, R352, R353): an image that passes every check is admitted and no other state of the
module changes; one that fails is refused and discarded; before full service one that passes the first checks waits for the rest, and
while A0 is parked none is read (R54). A held JOB_START is carried out in full service. A silent peer is recorded, and a mapped peer that has not answered is sent a new HELLO. -/
def Obligations.JobStarts : Prop := ∀ (s : State),
  let r := if s.dev.job.checked then (none, s.dev.job) else s.dev.admitEarly
  let readable := s.dev.job.checked = true ∨ s.dev.waitsForDie stagingBase = none
  (s.dev.job.state ≠ 2 ∨ ¬readable → exec .admissionComplete s = .next s) ∧
  (s.dev.job.state = 2 → readable → r.1 = none → s.dev.boot.service ≠ 2 → ∃ t, exec .admissionComplete s = .next t ∧
    t.dev = { s.dev with job := r.2 }) ∧
  (s.dev.job.state = 2 → readable → r.1 = none → s.dev.boot.service = 2 →
    (({ s.dev with job := r.2 } : Device).admitLate = [] → ∃ t, exec .admissionComplete s = .next t ∧
      t.dev = { s.dev with job := { r.2 with state := 3 }, net := { s.dev.net with statusDue := true } }) ∧
    (({ s.dev with job := r.2 } : Device).admitLate ≠ [] → ∃ t, exec .admissionComplete s = .next t ∧
      t.dev.job.state = 4 ∧ t.dev.job.image = [] ∧ t.dev.mem = s.dev.mem)) ∧
  (s.dev.job.state = 2 → readable → r.1 ≠ none → ∃ t, exec .admissionComplete s = .next t ∧ t.dev.job.state = 4 ∧
    t.dev.job.image = [] ∧ t.dev.mem = s.dev.mem) ∧
  (∀ k m rest, s.dev.job.deferredStarts = (k, m) :: rest →
    (s.dev.boot.service ≠ 2 → exec .deferredJobStart s = .next s) ∧
    (s.dev.boot.service = 2 → s.dev.standoff = false → s.dev.job.state ≠ 2 → ∃ t, exec .deferredJobStart s = .next t ∧
      t.dev = ({ s.dev with job := { s.dev.job with deferredStarts := rest } } : Device).carryStart k m ∧
      t.dev.job.deferredStarts = rest)) ∧
  (∀ k, s.dev.job.exchanging = true → k ∈ s.dev.mappedPeers → k ∉ s.dev.job.answered →
    (s.dev.log.entries.length < 4096 → ∃ t, exec (.jobPeerSilent k) s = .next t ∧
      s.dev.NewEntry t.dev Code.jobPeerSilent ∧ t.dev.job = s.dev.job ∧ t.dev.mem = s.dev.mem) ∧
    ((s.dev.flow k).unacked.find? (fun x => x.kind == 0x01) = none → ∃ t, exec (.helloResend k) s = .next t ∧
      s.dev.OnlyNet t.dev ∧ s.dev.Sent t.dev k 0x01 (s.dev.helloPayload (keyPair k) false)))

/-- The end of a step (R351, R357, R461): the step's operation is done, the number advances, every program begins again and a new
operation runs; at the limit, without a final checkpoint, the job ends and its reset runs, which leaves the HBM zero when it
completes. When a thermos is due a new one starts (R371). (No message waits in a buffer.) -/
def Obligations.StepBoundary : Prop := ∀ (s : State),
  (∀ e ∈ s.dev.net.flows, e.2.buffer = []) → s.dev.Quiet →
  (s.dev.stepOver = true → s.dev.job.thermosAsked = false → s.dev.thermosInterval ≠ 0 → s.dev.liveOp 2 = none →
    (s.dev.job.step + 1) % s.dev.thermosInterval = 0 → s.dev.stepLimit = 0 → ∃ t n, exec .stepBoundary s = .next t ∧
      t.dev.mem = s.dev.mem ∧ t.dev.job.step = s.dev.job.step + 1 ∧ n ∈ t.dev.ops ∧ opKind n.handle = 2 ∧
      n.step = s.dev.job.step + 1 ∧ ∀ p, p < 2 → (t.dev.pdie p).copyNext = 0 ∧ (t.dev.pdie p).mirrorNext = 0) ∧
  (∀ o, s.dev.stepOver = true → s.dev.stepOp = some o → (∀ x ∈ s.dev.ops, opKind x.handle = 1 → x.handle = o.handle) →
    s.dev.job.thermosAsked = false → s.dev.thermosInterval = 0 →
    (s.dev.stepLimit = 0 → ∃ t n, exec .stepBoundary s = .next t ∧ t.dev.mem = s.dev.mem ∧
      t.dev.job.step = s.dev.job.step + 1 ∧ t.dev.job.state = 6 ∧ t.dev.stepOp = some n ∧
      n.step = s.dev.job.step + 1 ∧ n.passed = 0 ∧
      (∃ x ∈ t.dev.endedOps, x.handle = o.handle ∧ x.state = 4) ∧
      (∀ d q, (t.dev.quad d q).plays = [] ∧ (t.dev.quad d q).ended = false ∧
        (t.dev.quad d q).regs = (s.dev.quad d q).regs) ∧
      t.dev.stepTokens = s.dev.stepTokens ∧
      Tab.get 0 t.dev.counters 0x50100 = Tab.get 0 s.dev.counters 0x50100 + 1) ∧
    (s.dev.stepLimit = s.dev.job.step + 1 → s.dev.finalThermos = false → ∃ t, exec .stepBoundary s = .next t ∧
      t.dev.job.state = 8 ∧ t.dev.job.resetting = true ∧ t.dev.stepOp = none)) ∧
  (s.dev.stepOver = false → exec .stepBoundary s = .next s) ∧
  (s.dev.job.resetting = true → ∃ t, exec .jobResetComplete s = .next t ∧ t.dev.job.resetting = false ∧
    (∀ a, a < 4 * hbmSize → memGet t.dev.mem a = 0) ∧ (∀ a, 4 * hbmSize ≤ a → memGet t.dev.mem a = memGet s.dev.mem a))

/-- Stop points (R366, R367, R370): an operation being suspended is suspended; a checkpoint, a scrub or a quote being cancelled ends
FAILED; a step being cancelled stops at a pass boundary, FAILED, and the job is HELD, at the next step when it had updated a bundle
and those updates are done; until then it goes on. -/
def Obligations.StopPoints : Prop := ∀ (s : State) (h : Nat) (o : Op),
  let Same := ∃ t, exec (.operationStopPoint h) s = .next t ∧ t.dev.ops = s.dev.ops ∧ t.dev.job = s.dev.job ∧ t.dev.mem = s.dev.mem
  s.dev.ops.find? (fun o => o.handle == h) = some o → s.dev.panel.removing = false → s.dev.job.ending = false →
  (o.state = 1 → (opKind h ≠ 1 ∨ s.dev.quiet = true) → ∃ t, exec (.operationStopPoint h) s = .next t ∧
    { o with state := 2 } ∈ t.dev.ops ∧ t.dev.job = s.dev.job ∧ t.dev.mem = s.dev.mem) ∧
  (o.state = 1 → opKind h = 1 → s.dev.quiet = false → Same) ∧
  (o.state = 3 → opKind h ≠ 1 → opKind h ≠ 3 → ∃ t, exec (.operationStopPoint h) s = .next t ∧ t.dev.mem = s.dev.mem ∧
    (∀ x ∈ t.dev.ops, x.handle ≠ h) ∧ (∃ x ∈ t.dev.endedOps, x.handle = h ∧ x.state = 5 ∧ x.code = Code.jobOpCancelled)) ∧
  (o.state = 3 → opKind h = 1 → s.dev.quiet = false ∨ s.dev.stageAcked = false → Same) ∧
  (o.state = 3 → opKind h = 1 → s.dev.job.state = 6 → s.dev.quiet = true → s.dev.stageAcked = true →
    (s.dev.job.cancelled = false ∨ ∀ i ∈ s.dev.reduction.readied, i ∈ s.dev.reduction.tensorsDone) →
    ∃ t, exec (.operationStopPoint h) s = .next t ∧ t.dev.mem = s.dev.mem ∧
      t.dev.job.state = 7 ∧ t.dev.job.step = s.dev.job.step + (if s.dev.job.cancelled then 1 else 0) ∧
      t.dev.quiet = true ∧ (∀ x ∈ t.dev.ops, x.handle ≠ h) ∧
      (∃ x ∈ t.dev.endedOps, x.handle = h ∧ x.state = 5) ∧ s.dev.NewHold t.dev Code.jobOpCancelled .job) ∧
  (o.state = 0 → Same)

/-- Checkpoints (R371 to R374): the next record of a P-die is written at its place in the generation and nowhere else; the mirror
sends the next 8 KiB; a mirror that cannot be sent ends the checkpoint. A restore takes its step number from a sound generation
and then one slot at a time; without one the job stays admitted (R376). What lies in a parked die, or holds no sound data, is waited
for. -/
def Obligations.Checkpoints : Prop := ∀ (s : State) (p : Nat) (o : Op),
  let i := (s.dev.pdie p).copyNext
  let base := s.dev.thermosBase p
  let n := s.dev.slotCount
  let j := (s.dev.pdie p).mirrorNext
  let data := s.dev.read (base + 8192 * j) (min 8192 (s.dev.genLen - 8192 * j))
  p < 2 → s.dev.job.ending = false →
  (s.dev.liveOp 2 = some o → s.dev.isHeld (.thermos p) = true ∨ s.dev.job.thermosAsked = true ∨ o.state ≠ 0 ∨
    (2 ≤ i ∧ s.dev.slotWaits p (i - 2) = true) → exec (.thermosRecordWrite p) s = .next s) ∧
  (s.dev.liveOp 2 = some o → o.state = 0 → s.dev.job.thermosAsked = false → s.dev.isHeld (.thermos p) = false →
    (i = 0 → ∃ t, exec (.thermosRecordWrite p) s = .next t ∧ (t.dev.pdie p).copyNext = 1 ∧
      t.dev.mem = memWrite s.dev.mem base (s.dev.thermosHeader p 0 o.step ++ List.replicate 4000 0)) ∧
    (i = 1 → ∃ t, exec (.thermosRecordWrite p) s = .next t ∧ (t.dev.pdie p).copyNext = 2 ∧
      t.dev.mem = memWrite s.dev.mem (base + 4096) (List.replicate 61440 0 ++ s.dev.tensorTable)) ∧
    (2 ≤ i → i < n + 2 → s.dev.slotWaits p (i - 2) = false → ∃ t, exec (.thermosRecordWrite p) s = .next t ∧
      (t.dev.pdie p).copyNext = i + 1 ∧ t.dev.read (base + slotOff (i - 2)) 8192 = s.dev.slotData p (i - 2) ∧
      s.dev.SameOutside t.dev (base + slotOff (i - 2)) 8192) ∧
    (i = n + 2 → s.dev.slotWaits p n = false → ∃ t, exec (.thermosRecordWrite p) s = .next t ∧
      (t.dev.pdie p).copyNext = n + 3 ∧
      t.dev.mem = memWrite (memWrite s.dev.mem (base + 96) (s.dev.genDigest base)) (base + 5) [1])) ∧
  (s.dev.liveOp 2 = some o → o.state = 0 → o.lo ≠ 1 → 1 < s.dev.ringS → i = n + 3 → j < s.dev.mirrorCount →
    s.dev.hasCredit s.dev.mirrorOut 8208 = true →
    s.dev.sound (base + 8192 * j) (min 8192 (s.dev.genLen - 8192 * j)) = true → ∃ t, exec (.thermosMirrorSend p) s = .next t ∧ t.dev.mem = s.dev.mem ∧
      (t.dev.pdie p).mirrorNext = j + 1 ∧
      s.dev.Sent t.dev s.dev.mirrorOut 0x36 (leBytes 8 (8192 * j) ++ List.replicate 8 0 ++ data)) ∧
  (s.dev.liveOp 2 = some o → o.lo ≠ 1 → 1 < s.dev.ringS → s.dev.pairUp s.dev.mirrorOut = false →
    (∀ p, p < 2 → (s.dev.pdie p).copyNext = n + 3) → ∃ t, exec .mirrorTimeout s = .next t ∧ t.dev.mem = s.dev.mem ∧
      (∀ x ∈ t.dev.ops, x.handle ≠ o.handle) ∧ (∃ x ∈ t.dev.endedOps, x.handle = o.handle ∧ x.state = 4)) ∧
  (s.dev.liveOp 3 = some o → o.state = 0 → s.dev.job.state = 5 →
    ((s.dev.pdie p).restoreNext = 0 → s.dev.restoreOk = true → ∃ t, exec (.thermosRestoreRecord p) s = .next t ∧
      t.dev.job.step = fld (s.dev.read (s.dev.thermosBase 0) 96) 40 6 ∧ (t.dev.pdie 0).restoreNext = 1 ∧
      (t.dev.pdie 1).restoreNext = 1) ∧
    ((s.dev.pdie p).restoreNext = 0 → s.dev.restoreOk = false → s.dev.ops.filter (fun x => opKind x.handle == 3) = [o] →
      ∃ t, exec (.thermosRestoreRecord p) s = .next t ∧ t.dev.job.state = 3 ∧ t.dev.liveOp 3 = none) ∧
    (0 < (s.dev.pdie p).restoreNext → (s.dev.pdie p).restoreNext < n + 1 →
      s.dev.restoreWaits p ((s.dev.pdie p).restoreNext - 1) = false → ∃ t, exec (.thermosRestoreRecord p) s = .next t ∧
      (t.dev.pdie p).restoreNext = (s.dev.pdie p).restoreNext + 1 ∧
      t.dev.mem = (s.dev.restoreSlot p ((s.dev.pdie p).restoreNext - 1)).mem))

/-! ## Requests of the hosts (R417, R425 to R434, R459 to R465, R507) -/

/-- READ and STATUS (R427, R428, R429): a read of memory that is backed, sound and trusted is answered with the bytes, and
changes nothing but the network side; one that may not be is answered with a code; one that must wait for a pass or a parked die
waits, and is answered when the pass has ended (R40, R54). A recovery loader answers no READ of memory (R451). -/
def Obligations.ReadRequests : Prop := ∀ (s : State) (k : Nat) (m : Msg),
  let a := accessAddr m
  let n := accessLen m
  let Reply := fun (t : State) (code : Nat) (data : List Byte) =>
    s.dev.OnlyNet t.dev ∧ s.dev.Sent t.dev k 0x06 (replyBytes m code data)
  let sound := s.dev.damaged.find? (fun w => overlap (64 * w) 64 a n) = none
  (s.dev.Due 0x04 k m → s.dev.Quiet → inStatus a = false → (s.dev.mp (s.dev.answerer k)).run = 3 →
    s.dev.mustWait 0x04 (s.dev.readGate a) m = false → ∃ t, exec (.read m) s = .next t ∧ s.dev.OnlyNet t.dev) ∧
  (s.dev.Answers 0x04 k m → s.dev.Quiet → accessOk false m = true → inStatus a = false →
    (s.dev.mustWait 0x04 (s.dev.readGate a) m = false →
      (s.dev.backed a n = true → s.dev.trusted k m = true → sound → ∃ t, exec (.read m) s = .next t ∧ Reply t 0 (s.dev.read a n)) ∧
      (s.dev.backed a n = true → s.dev.trusted k m = false →
        ∃ t, exec (.read m) s = .next t ∧ Reply t Code.netAccessDenied []) ∧
      (s.dev.backed a n = false → ∃ t, exec (.read m) s = .next t ∧ Reply t Code.memAddressUnbacked [])) ∧
    (s.dev.mustWait 0x04 (s.dev.readGate a) m = true → ∃ t, exec (.read m) s = .next t ∧ s.dev.OnlyNet t.dev ∧
      t.dev.net.requests = [(k * 256 + 4, s.dev.readGate a, m)])) ∧
  (∀ g gate, g < 576 → s.dev.net.requests = [(k * 256 + 4, gate, m)] → s.dev.mustWait 0x04 gate m = true →
    exec (.inputBankReadServed g) s = .next s) ∧
  (∀ g gate, g < 576 → s.dev.net.requests = [(k * 256 + 4, gate, m)] → s.dev.mustWait 0x04 gate m = false →
    (s.dev.mp (s.dev.answerer k)).run ≠ 3 → accessOk false m = true → inStatus a = false → s.dev.backed a n = true → s.dev.trusted k m = true → sound →
    ∃ t, exec (.inputBankReadServed g) s = .next t ∧ Reply t 0 (s.dev.read a n) ∧ t.dev.net.requests = []) ∧
  (s.dev.Due 0x07 k m → s.dev.Quiet → m.payload = [] → ∃ t, exec (.status m) s = .next t ∧ s.dev.OnlyNet t.dev ∧
    s.dev.Sent t.dev k 0x07 (s.dev.statusPayload (s.dev.answerer k)))

/-- WRITE (R16, R40, R396, R398, R427, R428, R472, R503, R508): a permitted write stores its bytes at its address and nothing else; a
refused one stores nothing and is answered with a code, and one into an input bank or accumulator is recorded as held. The five registers that may be written take the effect of their rule. -/
def Obligations.WriteRequests : Prop := ∀ (s : State) (k : Nat) (m : Msg),
  let a := accessAddr m
  let n := accessLen m
  let v := fld m.payload 16 4
  let Reply := fun (t : State) (code : Nat) => s.dev.Sent t.dev k 0x06 (replyBytes m code [])
  let register := fun (r : Nat) => a = r ∧ n = 4
  s.dev.Answers 0x05 k m → s.dev.Quiet → accessOk true m = true →
  (writableReg a = true ↔ a = resetCtrl ∨ a = logClearReg ∨ a = counterFreeze ∨ a = profileReq ∨ a = lightTest) ∧
  (inStatus a = false → s.dev.writeWaits a n = false →
    (s.dev.writable a n = true → s.dev.writeDenied a n = false → s.dev.trusted k m = true → ∃ t, exec (.write m) s = .next t ∧
      t.dev = { s.dev with mem := memWrite s.dev.mem a (writeData m), damaged := t.dev.damaged, net := t.dev.net,
                           counters := t.dev.counters } ∧ Reply t 0) ∧
    (s.dev.writable a n = true → s.dev.writeDenied a n = true ∨ s.dev.trusted k m = false →
      ∃ t, exec (.write m) s = .next t ∧ s.dev.OnlyNet t.dev ∧ Reply t Code.netAccessDenied) ∧
    (s.dev.backed a n = false → ∃ t, exec (.write m) s = .next t ∧ s.dev.OnlyNet t.dev ∧ Reply t Code.memAddressUnbacked) ∧
    (s.dev.backed a n = true → s.dev.writable a n = false → s.dev.isHeld (.hostWrite k) = false →
      ∃ t, exec (.write m) s = .next t ∧ s.dev.OnlyLog t.dev ∧ s.dev.NewHold t.dev Code.memAddressUnbacked (.hostWrite k) ∧
        ∃ x ∈ (t.dev.flow k).unacked ++ (t.dev.flow k).waiting, x.kind = 0x06 ∧
          x.payload = replyBytes m Code.memAddressUnbacked [])) ∧
  (inStatus a = false → s.dev.writeWaits a n = true → ∃ t, exec (.write m) s = .next t ∧ s.dev.OnlyNet t.dev ∧
    ∃ gate, t.dev.net.requests = [(k * 256 + 5, gate, m)]) ∧
  (inStatus a = true → writableReg a = false → a + n ≤ statusBase + 2 ^ 32 →
    ∃ t, exec (.registerWriteOther m) s = .next t ∧ s.dev.OnlyNet t.dev ∧ Reply t Code.netAccessDenied) ∧
  (register counterFreeze → bit v 0 = true → ∃ t c, exec (.counterFreeze m) s = .next t ∧ Reply t 0 ∧
    t.dev = { s.dev with frozen := some c, net := t.dev.net, counters := t.dev.counters } ∧
    ∀ o, portCounter o = false → Tab.get 0 c o = Tab.get 0 s.dev.counters o) ∧
  (register counterFreeze → bit v 0 = false → ∃ t, exec (.counterUnfreeze m) s = .next t ∧ Reply t 0 ∧
    t.dev = { s.dev with frozen := none, net := t.dev.net, counters := t.dev.counters }) ∧
  (register lightTest → ∃ t, exec (.lightTest m) s = .next t ∧ Reply t 0 ∧
    t.dev = { s.dev with panel := { s.dev.panel with lightMode := bits v 1 0, lightDuration := bits v 9 2 },
                         net := t.dev.net, counters := t.dev.counters }) ∧
  (register profileReq → s.dev.trusted k m = true → ∃ t, exec (.profileReq m) s = .next t ∧ Reply t 0 ∧
    t.dev = { s.dev with power := { s.dev.power with request := if v % 4 = 3 then s.dev.power.request else v % 4 },
                         net := t.dev.net, counters := t.dev.counters }) ∧
  (register profileReq → s.dev.trusted k m = false → ∃ t, exec (.profileReq m) s = .next t ∧ s.dev.OnlyNet t.dev ∧
    Reply t Code.netAccessDenied) ∧
  (register logClearReg → s.dev.trusted k m = true → bits v 31 16 = 0x6C0E → bit v 0 = true → ∃ t,
    exec (.logClear m) s = .next t ∧ Reply t 0 ∧ t.dev = { s.dev with log := t.dev.log, net := t.dev.net, counters := t.dev.counters } ∧
    (s.dev.log.saving = true → t.dev.log = { s.dev.log with clearAfterSave := true }) ∧
    (s.dev.log.saving = false → t.dev.log.lost = 0 ∧
      t.dev.log.entries = s.dev.log.entries.filter (fun e => e.severity == 1 && !e.decided)))

/-- The actions of RESET_CTRL (R459 to R462, R465), written with the key on a trusted session: a warm reset, a port reset and a
job reset leave what their rules say; a hamper update begins, or is refused and leaves the flash as it was; Standby is entered
later or refused, and left on the management port. -/
def Obligations.ResetRequests : Prop := ∀ (s : State) (k : Nat) (m : Msg),
  let v := fld m.payload 16 4
  let Does := fun (x : Instr) (act : Nat) (P : State → Prop) => v % 16 = act → ∃ t, exec x s = .next t ∧ P t
  s.dev.Due 0x05 k m → s.dev.Quiet → accessOk true m = true → accessAddr m = resetCtrl → accessLen m = 4 →
  s.dev.trusted k m = true → bits v 31 16 = 0x4B7E → ((s.dev.mp (s.dev.answerer k)).run = 3 → v % 16 = 4) →
  Does (.warmReset m) 1 (fun t => t.dev.boot.warmReset = true ∧ t.dev.boot.cause = 2 ∧ t.dev.ops = [] ∧ t.dev.frozen = none ∧ t.dev.net.attested = [] ∧
    t.dev.job.state = 0 ∧ t.dev.net.requests = [] ∧ t.dev.power.request = s.dev.power.defaultProfile ∧
    t.dev.fuses = s.dev.fuses ∧ t.dev.boot.slotA = s.dev.boot.slotA ∧ t.dev.boot.slotB = s.dev.boot.slotB ∧
    (∀ a, a < 4 * hbmSize → memGet t.dev.mem a = 0) ∧
    (∀ a, lpBase ≤ a → a < lpBase + 2 * lpWindow → memGet t.dev.mem a = memGet s.dev.mem a)) ∧
  (∀ n, n = bits v 7 4 → (s.dev.port n).optic = false → Does (.portReset m) 2 (fun t => s.dev.OnlyNet t.dev)) ∧
  (∀ n, n = bits v 7 4 → (s.dev.port n).optic = true → (s.dev.port ((n + 8) % 16)).inUse = false →
    Does (.portReset m) 2 (fun t => t.dev.port n = { s.dev.port n with
        inUse := false, link := false, rate := 0, training := true, awaiting := false
        failed := (s.dev.port n).failed || (s.dev.port n).awaiting } ∧
      (∀ j, j ≠ n → t.dev.port j = s.dev.port j) ∧ t.dev.mem = s.dev.mem ∧ t.dev.log = s.dev.log)) ∧
  Does (.jobReset m) 3 (fun t => (s.dev.hasJob = true → t.dev.job.state = 0 ∧ t.dev.job.resetting = true ∧
      t.dev.stepOp = none ∧ t.dev.stepTokens = [] ∧ t.dev.streamTokens = []) ∧
    (s.dev.hasJob = false → s.dev.OnlyNet t.dev)) ∧
  (∀ slot, slot = bits v 8 8 →
    (∀ tag, s.dev.updateRefused (s.dev.answerer k) slot = some tag → Does (.hamperUpdate m) 4 (fun t =>
      s.dev.OnlyLog t.dev ∧ s.dev.Sent t.dev k 0x06 (replyBytes m Code.jobOpRefused []))) ∧
    (s.dev.updateRefused (s.dev.answerer k) slot = none → Does (.hamperUpdate m) 4 (fun t =>
      let c := checkSlot (s.dev.fuse (s.dev.answerer k)) s.dev.sourceImage
      let waits := s.dev.waitsForDie updateSource ≠ none
      (waits → (∃ o, t.dev.ops = s.dev.ops ++ [o] ∧ opKind o.handle = 4) ∧
        t.dev.boot = { s.dev.boot with updateSlot := slot, updateSector := 0 }) ∧
      (¬waits → c.failures = [] → (∃ o, t.dev.ops = s.dev.ops ++ [o] ∧ opKind o.handle = 4 ∧ o.state = 0) ∧
        t.dev.boot.updateSlot = slot ∧ t.dev.boot.updateSector = 1 ∧
        t.dev.boot.slotValid = putAt s.dev.boot.slotValid slot false) ∧
      (¬waits → c.failures ≠ [] → t.dev.boot = { s.dev.boot with updateSlot := 2, updateSector := 0 } ∧
        (∃ x ∈ t.dev.endedOps, opKind x.handle = 4 ∧ x.state = 5))))) ∧
  Does (.enterStandby m) 5 (fun t => (s.dev.standbyRefused = true → s.dev.OnlyLog t.dev) ∧
    (s.dev.standbyRefused = false → t.dev = { s.dev with boot := { s.dev.boot with standbyEntry := true }, net := t.dev.net,
                                                         counters := t.dev.counters })) ∧
  Does (.leaveStandby m) 6 (fun t =>
    (8 ≤ keyPair k ∧ s.dev.boot.service = 4 → t.dev.boot = { s.dev.boot with service := 0, cause := 3, stopBringUp := false }) ∧
    (¬(8 ≤ keyPair k ∧ s.dev.boot.service = 4) → s.dev.OnlyNet t.dev))

/-- Decisions (R431, R507): a decision that matches an undecided hold and is offered for its code is answered with 0 and takes
its effect: RETRY ends the hold and the unit goes on, ABORT resets the job, SKIP completes a held table, WAIT leaves a round to its
window; a primary is decided on an attested management session (R458). One that matches nothing is answered with 1. -/
def Obligations.Decisions : Prop := ∀ (s : State) (k dec : Nat) (m : Msg) (h : Hold) (x : Instr),
  let found := s.dev.log.holds.find? (fun h => decide (Code.wire h.code = fld m.payload 0 2) &&
    decide (h.dataPath.toNat = fld m.payload 4 4) && decide (h.position.toNat = fld m.payload 8 8))
  let Reply := fun (t : State) (r : Nat) =>
    s.dev.Sent t.dev k 0x16 (sub m.payload 0 3 ++ [BitVec.ofNat 8 r] ++ m.payload.drop 4)
  s.dev.Answers 0x16 k m → s.dev.Quiet → m.payload.length = 32 → zeros m.payload 3 1 = true → zeros m.payload 16 16 = true →
  fld m.payload 2 1 = dec →
  (dec, x) ∈ [(0, Instr.hostDecisionRetry m), (1, .hostDecisionAbort m), (2, .hostDecisionSkip m), (3, .hostDecisionWait m),
    (4, .hostDecisionPrimaryMp0 m), (5, .hostDecisionPrimaryMp1 m)] →
  (found = none → ∃ t, exec x s = .next t ∧ s.dev.OnlyNet t.dev ∧ Reply t 1) ∧
  (found = some h → Code.offers h.code h.tag (partialOf h.site) dec = false →
    ∃ t, exec x s = .next t ∧ s.dev.OnlyNet t.dev ∧ Reply t 2) ∧
  (found = some h → Code.offers h.code h.tag (partialOf h.site) dec = true →
    (dec = 0 → ((∃ d q e, h.site = .move d q e) ∨ (∃ d q c, h.site = .tableStart d q c) ∨ (∃ p e, h.site = .engine p e) ∨
        (∃ g j, h.site = .array g j) ∨ (∃ p, h.site = .update p) ∨ (∃ p, h.site = .reductionSender p) ∨
        h.site = .aligner ∨ (∃ d q c, h.site = .multicast d q c) ∨ (∃ d x, h.site = .carouselSend d x) ∨
        (∃ x, h.site = .stageSend x) ∨ (∃ p, h.site = .thermos p) ∨ (∃ x, h.site = .hostWrite x)) →
      ∃ t, exec x s = .next t ∧ t.dev = { s.dev with log := t.dev.log, net := t.dev.net, counters := t.dev.counters } ∧
        t.dev.log.holds = s.dev.log.holds.erase h ∧ Reply t 0) ∧
    (dec = 1 → ∃ t, exec x s = .next t ∧ t.dev.job.state = 0 ∧ t.dev.job.resetting = true ∧ t.dev.stepTokens = [] ∧
      (∀ y ∈ t.dev.log.holds, y.code = Code.bootStandoff)) ∧
    (dec = 2 → ∀ d q c i, h.site = .tableStart d q c → s.dev.heldIssue d q c 1 = some i → ∃ t, exec x s = .next t ∧
      t.dev.log.holds = s.dev.log.holds.erase h ∧ s.dev.Posted t.dev i.token ∧ t.dev.mem = s.dev.mem ∧
      (t.dev.quad d q).issues = (s.dev.quad d q).issues.filter (fun y => y.id != i.id) ∧ Reply t 0) ∧
    (dec = 2 → ∀ d q c l p, h.site = .walkPage d q c l p → ∃ t, exec x s = .next t ∧ t.dev.log.holds = s.dev.log.holds.erase h ∧
      t.dev.mem = s.dev.mem ∧ t.dev.quads = s.dev.quads ∧ Reply t 0 ∧
      ∀ e ∈ s.dev.streamMembers d q c, ∃ r, .walk r ∈ (t.dev.ctx (gOf d q e.1) c).items ++ (t.dev.ctx (gOf d q e.1) c).other ∧
        r.item = e.2.2.item ∧ p ∈ r.skipped) ∧
    (dec = 3 → ∀ p b ph r, h.site = .round p b ph → s.dev.round p s.dev.job.step b ph = some r →
      (∃ y ∈ s.dev.places ph, r.settled y = false) → ∃ t, exec x s = .next t ∧
      t.dev.log.holds = s.dev.log.holds.erase h ∧ t.dev.mem = s.dev.mem ∧
      t.dev.round p s.dev.job.step b ph = some { r with waitOk := true } ∧ Reply t 0) ∧
    (4 ≤ dec → keyPair k = (if dec = 4 then 8 else 10) → (k, m.src) ∈ s.dev.net.attested → s.dev.boot.heartbeatLost = true →
      ∃ t, exec x s = .next t ∧ Reply t 0 ∧
        t.dev = { s.dev with boot := { s.dev.boot with wantPrimary := some (dec - 4) }, net := t.dev.net,
                             counters := t.dev.counters }))

/-- ATTEND_GRANT (R432, R474, R475): a grant of a pending request parks the dies, suspends the step and stops bring-up; a refusal
ends the request; without a request nothing changes. -/
def Obligations.AttendAnswers : Prop := ∀ (s : State) (k : Nat) (m : Msg),
  s.dev.Answers 0x41 k m → s.dev.Quiet → m.payload.length = 8 → zeros m.payload 1 7 = true →
  (grantOf m = 1 → s.dev.panel.pending = true →
    ∃ t, exec (.attendGrant m) s = .next t ∧ t.dev.panel = { s.dev.panel with pending := false, presses := 0, removing := true } ∧
      t.dev.boot = { s.dev.boot with stopBringUp := true } ∧ t.dev.mem = s.dev.mem ∧
      (∀ d, d < 4 → 6 ∈ (t.dev.die d).parkCauses ∧ (t.dev.die d).power ≠ 0 ∧ (t.dev.die d).power ≠ 3) ∧
      (∀ o, t.dev.stepOp = some o → o.state ≠ 0)) ∧
  (grantOf m = 0 → s.dev.panel.pending = true → ∃ t, exec (.attendRefuse m) s = .next t ∧
    t.dev = { s.dev with panel := { s.dev.panel with pending := false, presses := 0 }, net := t.dev.net,
                         counters := t.dev.counters }) ∧
  (grantOf m = 1 → s.dev.panel.pending = false → ∃ t, exec (.attendGrant m) s = .next t ∧ s.dev.OnlyNet t.dev)

/-- Requests about jobs and operations (R53, R345, R352, R353, R366 to R368): a chunk of an image is stored where it belongs; a
start begins the job, a checkpoint or a scrub and is answered with its operation; an operation's state is changed, or only told. -/
def Obligations.JobRequests : Prop := ∀ (s : State) (k : Nat) (m : Msg),
  let b := m.payload
  let off := fld b 0 8
  let total := fld b 8 8
  let data := (b.drop 16).take 8192
  let Answer := fun (t : State) (o : Op) => ∃ p, s.dev.Sent t.dev k 0x15 p ∧ p.take 5 = leBytes 4 o.handle ++ [BitVec.ofNat 8 o.state]
  s.dev.Quiet →
  (s.dev.Answers 0x10 k m → s.dev.job.resetting = false → s.dev.waitsForDie stagingBase = none → 16 ≤ b.length → b.length ≤ 8208 → s.dev.backed stagingBase 1 = true →
    s.dev.job.state < 5 ∨ 7 < s.dev.job.state → off = 0 ∨ s.dev.job.state = 1 ∧ off = s.dev.job.received ∧ total = s.dev.job.total →
    4096 + trailerLen ≤ total → total ≤ 2 ^ 30 → off + data.length ≤ total →
    ∃ t, exec (.jobLoad m) s = .next t ∧ t.dev.mem = memWrite s.dev.mem (stagingBase + off) data ∧
      t.dev.job.received = off + data.length ∧ t.dev.job.total = total ∧
      t.dev.job.state = (if off + data.length = total then 2 else 1)) ∧
  (s.dev.Answers 0x11 k m → s.dev.boot.service ≠ 2 → fld b 4 1 = 0 → ∃ t, exec (.jobStart m) s = .next t ∧
    t.dev.job = { s.dev.job with deferredStarts := s.dev.job.deferredStarts ++ [(k, m)] } ∧ t.dev.ops = s.dev.ops ∧ t.dev.mem = s.dev.mem) ∧
  (s.dev.Answers 0x11 k m → s.dev.boot.service = 2 → startOk m = true →
    (∀ x, (fld b 4 1, x) ∈ [(0, Instr.jobStart m), (1, .jobStartRestore m)] → s.dev.job.state = 3 → s.dev.standoff = false →
      fld b 0 4 ≠ 0 → fld b 0 4 ≠ s.dev.job.lastEpoch → ∃ t, exec x s = .next t ∧ t.dev.job.epoch = fld b 0 4 ∧
        t.dev.job.step = 0 ∧ (t.dev.job.state = 5 ∨ (fld b 4 1 = 0 ∧ t.dev.job.state = 6)) ∧ t.dev.stepTokens = [] ∧
        t.dev.job.stores = s.dev.job.image ∧ (∃ o ∈ t.dev.ops, opKind o.handle = 1) ∧
        (fld b 4 1 = 1 → ∃ o ∈ t.dev.ops, opKind o.handle = 3 ∧ o.state = 0) ∧
        (∀ a, a < 4 * hbmSize → memGet t.dev.mem a = 0)) ∧
    (fld b 4 1 = 2 → s.dev.job.state = 6 → fld b 0 4 = s.dev.job.epoch →
      (s.dev.pdie 0).mirrorNext = 0 → (s.dev.pdie 1).mirrorNext = 0 →
      ∃ t o, exec (.jobStartThermos m) s = .next t ∧ t.dev.ops = s.dev.ops ++ [o] ∧ opKind o.handle = 2 ∧
        t.dev.job = { s.dev.job with thermosAsked := true } ∧ t.dev.mem = s.dev.mem ∧ Answer t o) ∧
    (fld b 4 1 = 3 → s.dev.job.state ≠ 2 → fld b 0 4 = (if s.dev.hasJob then s.dev.job.epoch else 0) →
      s.dev.scrubOk b = true → (s.dev.ops.filter (fun o => opKind o.handle == 5)).length < 4 →
      ∃ t o, exec (.jobStartScrub m) s = .next t ∧ t.dev.ops = s.dev.ops ++ [o] ∧ opKind o.handle = 5 ∧
        o.lo = fld b 8 6 ∧ o.hi = fld b 8 6 + fld b 16 8 ∧ o.next = o.lo ∧ t.dev.job = s.dev.job ∧ t.dev.mem = s.dev.mem ∧
        Answer t o)) ∧
  (∀ o, s.dev.findOp (fld b 0 4) = some o → s.dev.ops.filter (fun x => x.handle == o.handle) = [o] →
    b.length = 8 → zeros b 4 4 = true → o.handle % 2 ^ 24 ≠ 0 →
    opKind o.handle = 4 ∨ opKind o.handle = 5 →
    (s.dev.Answers 0x12 k m → o.state ≤ 2 → ∃ t y, exec (.opSuspend m) s = .next t ∧ y ∈ t.dev.ops ∧ Answer t y ∧
      y = { o with hostSuspended := true, state := max 1 o.state, reason := 1 }) ∧
    (s.dev.Answers 0x13 k m → o.state ≤ 2 → ∃ t y, exec (.opResume m) s = .next t ∧ y ∈ t.dev.ops ∧ Answer t y ∧
      y = { o with hostSuspended := false, state := 0, reason := 0 }) ∧
    (s.dev.Answers 0x14 k m → o.state ≤ 2 → ∃ t y, exec (.opCancel m) s = .next t ∧ y ∈ t.dev.ops ∧ Answer t y ∧
      y = { o with state := 3, reason := 1 }) ∧
    (s.dev.Answers 0x15 k m → ∃ t, exec (.opState m) s = .next t ∧ s.dev.OnlyNet t.dev ∧
      s.dev.Sent t.dev k 0x15 (s.dev.opState o 0)))

/-- Sessions (R411, R417, R419, R424, R426, R434, R454): an ACK releases what it acknowledges and grants anew; an unlisted type is
recorded; a HELLO is answered; a request to quote begins one; an inference request takes a slot of the mailbox, and its reply goes
out when it is ready. -/
def Obligations.Sessions : Prop := ∀ (s : State) (k : Nat) (m : Msg),
  (s.dev.Arrives 0x3F k m → s.dev.Quiet → (s.dev.flow k).waiting = [] → zeros m.payload 6 2 = true →
    (m.retx = false → ∃ t, exec (.ack m) s = .next t ∧ s.dev.OnlyNet t.dev ∧ (t.dev.flow k).window = some (m.grant * 4096) ∧
      (t.dev.flow k).unacked = (s.dev.flow k).unacked.filter (fun x => !seqBelow x.seq m.ackSeq) ∧
      (t.dev.flow k).held = ((s.dev.flow k).held || m.hold) ∧
      (t.dev.flow k).rate = if fld m.payload 0 4 = 0 then (s.dev.flow k).rate else (s.dev.flow k).rate / 2) ∧
    (m.retx = true → ∃ t, exec (.ack m) s = .next t ∧ s.dev.OnlyNet t.dev ∧ (t.dev.flow k).held = false)) ∧
  (∀ peer, s.dev.off = false → (s.dev.port m.port).inUse = true → m.intact = true → s.dev.peerIndex m.port m.src = some peer →
    s.dev.Quiet → s.dev.log.entries.length < 4096 → s.dev.standoff = false ∨ s.dev.writerOf m = s.dev.primary →
    ∃ t e, exec (.icvanUnknownType m) s = .next t ∧ s.dev.OnlyLog t.dev ∧
    e ∈ t.dev.log.entries ∧ e.code = Code.netMessageMalformed ∧ e.dataPath = BitVec.ofNat 32 (dpPort m.port m.flow)) ∧
  (s.dev.Due 0x01 k m → s.dev.Quiet → m.payload.length = 64 → fld m.payload 0 1 = 0 → zeros m.payload 47 17 = true →
    fld m.payload 46 1 ≤ 1 → ∃ t, exec (.hello m) s = .next t ∧ s.dev.OnlyNet t.dev ∧
      s.dev.Sent t.dev k 0x01 (s.dev.helloPayload (keyPair k) true)) ∧
  (s.dev.Answers 0x02 k m → s.dev.Quiet → m.payload.length = 64 → zeros m.payload 32 32 = true →
    let p := s.dev.answerer k
    (s.dev.mp p).run = 2 → (s.dev.mp p).quoting = false → ∃ t o, exec (.attestReq m) s = .next t ∧ t.dev.ops = s.dev.ops ++ [o] ∧
      opKind o.handle = 6 ∧ (t.dev.mp p).quoting = true ∧ (t.dev.mp p).quoteKey = k ∧ (t.dev.mp p).quoteHandle = o.handle ∧
      t.dev.mem = s.dev.mem) ∧
  (∀ j, s.dev.Due 0x23 k m → s.dev.Quiet → 16 ≤ m.payload.length → (m.payload.drop 16).length ≤ 8192 →
    zeros m.payload 4 4 = true → fld m.payload 12 4 = 0 → fld m.payload 8 4 = (m.payload.drop 16).length → m.last = true →
    s.dev.job.mailbox ≠ [] → s.dev.waitsForDie (s.dev.slotAddr 0) = none → fld m.payload 8 4 + 64 ≤ nth 0 s.dev.job.mailbox 1 →
    s.dev.job.infers = [] → s.dev.freeSlot = some j → ∃ t i, exec (.inferReq m) s = .next t ∧ t.dev.job.infers = [i] ∧
      i.slot = j ∧ i.request = fld m.payload 0 4 ∧ i.flow = k ∧ i.present = true ∧
      t.dev.read (s.dev.slotAddr j + 64) (m.payload.drop 16).length = m.payload.drop 16 ∧
      t.dev.read (s.dev.slotAddr j + 8) 1 = [1] ∧
      s.dev.SameOutside t.dev (s.dev.slotAddr j) (64 + (m.payload.drop 16).length)) ∧
  (∀ i, s.dev.job.infers = [i] → i.present = true → s.dev.waitsForDie (s.dev.slotAddr i.slot) = none →
    s.dev.readNat (s.dev.slotAddr i.slot + 8) 1 = 2 → s.dev.readNat (s.dev.slotAddr i.slot + 16) 4 ≤ 8192 →
    s.dev.readNat (s.dev.slotAddr i.slot + 16) 4 + 64 ≤ nth 0 s.dev.job.mailbox 1 →
    let n := s.dev.readNat (s.dev.slotAddr i.slot + 16) 4
    ∃ t, exec .mailboxPoll s = .next t ∧ t.dev.job.infers = [] ∧ t.dev.mem = memWrite s.dev.mem (s.dev.slotAddr i.slot + 8) [0] ∧
      s.dev.Sent t.dev i.flow 0x24 (leBytes 4 i.request ++ [0, 0, 0, 0] ++ leBytes 4 n ++ leBytes 4 0 ++
        s.dev.read (s.dev.slotAddr i.slot + 64) n))

/-- Data messages as they are delivered (R253, R256, R260, R264 to R266, R278 to R282, R358, R374): the message due is written where
it belongs and counted; a repeat is recorded and one of the cancelled step counted, and both are dropped; any other holds its flow and
writes nothing. A sample's first fragment reserves its uses, and a later one adds its bytes to them. -/
def Obligations.DataMessages : Prop := ∀ (s : State) (k : Nat) (m : Msg),
  let b := m.payload
  s.dev.Quiet →
  (∀ run, let d := (keyFlow k - 192) % 4
    let y := s.dev.geometry d
    let dir := if bit (fld b 3 1) 4 then 1 else 0
    let got : PageMsg := ⟨fld b 2 1, m.sub.toNat, fbits b 3 1 3 0⟩
    let frame := y.bufBase + visitSlot s.dev.ringS (s.dev.tp d) s.dev.ringPos got.page * y.visitPitch
    let part := frame + 64 + got.group * y.recBytes
    let due := s.dev.duePages d run.nAct dir
    let i := Tab.get 0 run.due dir
    s.dev.Due 0x30 k m → s.dev.cancelledMsg (fld b 4 4) = false → s.dev.dieStopped d = false → (s.dev.die d).tour = some run →
    s.dev.isHeld (.carousel d k) = false → fld b 0 2 = run.num →
    fld b 4 4 = s.dev.job.step % 2 ^ 32 → b.length = 80 + y.recBytes → fbits b 3 1 7 5 = 0 → zeros b 10 6 = true →
    k = s.dev.pageIn d dir →
    (due[i]? = some got →
      ∃ t r, exec (.carouselPage m) s = .next t ∧ (t.dev.die d).tour = some r ∧ Tab.get 0 r.due dir = i + 1 ∧
        t.dev.read part y.recBytes = b.drop 80 ∧ (got.group = 0 → t.dev.read frame 64 = sub b 16 64) ∧
        (∀ a, ¬(frame ≤ a ∧ a < frame + 64) → ¬(part ≤ a ∧ a < part + y.recBytes) → memGet t.dev.mem a = memGet s.dev.mem a) ∧
        (got.group + 1 = y.groups → (t.dev.page d got.page).state = 3 ∧ (t.dev.page d got.page).lap = got.lap ∧
          (t.dev.page d got.page).filled = fld b 9 1) ∧
        (got.group + 1 ≠ y.groups → (t.dev.die d).pages = (s.dev.die d).pages)) ∧
    (due[i]? ≠ some got → got ∈ due.take i → s.dev.log.entries.length < 4096 →
      ∃ t, exec (.carouselPage m) s = .next t ∧ t.dev.mem = s.dev.mem ∧ t.dev.dies = s.dev.dies ∧
        s.dev.NewEntry t.dev Code.carPageDuplicate ∧
        Tab.get 0 t.dev.counters (dieBlock d + 0x1038) = Tab.get 0 s.dev.counters (dieBlock d + 0x1038) + 1) ∧
    (due[i]? ≠ some got → got ∉ due.take i → ∃ t, exec (.carouselPage m) s = .next t ∧ t.dev.mem = s.dev.mem ∧
      t.dev.dies = s.dev.dies ∧ s.dev.NewHold t.dev Code.carPageUnexpected (.carousel d k))) ∧
  (∀ d, d = (keyFlow k - 192) % 4 → s.dev.Due 0x30 k m →
    (s.dev.cancelledMsg (fld b 4 4) = true → ∃ t, exec (.carouselPage m) s = .next t ∧ t.dev.mem = s.dev.mem ∧
      t.dev.dies = s.dev.dies ∧ t.dev.log = s.dev.log ∧
      Tab.get 0 t.dev.counters (dieBlock d + 0x1040) = Tab.get 0 s.dev.counters (dieBlock d + 0x1040) + 1) ∧
    (s.dev.cancelledMsg (fld b 4 4) = false → s.dev.dieStopped d = false → (s.dev.die d).tour = none →
    s.dev.isHeld (.carousel d k) = false →
    ∃ t, exec (.carouselPage m) s = .next t ∧ t.dev.mem = s.dev.mem ∧
      s.dev.NewHold t.dev Code.carPageUnexpected (.carousel d k))) ∧
  (∀ run, let d := (keyFlow k - 196) % 4
    let path := if bit (fld b 3 1) 6 then 1 else 0
    let got : GradMsg := ⟨fld b 2 1, m.sub.toNat, fbits b 3 1 3 0, fbits b 3 1 4 4⟩
    let due := s.dev.dueGrads d run path
    let i := Tab.get 0 run.retDue path
    s.dev.Due 0x31 k m → s.dev.cancelledMsg (fld b 4 4) = false → s.dev.dieStopped d = false → (s.dev.die d).tour = some run →
    s.dev.isHeld (.carousel d k) = false →
    fld b 0 2 = run.num → fld b 4 4 = s.dev.job.step % 2 ^ 32 →
    b.length = 16 + (if bit (fld b 3 1) 5 then 64 * (s.dev.geometry d).width else 0) → fbits b 3 1 7 7 = 0 → zeros b 8 8 = true →
    k = s.dev.gradIn d path →
    (due[i]? = some got → run.released = false →
      ∃ t r, exec (.carouselGrad m) s = .next t ∧ t.dev.mem = s.dev.mem ∧ (t.dev.die d).tour = some r ∧
        Tab.get 0 r.retDue path = i + 1 ∧
        r.pathIn = run.pathIn ++ [(gradKey got.page got.group got.part path, b.drop 16)]) ∧
    ((s.dev.tourDesc d run.num).backward = false → ∃ t, exec (.carouselGrad m) s = .next t ∧ t.dev.mem = s.dev.mem ∧
      t.dev.dies = s.dev.dies ∧ s.dev.NewHold t.dev Code.carPageUnexpected (.carousel d k))) ∧
  (∀ grad x, let st := if grad then Instr.stageGrad m else .stageAct m
    let n := (b.drop 16).length
    s.dev.Due (if grad then 0x35 else 0x34) k m → s.dev.isHeld (.stageFlow grad) = false →
    (s.dev.job.discarding = false ∨ s.dev.cancelledMsg (fld b 0 4) = false) →
    s.dev.recvsDone grad < (s.dev.stageCmds (recvOp grad)).length →
    s.dev.job.transfers.find? (fun x => x.grad == grad && !x.send && x.number == s.dev.recvsDone grad) = some x →
    fld b 0 4 = s.dev.job.step % 2 ^ 32 → fld b 4 4 = x.number → fld b 8 8 = x.offset → x.offset + n ≤ x.len →
    s.dev.writeWaits (x.addr + x.offset) n = false → s.dev.writable (x.addr + x.offset) n = true →
    ∃ t, exec st s = .next t ∧ t.dev.mem = memWrite s.dev.mem (x.addr + x.offset) (b.drop 16) ∧
      (x.offset + n = x.len → s.dev.Posted t.dev x.token ∧ ∀ y ∈ t.dev.job.transfers,
        ¬(y.grad = grad ∧ y.send = false ∧ y.number = x.number)) ∧
      (x.offset + n ≠ x.len → { x with offset := x.offset + n } ∈ t.dev.job.transfers)) ∧
  (∀ p off, let base := s.dev.mirrorBase p
    let data := b.drop 16
    p = m.sub.toNat % 2 → off = fld b 0 8 → s.dev.Due 0x36 k m → zeros b 8 8 = true →
    s.dev.ckpt ≠ [] → off + data.length ≤ s.dev.genLen →
    ∃ t, exec (.thermosMirror m) s = .next t ∧
      Tab.get 0 t.dev.counters 0x50128 = Tab.get 0 s.dev.counters 0x50128 + BitVec.ofNat 64 data.length ∧
      (off = 0 → m.last = false → (t.dev.pdie p).mirrorHdr = data.take 4096 ∧
        t.dev.mem = memWrite (memWrite s.dev.mem (base + 5) [0]) (base + 4096) (data.drop 4096)) ∧
      (off ≠ 0 → t.dev.mem = if m.last then memWrite (memWrite s.dev.mem (base + off) data) base (s.dev.pdie p).mirrorHdr
        else memWrite s.dev.mem (base + off) data)) ∧
  (∀ r, let h := sampleHdr b
    let g := s.dev.ingest
    let us := s.dev.usesOf r h
    s.dev.Due 0x20 k m → commonOk m = true → bit (fld b 9 1) 0 = true → bit (fld b 9 1) 1 = false →
    Tab.get none g.flows (m.flow - 64) = none → s.dev.recipe = some r → headerOk b = true → us ≠ [] → g.running = true →
    h.codec ≠ 1 → s.dev.ingestShed = false →
    (∀ u ∈ us, g.period ≤ u.2 / r.nRec ∧ g.settled u.2 = false ∧ sizeBad r (s.dev.entry u.1) h = false) →
    (∃ u ∈ us, u.2 / r.nRec ≤ g.period + 1) →
    (∀ a ∈ g.admitted, a.1 ≠ h.sample ∧ ¬(a.2.1 = h.stream ∧ a.2.2.1 = h.step)) →
    s.dev.stagingUsed (h.sample % 2) + h.clen ≤ r.staging →
    ∃ t, exec (.sample m) s = .next t ∧ t.dev.mem = s.dev.mem ∧
      t.dev.ingest.uses = g.uses ++ (us.filter (fun u => decide (u.2 / r.nRec ≤ g.period + 1))).map (fun u =>
        ⟨u.1, u.2, h.sample, h.stream, h.codec, h.elemType, h.sizes, h.clen, (b.drop 64).take h.clen, 0, h.sample % 2, 0, 0⟩) ∧
      Tab.get none t.dev.ingest.flows h.stream = some ⟨h.sample, true, 1⟩ ∧ t.dev.log = s.dev.log) ∧
  (∀ f, let i := fld b 12 4
    let data := (b.drop 16).take 8192
    s.dev.Due 0x20 k m → commonOk m = true → bit (fld b 9 1) 0 = false → bit (fld b 9 1) 1 = false → i ≠ 0 →
    Tab.get none s.dev.ingest.flows (m.flow - 64) = some f → f.nextFragment = i → f.sample = fld b 0 8 →
    ∃ t, exec (.sample m) s = .next t ∧ t.dev.mem = s.dev.mem ∧
      Tab.get none t.dev.ingest.flows (m.flow - 64) = some { f with nextFragment := i + 1 } ∧
      t.dev.ingest.uses = s.dev.ingest.uses.map (fun u =>
        if f.admitted = true ∧ u.sample = f.sample ∧ u.stream = m.flow - 64 ∧ u.stage = 0 then
          { u with data := (u.data ++ data).take u.clen } else u)) ∧
  (s.dev.Due 0x20 k m → commonOk m = false → s.dev.log.entries.length < 4096 → ∃ t e, exec (.sample m) s = .next t ∧
    t.dev.mem = s.dev.mem ∧ t.dev.log.entries = s.dev.log.entries ++ [e] ∧ e.code = Code.ingSampleMalformed)

/-- Reduction messages (R318, R325, R330, R331): an own input that passes the gauntlet joins its round, one that fails it holds
the round; a message due is taken the same way; the signs of a bundle wait for the update engine, and the weights of a bundle are
written to every working copy. -/
def Obligations.ReductionMessages : Prop := ∀ (s : State) (k p b : Nat) (ph : Bool) (m : Msg),
  let c := m.payload
  let bundle := m.sub.toNat * 64 + keyFlow k % 64
  (∀ inp, p < 2 → (s.dev.pdie p).own.find? (fun o => o.1 == ph && o.2.1 == b) = some (ph, b, inp) →
    (checksumOf inp.values = inp.checksum → s.dev.round p s.dev.job.step b ph = none →
      (∃ y ∈ s.dev.places ph, y ≠ inp.place) → inp.backup = false → ∃ t, exec (.reduceChunk (.own p b ph)) s = .next t ∧
        t.dev.mem = s.dev.mem ∧ (t.dev.pdie p).own = (s.dev.pdie p).own.erase (ph, b, inp) ∧
        t.dev.round p s.dev.job.step b ph = some ⟨s.dev.job.step, b, ph, [inp], [], false, false, false⟩) ∧
    (checksumOf inp.values ≠ inp.checksum → ∃ t, exec (.reduceChunk (.own p b ph)) s = .next t ∧ t.dev.mem = s.dev.mem ∧
      (t.dev.pdie p).rounds = (s.dev.pdie p).rounds ∧ s.dev.NewHold t.dev Code.redChecksumMismatch (.round p b ph))) ∧
  (s.dev.Quiet → s.dev.redDiscard m = false → s.dev.isHeld (.reductionFlow k) = false →
    (s.dev.Due 0x32 k m → s.dev.planePair true = keyPair k → keyFlow k < 320 → c.length = 24 + 512 * maskCount (fld c 5 1) →
      fld c 4 1 = (if 256 ≤ keyPeer k then 2 else 0) → fld c 10 2 = s.dev.tensorId bundle → zeros c 12 4 = true →
      s.dev.dueOnFlow .contribution k = some (s.dev.job.step, bundle) → fld c 0 4 = s.dev.job.step % 2 ^ 32 →
      s.dev.round (s.dev.pdieOf bundle) s.dev.job.step bundle false = none → (∃ y ∈ s.dev.places false, y ≠ keyPeer k % 256) →
      let vals := (List.range (256 * maskCount (fld c 5 1))).map (fun i => sext 16 (fld c (24 + 2 * i) 2))
      let inp : RoundInput := ⟨keyPeer k % 256, decide (256 ≤ keyPeer k), fld c 5 1, BitVec.ofNat 64 (fld c 16 8), fld c 6 2,
        fld c 8 2, vals⟩
      (checksumOf vals = BitVec.ofNat 64 (fld c 16 8) → ∃ t, exec (.reduceChunk (.remote m)) s = .next t ∧
        t.dev.mem = s.dev.mem ∧ t.dev.round (s.dev.pdieOf bundle) s.dev.job.step bundle false =
          some ⟨s.dev.job.step, bundle, false, [inp], [], false, false, false⟩) ∧
      (checksumOf vals ≠ BitVec.ofNat 64 (fld c 16 8) → ∃ t, exec (.reduceChunk (.remote m)) s = .next t ∧
        t.dev.mem = s.dev.mem ∧
        s.dev.NewHold t.dev Code.redChecksumMismatch (.round (s.dev.pdieOf bundle) bundle false))) ∧
    (∀ sg, s.dev.Due 0x33 k m → s.dev.planePair true ≠ keyPair k → s.dev.restoreUnread = false → 320 ≤ keyFlow k →
      fld c 4 1 = 0 → c.length = 16 + 64 * maskCount (fld c 5 1) → signsOf c = some sg → fld c 10 2 = s.dev.tensorId bundle →
      zeros c 12 4 = true → s.dev.dueOnFlow .signs k = some (s.dev.job.step, bundle) → fld c 0 4 = s.dev.job.step % 2 ^ 32 →
      ∃ t, exec (.gatherChunk m) s = .next t ∧ t.dev.mem = s.dev.mem ∧
        (t.dev.pdie (s.dev.pdieOf bundle)).ready = (s.dev.pdie (s.dev.pdieOf bundle)).ready ++
          [⟨bundle, fld c 5 1, fld c 6 2, fld c 8 2, sg⟩]) ∧
    (∀ i tr, let off := 2048 * (bundle - tr.b0)
      let es := ((List.range 8).filter (bit (fld c 5 1))).flatMap (fun q => (List.range 256).map (fun i => 256 * q + i))
      s.dev.Due 0x33 k m → s.dev.planePair true = keyPair k → s.dev.restoreUnread = false → 320 ≤ keyFlow k →
      fld c 4 1 = 1 → c.length = 16 + 512 * maskCount (fld c 5 1) → fld c 10 2 = s.dev.tensorId bundle → zeros c 12 4 = true →
      s.dev.dueOnFlow .weights k = some (s.dev.job.step, bundle) → fld c 0 4 = s.dev.job.step % 2 ^ 32 →
      s.dev.tensorOfBundle bundle = some (i, tr) → s.dev.workingWaits tr = false →
      ∃ t, exec (.gatherChunk m) s = .next t ∧ bundle ∈ t.dev.reduction.bundlesDone ∧
        t.dev.mem = (es.zip (List.range es.length)).foldl (fun mem e =>
          if off + e.1 < tr.n then (tr.bases.filter (· != 0)).foldl (fun mem a =>
            memWrite mem (a + 2 * (off + e.1)) (leBytes 2 (fld c (16 + 2 * e.2) 2))) mem
          else mem) s.dev.mem))

/-! ## Power, temperature and shedding (R388 to R404, R464) -/

/-- Energy of the stripes (R176, R388, R390, R396, R397, R399, R400, R464). A refill of a running die's stripe adds the base refill,
scaled by the temperature and the current, and any transfer, up to the pool's cap; the rest is counted as overflow. Transfers
move a quarter of the base refill for ten intervals from each donor. A stripe above its current limit gets a record and no next
refill. A clock moves one step toward the profile in force, between invocations only. A die without work gates its clock. -/
def Obligations.EnergyPool : Prop := ∀ (s : State) (t d : Nat),
  let x := s.dev.stripe t
  (∀ temp current, t < 24 → (temp < 95 * 16 ∨ x.cool = false) → s.dev.dieRuns (t / 6) = true →
    let fT := thermalFactor temp
    let fI := if x.overcurrent then (0, 1) else currentFactor current
    let refill : Int := ((s.dev.baseRefill (t / 6) * fT.1 * fI.1 / (fT.2 * fI.2) : Nat) : Int) +
      (if 0 < x.transferLeft then x.gives else 0)
    ∃ u, exec (.energyRefill t temp current) s = .next u ∧
      u.dev = { s.dev with stripes := u.dev.stripes, counters := u.dev.counters } ∧
      (u.dev.stripe t).pool = min (x.pool + refill) (s.dev.poolCap t) ∧ (u.dev.stripe t).refill = refill ∧
      (u.dev.stripe t).temp = temp ∧ (u.dev.stripe t).current = current ∧ (u.dev.stripe t).overcurrent = false ∧
      (∀ r, r ≠ t → u.dev.stripe r = s.dev.stripe r) ∧
      Tab.get 0 u.dev.counters (dieBlock (t / 6) + 0x2008 + 0x40 * (t % 6)) =
        Tab.get 0 s.dev.counters (dieBlock (t / 6) + 0x2008 + 0x40 * (t % 6)) +
          BitVec.ofNat 64 (x.pool + refill - min (x.pool + refill) (s.dev.poolCap t)).toNat) ∧
  (∀ temp current, t < 24 → 95 * 16 ≤ temp → x.cool = true → s.dev.log.entries.length < 4096 →
    ∃ u, exec (.energyRefill t temp current) s = .next u ∧ s.dev.NewEntry u.dev Code.pwrThermalLimit ∧
      (u.dev.stripe t).cool = false) ∧
  (s.dev.receivers d = [] → exec (.donorTransfer d) s = .next s) ∧
  (∀ r, d < 4 → s.dev.receivers d = [r] → r / 6 = d →
    let ds := ((List.range 6).map (fun i => 6 * d + i)).filter (fun u => decide (10 ≤ (s.dev.stripe u).atCap))
    let q : Int := (s.dev.baseRefill d / 4 : Nat)
    r ∉ ds → ∃ u, exec (.donorTransfer d) s = .next u ∧ u.dev = { s.dev with stripes := u.dev.stripes } ∧
      (u.dev.stripe r).gives = q * ds.length ∧
      (∀ o ∈ ds, (u.dev.stripe o).gives = -q ∧ (u.dev.stripe o).transferLeft = 10) ∧
      (ds ≠ [] → (u.dev.stripe r).transferLeft = 10) ∧
      (∀ o, (u.dev.stripe o).pool = (s.dev.stripe o).pool)) ∧
  (t < 24 → x.overcurrent = false → x.overcurrentBefore = false → s.dev.log.entries.length < 4096 →
    ∃ u, exec (.stripeOvercurrent t) s = .next u ∧ s.dev.NewEntry u.dev Code.pwrRailFault ∧
      u.dev.stripe t = { x with overcurrent := true } ∧ (∀ r, r ≠ t → u.dev.stripe r = s.dev.stripe r)) ∧
  (x.overcurrent = true → exec (.stripeOvercurrent t) s = .next s) ∧
  (s.dev.invoking d = true → exec (.clockStep d) s = .next s) ∧
  (d < 4 → (s.dev.die d).power ≠ 4 → s.dev.invoking d = false → ∃ u, exec (.clockStep d) s = .next u ∧ u.dev = { s.dev with dies := u.dev.dies } ∧
    u.dev.die d = { s.dev.die d with clock := if (s.dev.die d).clock < s.dev.effective then (s.dev.die d).clock + 1
      else if s.dev.effective < (s.dev.die d).clock then (s.dev.die d).clock - 1 else (s.dev.die d).clock } ∧
    ∀ r, r ≠ d → u.dev.die r = s.dev.die r) ∧
  (s.dev.dieRuns d = true → (∀ e ∈ s.dev.clusters, dOf e.1 = d → e.2.quiet = true) →
    ∃ u, exec (.dieIdle d) s = .next u ∧ u.dev = { s.dev with dies := u.dev.dies } ∧
      u.dev.die d = { s.dev.die d with gated := true } ∧ ∀ r, r ≠ d → u.dev.die r = s.dev.die r)

/-- Thermal trips and parking (R399, R403, R464). A tripped stripe or stack is recorded and parks its die; a hot P-die slows, and
at its trip raises the shed level. With the last cause gone the die unparks. A parking die is parked once its work stands still,
and keeps its memory; unparked, it runs again. -/
def Obligations.ThermalParking : Prop := ∀ (s : State) (n d p : Nat),
  let Parks := fun (u : State) (e c : Nat) => (u.dev.die e).power = 1 ∧ c ∈ (u.dev.die e).parkCauses ∧ u.dev.mem = s.dev.mem
  (s.dev.log.entries.length < 4096 → 
    (n < 24 → (s.dev.stripe n).tripped = false → (s.dev.die (n / 6)).power = 0 → ∃ u,
      exec (.thermalTrip (.stripe n)) s = .next u ∧ Parks u (n / 6) 3 ∧ (u.dev.stripe n).tripped = true ∧
      s.dev.NewEntry u.dev Code.pwrThermalLimit) ∧
    (n < 12 → n ∉ s.dev.power.hotStacks → (s.dev.die (n / 3)).power = 0 → ∃ u,
      exec (.thermalTrip (.stack n)) s = .next u ∧ Parks u (n / 3) 4 ∧ n ∈ u.dev.power.hotStacks ∧
      s.dev.NewEntry u.dev Code.pwrThermalLimit) ∧
    (p < 2 → p ∉ s.dev.power.hotPdies → ∃ u, exec (.thermalTrip (.pdieHot p)) s = .next u ∧ (u.dev.pdie p).hot = true ∧
      u.dev.power.level = s.dev.power.level ∧ s.dev.NewEntry u.dev Code.pwrThermalLimit)) ∧
  (p < 2 → p + 2 ∉ s.dev.power.hotPdies → s.dev.power.level < 4 → s.dev.actionsDone = true → ∃ u,
    exec (.thermalTrip (.pdie p)) s = .next u ∧ s.dev.power.level < u.dev.power.level) ∧
  ((s.dev.die (n / 6)).parkCauses = [3] → (s.dev.die (n / 6)).power = 2 →
    (∀ i, i < 6 → 6 * (n / 6) + i ≠ n → (s.dev.stripe (6 * (n / 6) + i)).tripped = false) → ∃ u,
    exec (.thermalRecover (.stripe n)) s = .next u ∧ (u.dev.stripe n).tripped = false ∧
      (u.dev.die (n / 6)).power = 3 ∧ (u.dev.die (n / 6)).parkCauses = [] ∧ u.dev.mem = s.dev.mem) ∧
  ((s.dev.die (n / 3)).parkCauses = [4] → (s.dev.die (n / 3)).power = 2 → s.dev.power.hotStacks = [n] → ∃ u,
    exec (.thermalRecover (.stack n)) s = .next u ∧ u.dev.power.hotStacks = [] ∧ (u.dev.die (n / 3)).power = 3 ∧
      u.dev.mem = s.dev.mem) ∧
  (∃ u, exec (.thermalRecover (.pdieHot p)) s = .next u ∧ (u.dev.pdie p).hot = false ∧ u.dev.power.level = s.dev.power.level) ∧
  (s.dev.power.hotPdies = [p + 2] → s.dev.power.level ≤ 4 → s.dev.power.inputLevel = 0 → s.dev.power.rails = [] → ∃ u,
    exec (.thermalRecover (.pdie p)) s = .next u ∧ u.dev.power.level = 0 ∧ u.dev.power.hotPdies = []) ∧
  ((s.dev.die d).power = 1 → s.dev.dieStill d = false → s.dev.panel.removing = false → exec (.dieParked d) s = .next s) ∧
  ((s.dev.die d).power = 1 → s.dev.dieStill d = true → ∃ u, exec (.dieParked d) s = .next u ∧
    u.dev.die d = { s.dev.die d with power := 2 } ∧ u.dev.mem = s.dev.mem ∧ u.dev.clusters = s.dev.clusters) ∧
  ((s.dev.die d).power = 3 → (∀ e ∈ s.dev.net.flows, e.2.buffer = []) → s.dev.Quiet →
    s.dev.liveOp 4 = none → ∃ u, exec (.dieUnparked d) s = .next u ∧
    u.dev.die d = { s.dev.die d with power := 0 } ∧ u.dev.mem = s.dev.mem ∧ u.dev.clusters = s.dev.clusters)

/-- The shed level (R400, R401, R402). A threshold crossed raises the level one step at a time, each step recorded and
counted, and the next only when the actions of the last are done: level 3 parks A2 and A3, level 4 every die, level 5 takes
ports 0 to 15 down and saves the log. With the cause gone the level falls to what is still called for. -/
def Obligations.Shedding : Prop := ∀ (s : State) (v : Nat),
  let n := s.dev.power.level
  let Raised := fun (u : State) (cond : Nat) => n < u.dev.power.level ∧
    (s.dev.job.state ≠ 6 ∨ u.dev.power.level < 4 → u.dev.mem = s.dev.mem) ∧
    (s.dev.log.entries.length < 4000 → ∃ e ∈ u.dev.log.entries, e.code = Code.pwrShedEntered ∧
      e.values = [BitVec.ofNat 8 n, BitVec.ofNat 8 (n + 1), BitVec.ofNat 8 cond])
  (n < inputCalls v → s.dev.actionsDone = true → ∃ u, exec (.inputThresholdCrossed v) s = .next u ∧ u.dev.power.input = v ∧
    Raised u 0 ∧ Tab.get 0 u.dev.counters (0x10400 + 8 * n) = Tab.get 0 s.dev.counters (0x10400 + 8 * n) + 1 ∧
    (n = 2 → (s.dev.die 2).power = 0 → (s.dev.die 3).power = 0 →
      u.dev.power.level = 3 ∧ (u.dev.die 2).power = 1 ∧ (u.dev.die 3).power = 1) ∧
    (n = 3 → (s.dev.die 0).power = 0 → u.dev.power.level = 4 ∧ ∀ d, d < 4 → (s.dev.die d).power = 0 → (u.dev.die d).power = 1) ∧
    (n = 4 → s.dev.power.inputLevel ≤ 5 → u.dev.power.level = 5 ∧ u.dev.log.saving = true ∧ ∀ m, m < 16 → (u.dev.port m).inUse = false)) ∧
  (s.dev.calledLevel ≤ n → inputCalls v ≤ s.dev.power.inputLevel → ∃ u, exec (.inputThresholdCrossed v) s = .next u ∧
    u.dev = { s.dev with power := { s.dev.power with input := v } }) ∧
  (n ≤ 5 → ∃ u, exec (.inputThresholdRecovered v) s = .next u ∧ u.dev.power.input = v ∧ u.dev.mem = s.dev.mem ∧
    u.dev.power.inputLevel = min s.dev.power.inputLevel (inputCalls (v - 100)) ∧ u.dev.power.level = min n u.dev.calledLevel ∧
    (n = 4 → u.dev.power.level < 4 → ∀ d, d < 4 → (s.dev.die d).parkCauses = [2] → (s.dev.die d).power = 2 →
      (u.dev.die d).power = 3)) ∧
  (∀ r thr lvl, (thr, lvl) ∈ railThresholds r → v < thr → (r, thr) ∉ s.dev.power.rails → ∃ u,
    exec (.railCondition r v) s = .next u ∧ (r, thr) ∈ u.dev.power.rails ∧
    (s.dev.log.entries.length < 4000 → ∃ e ∈ u.dev.log.entries, e.code = Code.pwrRailFault ∧
      e.values = [BitVec.ofNat 8 (railCode r), BitVec.ofNat 8 v]) ∧
    (n < lvl → s.dev.actionsDone = true → n < u.dev.power.level)) ∧
  (∀ r, n ≤ 5 → ∃ u, exec (.railConditionClear r v) s = .next u ∧ u.dev.mem = s.dev.mem ∧
    u.dev.power.rails = s.dev.power.rails.filter (fun e => !(e.1 == r && decide (e.2 + 2 ≤ v))) ∧
    u.dev.power.level = min n u.dev.calledLevel) ∧
  (n < s.dev.calledLevel → s.dev.actionsDone = true → n < 5 → ∃ u, exec .shedLevelActions s = .next u ∧
    Raised u (s.dev.levelCondition (n + 1))) ∧
  (s.dev.calledLevel ≤ n ∨ s.dev.actionsDone = false → exec .shedLevelActions s = .next s)

/-- Loss of the input (R404, R466, R479). Without power everything but the fuses, the flash and the identity is lost. An input
above 58.0 V is recorded, above 60.0 V disconnected; an overcurrent disconnects it and leaves its flag. Power-on and module
reset (R461, R466, R501). Both begin with nothing in service, the log as the flash holds it and the strap sampled again; the
fuses and the flash stand. A power-on finds memory empty; a module reset keeps LPDDR5X. The ends of a warm reset and of the
entry to Standby (R461, R465, R466). Standby saves the log and leaves ports 0 to 15 and every A-die off and the HBM without
contents; a warm reset leaves the HBM zero and LPDDR5X as it was. -/
def Obligations.PowerAndResets : Prop :=
  (∀ (s : State) (v : Nat),
  let Off := fun (u : State) => u.dev.boot.service = 5 ∧ u.dev.mem = [] ∧ u.dev.hasJob = false ∧ u.dev.clusters = [] ∧
    u.dev.log.entries = [] ∧ u.dev.counters = [] ∧ (∀ m, (u.dev.port m).inUse = false) ∧
    u.dev.fuses = s.dev.fuses ∧ u.dev.ident = s.dev.ident ∧ u.dev.boot.slotA = s.dev.boot.slotA ∧
    u.dev.boot.slotB = s.dev.boot.slotB
  (∃ u, exec .powerRemoval s = .next u ∧ Off u ∧ u.dev.log.flash = s.dev.log.flash ∧
    u.dev.boot.overcurrentFlag = s.dev.boot.overcurrentFlag) ∧
  (v ≤ 5800 → exec (.inputOvervoltage v) s = .next s) ∧
  (5800 < v → v ≤ 6000 → s.dev.log.entries.length < 4096 → ∃ u, exec (.inputOvervoltage v) s = .next u ∧
    s.dev.NewEntry u.dev Code.modInputRange ∧ u.dev.power.input = v ∧ u.dev.mem = s.dev.mem ∧
    u.dev.boot = s.dev.boot) ∧
  (6000 < v → ∃ u, exec (.inputOvervoltage v) s = .next u ∧ Off u) ∧
  (s.dev.off = false → ∃ u, exec .inputOvercurrent s = .next u ∧ Off u ∧ u.dev.boot.overcurrentFlag = true)) ∧
  (∀ (s : State) (strap : Nat),
  let Fresh := fun (u : State) (cause : Nat) => u.dev.boot.service = 0 ∧ u.dev.boot.cause = cause ∧
    u.dev.boot.strapPin = strap % 2 ∧ u.dev.hasJob = false ∧ u.dev.ops = [] ∧ u.dev.counters = [] ∧ u.dev.clusters = [] ∧
    u.dev.fuses = s.dev.fuses ∧ u.dev.boot.slotA = s.dev.boot.slotA ∧ u.dev.boot.slotB = s.dev.boot.slotB ∧
    u.dev.log.flash = s.dev.log.flash
  (s.dev.boot.service = 5 → (∃ u, exec (.powerOn strap) s = .next u ∧ Fresh u 0 ∧ u.dev.mem = [] ∧
      (s.dev.boot.overcurrentFlag = false → u.dev.log.entries = restoredEntries s.dev.log.flash) ∧
      (s.dev.boot.overcurrentFlag = true → s.dev.log.flash.length < 4096 → ∃ e, e.code = Code.modInputRange ∧ e.tag = 13 ∧
        u.dev.log.entries = restoredEntries s.dev.log.flash ++ [e])) ∧
    exec (.moduleReset strap) s = .next s) ∧
  (s.dev.boot.service ≠ 5 → exec (.powerOn strap) s = .next s ∧ ∃ u, exec (.moduleReset strap) s = .next u ∧ Fresh u 1 ∧
    u.dev.log.entries = restoredEntries s.dev.log.flash ∧
    ∀ a, memGet u.dev.mem a = if lpBase ≤ a ∧ a < lpBase + 2 * lpWindow then memGet s.dev.mem a else 0)) ∧
  (∀ (s : State),
  (s.dev.boot.standbyEntry = true → ∃ u, exec .standbyEntered s = .next u ∧ u.dev.boot.service = 4 ∧
    u.dev.log.flash = s.dev.log.entries ∧ u.dev.log.entries = s.dev.log.entries ∧ (∀ n, n < 16 → (u.dev.port n).inUse = false) ∧
    (∀ d, (u.dev.die d).power = 4) ∧ (∀ a, a < 4 * hbmSize → memGet u.dev.mem a = 0) ∧
    (∀ a, lpBase ≤ a → a < lpBase + 2 * lpWindow → memGet u.dev.mem a = memGet s.dev.mem a) ∧
    u.dev.net.flows = [] ∧ (∀ o, Tab.get 0 u.dev.counters o =
      if portCounter o then Tab.get 0 s.dev.counters o else 0) ∧
    u.dev.fuses = s.dev.fuses ∧ u.dev.boot.slotA = s.dev.boot.slotA ∧ u.dev.boot.slotB = s.dev.boot.slotB) ∧
  (s.dev.boot.standbyEntry = false → exec .standbyEntered s = .next s) ∧
  (s.dev.boot.warmReset = true → (∀ e ∈ s.dev.net.flows, e.2.buffer = []) → s.dev.Quiet → ∃ u,
    exec .warmResetComplete s = .next u ∧ u.dev.boot.warmReset = false ∧ u.dev.job.resetting = false ∧
    (s.dev.job.resetting = true → ∀ a, a < 4 * hbmSize → memGet u.dev.mem a = 0) ∧
    (∀ a, 4 * hbmSize ≤ a → memGet u.dev.mem a = memGet s.dev.mem a)) ∧
  (s.dev.boot.warmReset = false → exec .warmResetComplete s = .next s))

/-! ## Bring-up, the processors and resets (R438 to R466) -/

/-- Bring-up (R444 to R450, R456, R461, R467). A root releases its processor from slot A, else from slot B, else into recovery
and Standoff. A part that comes up is up; one that fails is recorded. Stroll needs A0 with its stacks and the host ports tried;
full service needs every part. What is still missing at the deadline has failed. -/
def Obligations.BringUp : Prop := ∀ (s : State) (p ms : Nat) (x : Part),
  let b := s.dev.boot
  let c := fun k => checkSlot (s.dev.fuse p) (s.dev.slotImage k)
  let Runs := fun (u : State) (k : Nat) => (u.dev.mp p).run = 2 ∧ (u.dev.mp p).slot = k ∧ (u.dev.mp p).f = (c k).f ∧
    (u.dev.mp p).h = (c k).h ∧ (u.dev.mp p).hamper = some (hamperOf (c k).recs) ∧ (u.dev.mp p).strap = b.strapPin ∧
    (u.dev.mp p).idKey = Config.slhPublicKey true ((s.dev.fuse p).idSeed (c k).f) ∧ u.dev.mem = s.dev.mem
  (p < 2 → (s.dev.mp p).run = 1 → b.wantPrimary = none →
    ((c 0).ok = true → ∃ u, exec (.mpRelease p) s = .next u ∧ Runs u 0) ∧
    ((c 0).ok = false → (c 1).ok = true → ∃ u, exec (.mpRelease p) s = .next u ∧ Runs u 1) ∧
    ((c 0).ok = false → (c 1).ok = false → ∃ u, exec (.mpRelease p) s = .next u ∧ (u.dev.mp p).run = 3 ∧
      (u.dev.mp p).standoff = true)) ∧
  ((s.dev.mp p).run ≠ 1 → exec (.mpRelease p) s = .next s) ∧
  (b.service < 2 → x ∉ b.up → x ∉ b.failedParts → 2 ≤ (s.dev.mp 0).run →
    (∀ n, x = .port n → n < 16 → (s.dev.mp (n / 8)).run ≠ 3) →
    (x ∈ [.die 0, .stack 0, .stack 1, .stack 2, .port 0, .port 8, .port 16] ∨ (∃ r, x = .rail r) ∨
      s.dev.standoff = false ∧ b.agreed = true ∧ b.stopBringUp = false ∧ b.service = 1 ∧ s.dev.power.level < 3) →
    (∃ u, exec (.partBringUpComplete x true) s = .next u ∧ u.dev.boot = { b with up := b.up ++ [x] } ∧ u.dev.mem = s.dev.mem ∧
      (∀ d, x = .die d → u.dev.die d = { s.dev.die d with power := if (s.dev.die d).parkCauses.isEmpty then 0 else 1 }) ∧
      (∀ n, x = .port n → n < 16 → (n % 8 ≠ 0 → u.dev.port n = s.dev.port n) ∧
        (n % 8 = 0 → s.dev.power.level < 5 → u.dev.port n = if (s.dev.port n).optic
          then { s.dev.port n with link := true, inUse := true, rate := 1, training := false }
          else { s.dev.port n with awaiting := true }))) ∧
    (∃ u, exec (.partBringUpComplete x false) s = .next u ∧ u.dev.boot = { b with failedParts := b.failedParts ++ [x] } ∧
      u.dev.mem = s.dev.mem ∧ (vital x = true → s.dev.log.entries.length < 4096 → s.dev.NewEntry u.dev Code.bootTrainingFail))) ∧
  (∀ n ok, n < 16 → (s.dev.mp (n / 8)).run = 3 → exec (.partBringUpComplete (.port n) ok) s = .next s) ∧
  (b.service = 0 → (s.dev.mp 0).run = 2 → Part.die 0 ∈ b.up → Part.stack 0 ∈ b.up → Part.stack 1 ∈ b.up → Part.stack 2 ∈ b.up →
    Part.port 0 ∈ b.up ++ b.failedParts → Part.port 8 ∈ b.up ++ b.failedParts →
    (b.agreed = true ∨ s.dev.standoff = true → ∃ u, exec (.strollService ms) s = .next u ∧
      u.dev = { s.dev with boot := { b with service := 1, strollMs := min 4095 ms }, net := { s.dev.net with statusDue := true } }) ∧
    (b.agreed = false → s.dev.standoff = false → exec (.strollService ms) s = .next s)) ∧
  (b.service = 1 → b.agreed = true → s.dev.standoff = false → b.stopBringUp = false → s.dev.power.level < 3 →
    (∀ y ∈ s.dev.partsNeeded, y ∈ b.up) → (∀ y ∈ b.failedParts, vital y = false) → ∃ u, exec .fullService s = .next u ∧
      u.dev = { s.dev with boot := { b with service := 2 }, net := u.dev.net } ∧ u.dev.net.statusDue = true ∧
      (∀ n, n = 0 ∨ n = 8 → u.dev.port n = { s.dev.port n with rate := if (s.dev.port n).inUse then 2 else (s.dev.port n).rate }) ∧
      (∀ n, n < 16 → n % 8 ≠ 0 → u.dev.port n = if .port n ∉ b.up then s.dev.port n else if (s.dev.port n).optic
        then { s.dev.port n with link := true, inUse := true, rate := 2, training := false }
        else { s.dev.port n with awaiting := true }) ∧ u.dev.port 16 = s.dev.port 16) ∧
  (s.dev.standoff = true → exec .fullService s = .next s) ∧
  (s.dev.bringingUp = true →
    (s.dev.log.entries.length < 4096 → ∃ u, exec .bootFullLate s = .next u ∧ s.dev.NewEntry u.dev Code.bootFullLate ∧
      s.dev.OnlyLog u.dev) ∧
    (∃ u, exec .bringUpDeadline s = .next u ∧ u.dev.boot.up = b.up ∧ u.dev.mem = s.dev.mem ∧
      ∀ y ∈ s.dev.partsNeeded, y ∈ b.up ∨ y ∈ u.dev.boot.failedParts)) ∧
  (s.dev.bringingUp = false → exec .bootFullLate s = .next s ∧ exec .bringUpDeadline s = .next s)

/-- Primacy and heartbeats (R456, R457, R458). Processors that loaded the same agree on the strap's when both have been heard, else
both enter Standoff, which parks the dies; so does a lost heartbeat. Once it is back, a recorded decision ends Standoff. -/
def Obligations.Primacy : Prop := ∀ (s : State) (p : Nat),
  (p < 2 → (s.dev.mp 0).run = 2 → (s.dev.mp 1).run = 2 → (s.dev.mp p).heard = true → s.dev.standoff = false →
    s.dev.boot.agreed = false →
    (s.dev.sameLoad = true → s.dev.strapAgrees = true → ∃ u, exec (.heartbeat p) s = .next u ∧ u.dev.boot.agreed = true ∧
      u.dev.primary = (s.dev.mp 0).strap ∧ u.dev.standoff = false ∧ u.dev.mem = s.dev.mem ∧ u.dev.log = s.dev.log) ∧
    (s.dev.sameLoad = false ∨ s.dev.strapAgrees = false → ∃ u, exec (.heartbeat p) s = .next u ∧
      (u.dev.mp 0).standoff = true ∧ (u.dev.mp 1).standoff = true ∧ u.dev.boot.agreed = false)) ∧
  (p < 2 → 2 ≤ (s.dev.mp p).run → (s.dev.mp p).heard = false → ∃ u, exec (.heartbeat p) s = .next u ∧
    (u.dev.mp (1 - p)).heard = true ∧ u.dev = { s.dev with mps := u.dev.mps }) ∧
  (s.dev.boot.heartbeatLost = false → (s.dev.mp 0).run = 2 → (s.dev.mp 1).run = 2 → s.dev.standoff = false → ∃ u,
    exec .heartbeatLost s = .next u ∧ u.dev.boot.heartbeatLost = true ∧ (u.dev.mp 0).standoff = true ∧
    (u.dev.mp 1).standoff = true ∧ u.dev.isHeld (.standoff 0) = true ∧ u.dev.isHeld (.standoff 1) = true ∧
    ∀ d, d < 4 → (s.dev.die d).power = 0 → (u.dev.die d).power = 1 ∧ 5 ∈ (u.dev.die d).parkCauses) ∧
  (s.dev.standoff = true →
    (∀ w, s.dev.boot.wantPrimary = some w → w < 2 → s.dev.sameLoad = false → ∃ u, exec .heartbeatRestored s = .next u ∧
      u.dev = { s.dev with boot := { s.dev.boot with heartbeatLost := false }, mps := u.dev.mps } ∧ u.dev.mp w = s.dev.mp w ∧
      (u.dev.mp (1 - w)).run = 1) ∧
    (∀ w, s.dev.boot.wantPrimary = some w → s.dev.sameLoad = true → ∃ u, exec .heartbeatRestored s = .next u ∧
      u.dev.primary = w ∧ u.dev.standoff = false ∧ u.dev.boot.heartbeatLost = false ∧
      ∀ h ∈ u.dev.log.holds, h.code ≠ Code.bootStandoff) ∧
    (s.dev.boot.wantPrimary = none → ∃ u, exec .heartbeatRestored s = .next u ∧
      u.dev = { s.dev with boot := { s.dev.boot with heartbeatLost := false } }))

/-- Endorsements, quotes and the hamper's sectors (R452 to R455, R459). A new endorsement is signed with the root key and kept in
the loaded slot; a quote is sent in fragments, ends its operation and attests the session; an update writes one sector of the
target slot from the source the host filled, and nothing else of the flash. -/
def Obligations.Identity : Prop := ∀ (s : State) (p : Nat),
  let x := s.dev.mp p
  (p < 2 → x.run = 2 → x.endorsement = [] → ∃ u, exec (.endorsementSigned p) s = .next u ∧
    (u.dev.mp p).endorsement = Config.slhSign false (s.dev.fuse p).rootSeed (endorsedText x.idKey x.f) ∧
    (u.dev.mp p).idKey = x.idKey ∧ u.dev.mem = s.dev.mem ∧ u.dev.net = s.dev.net ∧
    (x.slot = 0 → u.dev.boot.slotB = s.dev.boot.slotB) ∧ (x.slot ≠ 0 → u.dev.boot.slotA = s.dev.boot.slotA)) ∧
  (∀ o, p < 2 → x.quoting = true → x.endorsement ≠ [] → s.dev.ops.find? (fun o => o.handle == x.quoteHandle) = some o →
    o.state = 0 → ∃ u, exec (.attestQuote p) s = .next u ∧ (u.dev.mp p).quoting = false ∧
    (x.quoteKey, (s.dev.flow x.quoteKey).src) ∈ u.dev.net.attested ∧ u.dev.mem = s.dev.mem ∧
    (∃ y ∈ u.dev.endedOps, y.handle = x.quoteHandle ∧ y.state = 4) ∧
    s.dev.Sent u.dev x.quoteKey 0x03 (leBytes 4 80032 ++ List.replicate 12 0 ++
      (sub (x.quoteBody ++ x.endorsement ++ Config.slhSign true ((s.dev.fuse p).idSeed x.f) x.quoteBody) 0 80032).take 8192)) ∧
  (∀ o, s.dev.liveOp 4 = some o → o.state < 2 → s.dev.boot.updateSlot < 2 → 1 ≤ s.dev.boot.updateSector →
    s.dev.waitsForDie updateSource = none →
    let k := s.dev.boot.updateSlot
    let n := s.dev.boot.updateSector
    (1023 ≤ n → ∃ u, exec .hamperSectorWritten s = .next u ∧ u.dev.boot.updateSlot = 2 ∧ u.dev.mem = s.dev.mem ∧
      (u.dev.slotImage k).bytes 0 65536 = s.dev.read updateSource 65536 ∧
      (u.dev.slotImage k).bytes endorsementArea 65536 = List.replicate 65536 0xFF ∧ ∃ y ∈ u.dev.endedOps, y.handle = o.handle ∧
        y.state = if (checkSlot (s.dev.fuse s.dev.primary) (u.dev.slotImage k)).ok then 4 else 5) ∧
    (n < 1023 → ∃ u, exec .hamperSectorWritten s = .next u ∧ u.dev.boot.updateSector = n + 1 ∧ u.dev.mem = s.dev.mem ∧
      (u.dev.slotImage k).bytes (65536 * n) 65536 = s.dev.read (updateSource + 65536 * n) 65536 ∧
      (∀ a, ¬(65536 * n ≤ a ∧ a < 65536 * (n + 1)) → (u.dev.slotImage k).bytes a 1 = (s.dev.slotImage k).bytes a 1) ∧
      (∀ a, (u.dev.slotImage (1 - k)).bytes a 1 = (s.dev.slotImage (1 - k)).bytes a 1))) ∧
  (s.dev.waitsForDie updateSource ≠ none → exec .hamperSectorWritten s = .next s) ∧
  (s.dev.liveOp 4 = none → exec .hamperSectorWritten s = .next s)

/-! ## Ports (R410, R411, R419 to R422, R477) -/

/-- Packets and timers of the ports (R410, R411, R419, R420). A foreign packet is counted and dropped; discovery is answered for the
port's own address alone; a pause on the hamper's priority stops the port, which sends what it owes when the pause ends; a raise gives a flow 1 % of line rate; what is owed
is acknowledged; a timeout resends, and after eight the flow holds. Only the network side, the counters and, for the hold, the
log change. -/
def Obligations.PortTimers : Prop := ∀ (s : State) (n k : Nat),
  let f := s.dev.flow k
  (n < 16 → ∃ u, exec (.foreignPacket n) s = .next u ∧ u.dev = { s.dev with counters := u.dev.counters } ∧
    ∀ o, Tab.get 0 u.dev.counters o = Tab.get 0 s.dev.counters o +
      (if o = 0x20108 + 0x1000 * n ∨ o = 0x20168 + 0x1000 * n then 1 else 0)) ∧
  (∀ h src tgt, s.dev.hamper = some h → (s.dev.port n).inUse = true →
    (h.addresses[n]? = some tgt → ∃ u, exec (.neighbourDiscovery n src tgt) s = .next u ∧ s.dev.OnlyNet u.dev ∧
      u.dev.net = { s.dev.net with answers := s.dev.net.answers ++ [(src, tgt)] } ∧
      (n < 16 → ∀ o, Tab.get 0 u.dev.counters o = Tab.get 0 s.dev.counters o +
        (if o = 0x20100 + 0x1000 * n ∨ o = 0x20108 + 0x1000 * n then 1 else 0))) ∧
    (n < h.addresses.length → h.addresses[n]? ≠ some tgt → exec (.neighbourDiscovery n src tgt) s = .next s)) ∧
  (∀ src tgt, (s.dev.port n).inUse = false → exec (.neighbourDiscovery n src tgt) s = .next s) ∧
  (∀ h prio, s.dev.hamper = some h → n < 16 → h.pfc = true →
    (h.pfcPriority = prio → ∀ b, ∃ u, exec (.pauseFrame n prio b) s = .next u ∧ s.dev.OnlyNet u.dev ∧
      u.dev.port n = { s.dev.port n with paused := b } ∧ (b = true → u.dev.net.sent = s.dev.net.sent) ∧
      (b = false → (s.dev.port ((n + 8) % 16)).paused = false → ∀ e ∈ s.dev.net.flows, keyPair e.1 = n % 8 →
        (u.dev.flow e.1).toAck = 0)) ∧
    (h.pfcPriority ≠ prio → ∀ b, exec (.pauseFrame n prio b) s = .next s)) ∧
  (∃ u, exec (.ecnRateRaise k) s = .next u ∧ s.dev.OnlyNet u.dev ∧ u.dev.flow k = { f with rate := min 10000 (f.rate + 100) }) ∧
  (f.toAck = 0 → exec (.ackDelayExpiry k) s = .next s) ∧
  (s.dev.pausedFor k f.rxSide = true → ∃ u, exec (.ackDelayExpiry k) s = .next u ∧ s.dev.OnlyNet u.dev ∧
    u.dev.flow k = f ∧ u.dev.net.sent = s.dev.net.sent) ∧
  (f.toAck ≠ 0 → s.dev.pausedFor k f.rxSide = false → ∃ u, exec (.ackDelayExpiry k) s = .next u ∧ s.dev.OnlyNet u.dev ∧ u.dev.flow k = { f with toAck := 0, ceSeen := 0 } ∧
    (s.dev.sideOpen k 0 = true → ∃ a, u.dev.net.sent = s.dev.net.sent ++ [a] ∧ a.kind = 0x3F ∧ a.ackSeq = f.rxDue ∧
      a.flow = keyFlow k)) ∧
  (f.unacked = [] → exec (.retransmitTimeout k) s = .next s) ∧
  (f.held = true ∨ s.dev.pairUp k = false ∨ s.dev.isHeld (.netFlow k) = true → exec (.retransmitTimeout k) s = .next s) ∧
  (∀ x rest, f.unacked = x :: rest → x.kind ≠ 1 → f.held = false → s.dev.pairUp k = true → s.dev.isHeld (.netFlow k) = false →
    (f.resends < 8 → ∃ u, exec (.retransmitTimeout k) s = .next u ∧ s.dev.OnlyNet u.dev ∧
      u.dev.flow k = { f with resends := f.resends + 1 } ∧
      ((∀ i, (s.dev.port (Device.portOf (keyPair k) i)).paused = false) → s.dev.sideOpen k 0 = true →
        ∃ y ∈ u.dev.net.sent, y.seq = x.seq ∧ y.retx = true ∧ y.payload = x.payload)) ∧
    (8 ≤ f.resends → ∃ u, exec (.retransmitTimeout k) s = .next u ∧ s.dev.OnlyLog u.dev ∧
      s.dev.NewHold u.dev Code.netRetransmitExhausted (.netFlow k) ∧ (u.dev.flow k).held = true))

/-- Loss and return of a port (R421, R422, R477). A port whose link goes is out of use and failed, and its loss recorded; the pair
replays once more when a round ends; a link that returns awaits a reset; after it the port is in use again. A removed optic
takes its port down. -/
def Obligations.PortChanges : Prop := ∀ (s : State) (n : Nat),
  let p := s.dev.port n
  let room := s.dev.log.entries.length < 4000
  let Logs := fun (u : State) (code : Nat) => room → ∃ e ∈ u.dev.log.entries, e.code = code ∧ e.count = 1 ∧
    e.dataPath = BitVec.ofNat 32 (dpPort n 0xFFF)
  (n < 16 → p.link = true → p.inUse = true → ∃ u, exec (.linkDown n) s = .next u ∧ s.dev.OnlyLog u.dev ∧
    u.dev.port n = { p with link := false, inUse := false, rate := 0, failed := true } ∧
    (∀ m, m ≠ n → u.dev.port m = s.dev.port m) ∧ u.dev.net.statusDue = true ∧ Logs u Code.netLinkDown) ∧
  (p.link = false → exec (.linkDown n) s = .next s) ∧
  (n < 8 → p.inUse = true → (s.dev.port (n + 8)).inUse = false →
    (p.replays = 0 → ∃ u, exec (.replayRound n) s = .next u ∧ s.dev.OnlyNet u.dev ∧ u.dev.port n = { p with replays := 1 }) ∧
    (p.replays ≠ 0 → exec (.replayRound n) s = .next s)) ∧
  (p.failed = true → p.link = false → ∃ u, exec (.linkReturn n) s = .next u ∧ s.dev.OnlyNet u.dev ∧
    u.dev.port n = { p with link := true, awaiting := true }) ∧
  (p.failed = false → exec (.linkReturn n) s = .next s) ∧
  (n < 16 → p.training = true → (s.dev.stroll = true → n % 8 = 0) → ∃ u, exec (.portResetComplete n) s = .next u ∧ s.dev.OnlyLog u.dev ∧
    u.dev.port n = { p with link := true, inUse := true, rate := if s.dev.stroll then 1 else 2, training := false,
                            failed := false, awaiting := false, replays := 0 } ∧
    (p.failed = true → Logs u Code.netPairRestored)) ∧
  (p.training = false ∨ s.dev.stroll = true ∧ n % 8 ≠ 0 → exec (.portResetComplete n) s = .next s) ∧
  (∀ hot, s.dev.off = false → n ≤ 16 →
    (p.optic = false → ∃ u, exec (.opticChange n true hot) s = .next u ∧ s.dev.OnlyLog u.dev ∧ (u.dev.port n).optic = true ∧
      (n < 16 → (u.dev.port n).inUse = p.inUse) ∧ Logs u Code.netOpticChange) ∧
    (p.optic = true → p.link = true → ∃ u, exec (.opticChange n false hot) s = .next u ∧ s.dev.OnlyLog u.dev ∧
      (u.dev.port n).optic = false ∧ (u.dev.port n).inUse = false ∧ Logs u Code.netOpticChange) ∧
    exec (.opticChange n p.optic hot) s = .next s)

/-! ## The faceplate and the rear (R432, R469 to R488) -/

/-- Attend and the lights (R432, R472, R473). A press or a lift records a request and asks the host, once; a press while one is
pending counts; lowering the ejector leaves the request. A timed light test ends. -/
def Obligations.Faceplate : Prop := ∀ (s : State),
  let p := s.dev.panel
  let Counts := fun (u : State) => ∀ pre e, s.dev.log.entries = pre ++ [e] → e.code = Code.modAttendPressed →
    e.dataPath = BitVec.ofNat 32 (dpMod 2) → e.decided = false → e.restored = false → e.count < 65535 →
    ∃ e', u.dev.log.entries = pre ++ [e'] ∧ e'.count = e.count + 1
  let Asks := fun (u : State) (cause : Nat) => s.dev.NewEntry u.dev Code.modAttendPressed ∧ u.dev.mem = s.dev.mem ∧
    (∃ e, u.dev.log.entries = s.dev.log.entries ++ [e] ∧ e.severity = 0 ∧ e.values = [BitVec.ofNat 8 cause]) ∧
    u.dev.job = s.dev.job ∧
    ∀ k ∈ s.dev.reportFlows, (s.dev.sideUp (keyPair k) 0 = true ∨ s.dev.sideUp (keyPair k) 1 = true) →
      s.dev.Sent u.dev k 0x40 (BitVec.ofNat 8 cause :: List.replicate 7 0)
  (s.dev.off = false → p.pending = false → p.removing = false → s.dev.log.entries.length < 4096 →
    (∃ u, exec .attendPress s = .next u ∧ Asks u 0 ∧
      u.dev.panel = { p with pending := true, cause := 0, presses := min 255 (p.presses + 1) }) ∧
    (∃ u, exec .ejectorLift s = .next u ∧ Asks u 1 ∧ u.dev.panel = { p with pending := true, cause := 1, ejector := true })) ∧
  (s.dev.off = false → p.pending = true →
    (∃ u, exec .attendPress s = .next u ∧ s.dev.OnlyLog { u.dev with panel := p } ∧ Counts u ∧ u.dev.net = s.dev.net ∧
      u.dev.panel = { p with presses := min 255 (p.presses + 1) }) ∧
    (∃ u, exec .ejectorLift s = .next u ∧ s.dev.OnlyLog { u.dev with panel := p } ∧ Counts u ∧ u.dev.net = s.dev.net ∧
      u.dev.panel = { p with ejector := true }) ∧
    (∃ u, exec .ejectorLower s = .next u ∧ s.dev.OnlyLog { u.dev with panel := p } ∧ Counts u ∧ u.dev.net = s.dev.net ∧
      u.dev.panel = { p with ejector := false })) ∧
  (p.pending = false → ∃ u, exec .ejectorLower s = .next u ∧ u.dev = { s.dev with panel := { p with ejector := false } }) ∧
  (p.pending = false → exec .attendReqResend s = .next s) ∧
  (p.pending = true → ∃ u, exec .attendReqResend s = .next u ∧ s.dev.OnlyNet u.dev ∧
    ∀ k ∈ s.dev.reportFlows, (s.dev.sideUp (keyPair k) 0 = true ∨ s.dev.sideUp (keyPair k) 1 = true) →
      s.dev.Sent u.dev k 0x40 (BitVec.ofNat 8 p.cause :: List.replicate 7 0)) ∧
  (p.lightDuration ≠ 0 → ∃ u, exec .lightTestExpiry s = .next u ∧ u.dev = { s.dev with panel := { p with lightMode := 0 } }) ∧
  (p.lightDuration = 0 → exec .lightTestExpiry s = .next s)

/-- Coolant, strap, sideband and clocks (R479 to R487). Readings are kept, and a condition that lasts is recorded once; a strap
that moves under a running processor is recorded and nothing else; the sideband reads the snapshot from the offset last
written, and its data bytes change nothing; a lost reference clock is recorded, and that of the SerDes takes the links down. -/
def Obligations.RearSignals : Prop := ∀ (s : State) (inlet outlet : Int) (flow level n : Nat) (data : List Byte) (last : Bool),
  let p := s.dev.panel
  let room := s.dev.log.entries.length < 4096
  (s.dev.off = false → ∃ u, exec (.coolantSample inlet outlet flow last) s = .next u ∧
    u.dev.panel = { p with inlet := inlet, outlet := outlet, coolFlow := flow, hotInlet := if last then decide (640 < inlet) else p.hotInlet,
                           lowFlow := if last then decide (flow < 800) else p.lowFlow } ∧
    (last = false → u.dev = { s.dev with panel := u.dev.panel }) ∧
    (last = true → 640 < inlet → p.hotInlet = false → 800 ≤ flow → room → s.dev.NewEntry u.dev Code.modCoolant) ∧
    (last = true → inlet ≤ 640 → flow < 800 → p.lowFlow = false → room → s.dev.NewEntry u.dev Code.modCoolant)) ∧
  (level % 2 = s.dev.boot.strapPin → exec (.strapChange level) s = .next s) ∧
  (level % 2 ≠ s.dev.boot.strapPin → ∃ u, exec (.strapChange level) s = .next u ∧
    u.dev.boot = { s.dev.boot with strapPin := level % 2 } ∧ s.dev.OnlyLog { u.dev with boot := s.dev.boot } ∧
    (2 ≤ (s.dev.mp 0).run → room → s.dev.NewEntry u.dev Code.modStrapChanged)) ∧
  (s.dev.i2cUp = true →
    (∃ u, exec (.i2cWrite level data) s = .next u ∧ u.dev = { s.dev with panel := { p with i2cOffset := level % 256 } }) ∧
    (∃ u, exec (.i2cRead n) s = .next u ∧ u.dev = { s.dev with panel := { p with i2cOut := u.dev.panel.i2cOut } } ∧
      u.dev.panel.i2cOut.length = n ∧
      ∀ i, i < n → p.i2cOffset + i < p.snapshot.length → u.dev.panel.i2cOut[i]? = p.snapshot[p.i2cOffset + i]?) ∧
    (∃ u, exec (.i2cSnapshotRefresh n) s = .next u ∧ u.dev.power = { s.dev.power with inputPower := n } ∧
      u.dev.panel = { p with snapshot := u.dev.i2cRegisters } ∧ u.dev.panel.snapshot.length = 22)) ∧
  (s.dev.off = false →
    (p.coreHoldover = false → room → ∃ u, exec (.refclockLoss false) s = .next u ∧ s.dev.NewEntry u.dev Code.modRefclockLost ∧
      u.dev.panel = { p with coreHoldover := true } ∧ ∀ m, u.dev.port m = s.dev.port m) ∧
    (p.serdesHoldover = false → ∃ u, exec (.refclockLoss true) s = .next u ∧ u.dev.panel = { p with serdesHoldover := true } ∧
      ∀ m, m < 16 → (s.dev.port m).link = true → (u.dev.port m).inUse = false ∧ (u.dev.port m).failed = true))

/-- Reports and saves (R429, R430, R501, R503). A due STATUS and the records no report has carried go out on every report flow
that is up, once; a save begins when the log has changed, and when it ends the flash holds the log. -/
def Obligations.Reports : Prop := ∀ (s : State),
  let l := s.dev.log
  let due := (l.entries.filter (fun e => !e.reported)).take 256
  let Reported := fun (u : State) (kind : Nat) (b : List Byte) =>
    ∀ k ∈ s.dev.reportFlows, (s.dev.sideUp (keyPair k) 0 = true ∨ s.dev.sideUp (keyPair k) 1 = true) → s.dev.Sent u.dev k kind b
  (s.dev.net.statusDue = true → s.dev.off = false → ∃ u, exec .statusChangeReport s = .next u ∧ s.dev.OnlyNet u.dev ∧
    u.dev.net.statusDue = false ∧ Reported u 0x07 (s.dev.statusPayload s.dev.primary)) ∧
  (s.dev.net.statusDue = false → exec .statusChangeReport s = .next s) ∧
  (due ≠ [] → ∃ u, exec .errorReport s = .next u ∧ Reported u 0x08 (due.flatMap LogEntry.record) ∧
    s.dev.OnlyLog u.dev ∧ u.dev.log.entries.length = l.entries.length ∧
    ∀ z, due.getLast? = some z → ∀ e ∈ u.dev.log.entries, e.seq ≤ z.seq → e.reported = true) ∧
  (due = [] → exec .errorReport s = .next s) ∧
  (l.changed = true → l.saving = false → s.dev.off = false → ∃ u, exec .logSavePeriodic s = .next u ∧
    u.dev = { s.dev with log := { l with saving := true } }) ∧
  (l.changed = false ∨ l.saving = true → exec .logSavePeriodic s = .next s) ∧
  (l.saving = true → ∃ u, exec .logSaveComplete s = .next u ∧ u.dev.mem = s.dev.mem ∧ u.dev.log.saving = false ∧
    u.dev.log.flash = l.entries ∧ u.dev.log.flashOther = l.flash ∧
    (l.clearAfterSave = false → u.dev.log.entries = l.entries) ∧
    (l.clearAfterSave = true → u.dev.log.entries = l.entries.filter (fun e => e.severity == 1 && !e.decided)) ∧
    (s.dev.panel.removing = true → s.dev.panel.removalReady = false → s.dev.stilled = true →
      u.dev.panel.removalReady = true ∧ ∀ n, n < 16 → (u.dev.port n).inUse = false)) ∧
  (l.saving = false → exec .logSaveComplete s = .next s)

/-! ## The queue, reset and the invariant (R2, R29, R55, R447, R461, R466) -/

/-- A step takes the command at the front of the queue and is its exec on the state with the queue's rest; with an empty queue the
module idles (assumption 1). -/
def Obligations.StepRunsFront : Prop := ∀ (s : State),
  (∀ (c : Instr) (rest : List Instr), step { s with pending := c :: rest } = exec c { s with pending := rest }) ∧
  step { s with pending := [] } = .next { s with pending := [] }

/-- Whatever the command and the state, a command has an outcome that is a next state, and its exec leaves the queue alone. -/
def Obligations.CommandsComplete : Prop := ∀ (c : Instr) (s : State), ∃ t, exec c s = .next t ∧ t.pending = s.pending

/-- What the spec says of the module right after power good (R29, R55, R398, R435, R447, R461, R498): memory reads zero; no die,
port or job is in service; the log and every counter are empty. -/
def Obligations.ResetValues : Prop :=
  let s := State.reset.dev
  (∀ a, memGet s.mem a = 0) ∧ s.boot.service = 0 ∧ s.boot.cause = 0 ∧ s.job.state = 0 ∧ s.power.level = 0 ∧
  (∀ n, (s.port n).inUse = false ∧ (s.port n).link = false ∧ (s.port n).rate = 0) ∧ (∀ d, (s.die d).power = 4) ∧
  (∀ o, Tab.get 0 s.counters o = 0) ∧ s.log.entries = [] ∧ s.frozen = none ∧ State.reset.pending = []

/-- The invariant holds at reset. -/
def Obligations.ResetInv : Prop := State.reset.Inv

/-- Every step keeps the memory's canonical form. -/
def Obligations.StepKeepsInv : Prop := ∀ (s t : State), s.Inv → step s = .next t → t.Inv
end

