-- ==== Sys2Proof/Laws/Tab.lean ====
section
/-! SUPPORT. Sparse tables: what a key reads after a write, and that every operation keeps the canonical form. -/

namespace Sys2Proof

variable {α : Type}

@[simp] theorem Tab.get_nil (d : α) (i : Nat) : Tab.get d [] i = d := rfl

theorem Tab.get_put (d v : α) (t : Tab α) (i j : Nat) :
    Tab.get d (Tab.put v t i) j = if j = i then v else Tab.get d t j := by
  induction t with
  | nil => simp [Tab.put, Tab.get]
  | cons e t ih =>
    obtain ⟨k, w⟩ := e
    by_cases h1 : i < k
    · rw [show Tab.put v ((k, w) :: t) i = (i, v) :: (k, w) :: t by simp [Tab.put, h1]]; rfl
    · by_cases h2 : i = k
      · subst h2
        rw [show Tab.put v ((i, w) :: t) i = (i, v) :: t by simp [Tab.put]]
        by_cases hj : j = i <;> simp [Tab.get, hj]
      · rw [show Tab.put v ((k, w) :: t) i = (k, w) :: Tab.put v t i by simp [Tab.put, h1, h2]]
        simp only [Tab.get, ih]
        by_cases hj : j = k
        · subst hj; simp only [if_true]; rw [if_neg (fun e => h2 e.symm)]
        · simp [hj]

theorem Tab.get_drop (d : α) (t : Tab α) (i j : Nat) :
    Tab.get d (t.filter (fun e => decide (e.1 ≠ i))) j = if j = i then d else Tab.get d t j := by
  induction t with
  | nil => simp
  | cons e t ih =>
    obtain ⟨k, w⟩ := e
    by_cases hk : k = i
    · subst hk; simp only [ne_eq, not_true_eq_false, decide_false, Bool.false_eq_true, not_false_eq_true, List.filter_cons_of_neg]
      rw [ih]; by_cases hj : j = k <;> simp [Tab.get, hj]
    · rw [List.filter_cons_of_pos (by simpa using hk)]
      simp only [Tab.get, ih]
      by_cases hj : j = k
      · subst hj; simp [hk]
      · simp [hj]

/-- A key reads what was put there; every other key reads as before. -/
theorem Tab.get_set [DecidableEq α] (d : α) (t : Tab α) (i j : Nat) (v : α) :
    Tab.get d (Tab.set d t i v) j = if j = i then v else Tab.get d t j := by
  unfold Tab.set
  by_cases hv : v = d
  · rw [if_pos hv, Tab.get_drop, hv]
  · rw [if_neg hv, Tab.get_put]

@[simp] theorem Tab.get_set_same [DecidableEq α] (d : α) (t : Tab α) (i : Nat) (v : α) :
    Tab.get d (Tab.set d t i v) i = v := by simp [Tab.get_set]

theorem Tab.get_set_other [DecidableEq α] (d : α) (t : Tab α) (i j : Nat) (v : α) (h : j ≠ i) :
    Tab.get d (Tab.set d t i v) j = Tab.get d t j := by simp [Tab.get_set, h]

/-- Clearing a range leaves every key outside it as it was, and every key inside it at the default. -/
theorem Tab.get_clear (d : α) (t : Tab α) (lo hi j : Nat) :
    Tab.get d (Tab.clear t lo hi) j = if lo ≤ j ∧ j < hi then d else Tab.get d t j := by
  unfold Tab.clear
  induction t with
  | nil => simp
  | cons e t ih =>
    obtain ⟨k, w⟩ := e
    by_cases hk : k < lo ∨ hi ≤ k
    · rw [List.filter_cons_of_pos (by simpa using hk)]
      simp only [Tab.get, ih]
      by_cases hj : j = k
      · subst hj; simp; omega
      · simp [hj]
    · rw [List.filter_cons_of_neg (by simpa using hk), ih]
      simp only [Tab.get]
      by_cases hj : j = k
      · subst hj; rw [if_pos (by omega), if_pos (by omega)]
      · simp [hj]

theorem Tab.wfFrom_weaken [DecidableEq α] (d : α) (t : Tab α) {lo hi : Nat} (h : lo ≤ hi)
    (w : Tab.wfFrom d hi t = true) : Tab.wfFrom d lo t = true := by
  cases t with
  | nil => rfl
  | cons e t =>
    simp only [Tab.wfFrom, Bool.and_eq_true, decide_eq_true_eq] at w ⊢
    exact ⟨⟨by omega, w.1.2⟩, w.2⟩

/-- Dropping entries keeps the canonical form. -/
theorem Tab.wfFrom_filter [DecidableEq α] (d : α) (p : Nat × α → Bool) (t : Tab α) :
    ∀ lo, Tab.wfFrom d lo t = true → Tab.wfFrom d lo (t.filter p) = true := by
  induction t with
  | nil => intro lo h; rfl
  | cons e t ih =>
    intro lo h
    simp only [Tab.wfFrom, Bool.and_eq_true, decide_eq_true_eq] at h
    by_cases hp : p e = true
    · rw [List.filter_cons_of_pos hp]
      simp only [Tab.wfFrom, Bool.and_eq_true, decide_eq_true_eq]
      exact ⟨h.1, ih _ h.2⟩
    · rw [List.filter_cons_of_neg hp]
      exact ih _ (Tab.wfFrom_weaken d t (by omega) h.2)

theorem Tab.wf_filter [DecidableEq α] (d : α) (p : Nat × α → Bool) (t : Tab α) (h : Tab.wf d t = true) :
    Tab.wf d (t.filter p) = true := Tab.wfFrom_filter d p t 0 h

theorem Tab.wfFrom_put [DecidableEq α] (d v : α) (hv : v ≠ d) (t : Tab α) (i : Nat) :
    ∀ lo, lo ≤ i → Tab.wfFrom d lo t = true → Tab.wfFrom d lo (Tab.put v t i) = true := by
  induction t with
  | nil => intro lo hl _; simp [Tab.put, Tab.wfFrom, hv, hl]
  | cons e t ih =>
    intro lo hl h
    obtain ⟨k, w⟩ := e
    simp only [Tab.wfFrom, Bool.and_eq_true, decide_eq_true_eq] at h
    unfold Tab.put
    split_ifs with h1 h2
    · simp only [Tab.wfFrom, Bool.and_eq_true, decide_eq_true_eq]
      exact ⟨⟨hl, hv⟩, ⟨by omega, h.1.2⟩, h.2⟩
    · subst h2
      simp only [Tab.wfFrom, Bool.and_eq_true, decide_eq_true_eq]
      exact ⟨⟨hl, hv⟩, h.2⟩
    · simp only [Tab.wfFrom, Bool.and_eq_true, decide_eq_true_eq]
      exact ⟨h.1, ih _ (by omega) h.2⟩

/-- Putting an entry keeps the canonical form. -/
theorem Tab.wf_set [DecidableEq α] (d : α) (t : Tab α) (i : Nat) (v : α) (h : Tab.wf d t = true) :
    Tab.wf d (Tab.set d t i v) = true := by
  unfold Tab.set
  split_ifs with hv
  · exact Tab.wf_filter d _ t h
  · exact Tab.wfFrom_put d v hv t i 0 (Nat.zero_le _) h

/-- Clearing a range keeps the canonical form. -/
theorem Tab.wf_clear [DecidableEq α] (d : α) (t : Tab α) (lo hi : Nat) (h : Tab.wf d t = true) :
    Tab.wf d (Tab.clear t lo hi) = true := Tab.wf_filter d _ t h

end Sys2Proof
end

