-- ==== Sys2Proof/Laws/State.lean ====
section
/-! SUPPORT. What each named update of the module leaves as it was, one lemma per field and update, and what an indexed part
reads after it is changed. -/

namespace Sys2Proof.Machine

@[simp] theorem State.onDev_dev (s : State) (f : Device → Device) : (s.onDev f).dev = f s.dev := rfl
@[simp] theorem State.onDev_pending (s : State) (f : Device → Device) : (s.onDev f).pending = s.pending := rfl

/-! ### `setCluster` -/

@[simp] theorem Device.setCluster_mem (s : Device) (g : Nat) (c : Cluster) : (s.setCluster g c).mem = s.mem := rfl
@[simp] theorem Device.setCluster_damaged (s : Device) (g : Nat) (c : Cluster) : (s.setCluster g c).damaged = s.damaged := rfl
@[simp] theorem Device.setCluster_ident (s : Device) (g : Nat) (c : Cluster) : (s.setCluster g c).ident = s.ident := rfl
@[simp] theorem Device.setCluster_fuses (s : Device) (g : Nat) (c : Cluster) : (s.setCluster g c).fuses = s.fuses := rfl
@[simp] theorem Device.setCluster_mps (s : Device) (g : Nat) (c : Cluster) : (s.setCluster g c).mps = s.mps := rfl
@[simp] theorem Device.setCluster_boot (s : Device) (g : Nat) (c : Cluster) : (s.setCluster g c).boot = s.boot := rfl
@[simp] theorem Device.setCluster_power (s : Device) (g : Nat) (c : Cluster) : (s.setCluster g c).power = s.power := rfl
@[simp] theorem Device.setCluster_panel (s : Device) (g : Nat) (c : Cluster) : (s.setCluster g c).panel = s.panel := rfl
@[simp] theorem Device.setCluster_log (s : Device) (g : Nat) (c : Cluster) : (s.setCluster g c).log = s.log := rfl
@[simp] theorem Device.setCluster_net (s : Device) (g : Nat) (c : Cluster) : (s.setCluster g c).net = s.net := rfl
@[simp] theorem Device.setCluster_job (s : Device) (g : Nat) (c : Cluster) : (s.setCluster g c).job = s.job := rfl
@[simp] theorem Device.setCluster_ops (s : Device) (g : Nat) (c : Cluster) : (s.setCluster g c).ops = s.ops := rfl
@[simp] theorem Device.setCluster_endedOps (s : Device) (g : Nat) (c : Cluster) : (s.setCluster g c).endedOps = s.endedOps := rfl
@[simp] theorem Device.setCluster_serials (s : Device) (g : Nat) (c : Cluster) : (s.setCluster g c).serials = s.serials := rfl
@[simp] theorem Device.setCluster_quads (s : Device) (g : Nat) (c : Cluster) : (s.setCluster g c).quads = s.quads := rfl
@[simp] theorem Device.setCluster_dies (s : Device) (g : Nat) (c : Cluster) : (s.setCluster g c).dies = s.dies := rfl
@[simp] theorem Device.setCluster_stripes (s : Device) (g : Nat) (c : Cluster) : (s.setCluster g c).stripes = s.stripes := rfl
@[simp] theorem Device.setCluster_ingest (s : Device) (g : Nat) (c : Cluster) : (s.setCluster g c).ingest = s.ingest := rfl
@[simp] theorem Device.setCluster_pdies (s : Device) (g : Nat) (c : Cluster) : (s.setCluster g c).pdies = s.pdies := rfl
@[simp] theorem Device.setCluster_reduction (s : Device) (g : Nat) (c : Cluster) : (s.setCluster g c).reduction = s.reduction := rfl
@[simp] theorem Device.setCluster_stepTokens (s : Device) (g : Nat) (c : Cluster) : (s.setCluster g c).stepTokens = s.stepTokens := rfl
@[simp] theorem Device.setCluster_streamTokens (s : Device) (g : Nat) (c : Cluster) : (s.setCluster g c).streamTokens = s.streamTokens := rfl
@[simp] theorem Device.setCluster_counters (s : Device) (g : Nat) (c : Cluster) : (s.setCluster g c).counters = s.counters := rfl
@[simp] theorem Device.setCluster_frozen (s : Device) (g : Nat) (c : Cluster) : (s.setCluster g c).frozen = s.frozen := rfl
@[simp] theorem Device.setCluster_corrected (s : Device) (g : Nat) (c : Cluster) : (s.setCluster g c).corrected = s.corrected := rfl
@[simp] theorem Device.setCluster_correctedFrom (s : Device) (g : Nat) (c : Cluster) : (s.setCluster g c).correctedFrom = s.correctedFrom := rfl
@[simp] theorem Device.setCluster_fresh (s : Device) (g : Nat) (c : Cluster) : (s.setCluster g c).fresh = s.fresh := rfl
@[simp] theorem Device.setCluster_quad (s : Device) (g : Nat) (c : Cluster) (i j : Nat) : (s.setCluster g c).quad i j = s.quad i j := rfl
@[simp] theorem Device.setCluster_die (s : Device) (g : Nat) (c : Cluster) (i : Nat) : (s.setCluster g c).die i = s.die i := rfl
@[simp] theorem Device.setCluster_stripe (s : Device) (g : Nat) (c : Cluster) (i : Nat) : (s.setCluster g c).stripe i = s.stripe i := rfl
@[simp] theorem Device.setCluster_pdie (s : Device) (g : Nat) (c : Cluster) (i : Nat) : (s.setCluster g c).pdie i = s.pdie i := rfl
@[simp] theorem Device.setCluster_mp (s : Device) (g : Nat) (c : Cluster) (i : Nat) : (s.setCluster g c).mp i = s.mp i := rfl
@[simp] theorem Device.setCluster_fuse (s : Device) (g : Nat) (c : Cluster) (i : Nat) : (s.setCluster g c).fuse i = s.fuse i := rfl
@[simp] theorem Device.setCluster_port (s : Device) (g : Nat) (c : Cluster) (i : Nat) : (s.setCluster g c).port i = s.port i := rfl
@[simp] theorem Device.setCluster_flow (s : Device) (g : Nat) (c : Cluster) (i : Nat) : (s.setCluster g c).flow i = s.flow i := rfl

/-! ### `modCluster` -/

@[simp] theorem Device.modCluster_mem (s : Device) (g : Nat) (f : Cluster → Cluster) : (s.modCluster g f).mem = s.mem := rfl
@[simp] theorem Device.modCluster_damaged (s : Device) (g : Nat) (f : Cluster → Cluster) : (s.modCluster g f).damaged = s.damaged := rfl
@[simp] theorem Device.modCluster_ident (s : Device) (g : Nat) (f : Cluster → Cluster) : (s.modCluster g f).ident = s.ident := rfl
@[simp] theorem Device.modCluster_fuses (s : Device) (g : Nat) (f : Cluster → Cluster) : (s.modCluster g f).fuses = s.fuses := rfl
@[simp] theorem Device.modCluster_mps (s : Device) (g : Nat) (f : Cluster → Cluster) : (s.modCluster g f).mps = s.mps := rfl
@[simp] theorem Device.modCluster_boot (s : Device) (g : Nat) (f : Cluster → Cluster) : (s.modCluster g f).boot = s.boot := rfl
@[simp] theorem Device.modCluster_power (s : Device) (g : Nat) (f : Cluster → Cluster) : (s.modCluster g f).power = s.power := rfl
@[simp] theorem Device.modCluster_panel (s : Device) (g : Nat) (f : Cluster → Cluster) : (s.modCluster g f).panel = s.panel := rfl
@[simp] theorem Device.modCluster_log (s : Device) (g : Nat) (f : Cluster → Cluster) : (s.modCluster g f).log = s.log := rfl
@[simp] theorem Device.modCluster_net (s : Device) (g : Nat) (f : Cluster → Cluster) : (s.modCluster g f).net = s.net := rfl
@[simp] theorem Device.modCluster_job (s : Device) (g : Nat) (f : Cluster → Cluster) : (s.modCluster g f).job = s.job := rfl
@[simp] theorem Device.modCluster_ops (s : Device) (g : Nat) (f : Cluster → Cluster) : (s.modCluster g f).ops = s.ops := rfl
@[simp] theorem Device.modCluster_endedOps (s : Device) (g : Nat) (f : Cluster → Cluster) : (s.modCluster g f).endedOps = s.endedOps := rfl
@[simp] theorem Device.modCluster_serials (s : Device) (g : Nat) (f : Cluster → Cluster) : (s.modCluster g f).serials = s.serials := rfl
@[simp] theorem Device.modCluster_quads (s : Device) (g : Nat) (f : Cluster → Cluster) : (s.modCluster g f).quads = s.quads := rfl
@[simp] theorem Device.modCluster_dies (s : Device) (g : Nat) (f : Cluster → Cluster) : (s.modCluster g f).dies = s.dies := rfl
@[simp] theorem Device.modCluster_stripes (s : Device) (g : Nat) (f : Cluster → Cluster) : (s.modCluster g f).stripes = s.stripes := rfl
@[simp] theorem Device.modCluster_ingest (s : Device) (g : Nat) (f : Cluster → Cluster) : (s.modCluster g f).ingest = s.ingest := rfl
@[simp] theorem Device.modCluster_pdies (s : Device) (g : Nat) (f : Cluster → Cluster) : (s.modCluster g f).pdies = s.pdies := rfl
@[simp] theorem Device.modCluster_reduction (s : Device) (g : Nat) (f : Cluster → Cluster) : (s.modCluster g f).reduction = s.reduction := rfl
@[simp] theorem Device.modCluster_stepTokens (s : Device) (g : Nat) (f : Cluster → Cluster) : (s.modCluster g f).stepTokens = s.stepTokens := rfl
@[simp] theorem Device.modCluster_streamTokens (s : Device) (g : Nat) (f : Cluster → Cluster) : (s.modCluster g f).streamTokens = s.streamTokens := rfl
@[simp] theorem Device.modCluster_counters (s : Device) (g : Nat) (f : Cluster → Cluster) : (s.modCluster g f).counters = s.counters := rfl
@[simp] theorem Device.modCluster_frozen (s : Device) (g : Nat) (f : Cluster → Cluster) : (s.modCluster g f).frozen = s.frozen := rfl
@[simp] theorem Device.modCluster_corrected (s : Device) (g : Nat) (f : Cluster → Cluster) : (s.modCluster g f).corrected = s.corrected := rfl
@[simp] theorem Device.modCluster_correctedFrom (s : Device) (g : Nat) (f : Cluster → Cluster) : (s.modCluster g f).correctedFrom = s.correctedFrom := rfl
@[simp] theorem Device.modCluster_fresh (s : Device) (g : Nat) (f : Cluster → Cluster) : (s.modCluster g f).fresh = s.fresh := rfl
@[simp] theorem Device.modCluster_quad (s : Device) (g : Nat) (f : Cluster → Cluster) (i j : Nat) : (s.modCluster g f).quad i j = s.quad i j := rfl
@[simp] theorem Device.modCluster_die (s : Device) (g : Nat) (f : Cluster → Cluster) (i : Nat) : (s.modCluster g f).die i = s.die i := rfl
@[simp] theorem Device.modCluster_stripe (s : Device) (g : Nat) (f : Cluster → Cluster) (i : Nat) : (s.modCluster g f).stripe i = s.stripe i := rfl
@[simp] theorem Device.modCluster_pdie (s : Device) (g : Nat) (f : Cluster → Cluster) (i : Nat) : (s.modCluster g f).pdie i = s.pdie i := rfl
@[simp] theorem Device.modCluster_mp (s : Device) (g : Nat) (f : Cluster → Cluster) (i : Nat) : (s.modCluster g f).mp i = s.mp i := rfl
@[simp] theorem Device.modCluster_fuse (s : Device) (g : Nat) (f : Cluster → Cluster) (i : Nat) : (s.modCluster g f).fuse i = s.fuse i := rfl
@[simp] theorem Device.modCluster_port (s : Device) (g : Nat) (f : Cluster → Cluster) (i : Nat) : (s.modCluster g f).port i = s.port i := rfl
@[simp] theorem Device.modCluster_flow (s : Device) (g : Nat) (f : Cluster → Cluster) (i : Nat) : (s.modCluster g f).flow i = s.flow i := rfl

/-! ### `modCtx` -/

@[simp] theorem Device.modCtx_mem (s : Device) (g k : Nat) (f : Ctx → Ctx) : (s.modCtx g k f).mem = s.mem := rfl
@[simp] theorem Device.modCtx_damaged (s : Device) (g k : Nat) (f : Ctx → Ctx) : (s.modCtx g k f).damaged = s.damaged := rfl
@[simp] theorem Device.modCtx_ident (s : Device) (g k : Nat) (f : Ctx → Ctx) : (s.modCtx g k f).ident = s.ident := rfl
@[simp] theorem Device.modCtx_fuses (s : Device) (g k : Nat) (f : Ctx → Ctx) : (s.modCtx g k f).fuses = s.fuses := rfl
@[simp] theorem Device.modCtx_mps (s : Device) (g k : Nat) (f : Ctx → Ctx) : (s.modCtx g k f).mps = s.mps := rfl
@[simp] theorem Device.modCtx_boot (s : Device) (g k : Nat) (f : Ctx → Ctx) : (s.modCtx g k f).boot = s.boot := rfl
@[simp] theorem Device.modCtx_power (s : Device) (g k : Nat) (f : Ctx → Ctx) : (s.modCtx g k f).power = s.power := rfl
@[simp] theorem Device.modCtx_panel (s : Device) (g k : Nat) (f : Ctx → Ctx) : (s.modCtx g k f).panel = s.panel := rfl
@[simp] theorem Device.modCtx_log (s : Device) (g k : Nat) (f : Ctx → Ctx) : (s.modCtx g k f).log = s.log := rfl
@[simp] theorem Device.modCtx_net (s : Device) (g k : Nat) (f : Ctx → Ctx) : (s.modCtx g k f).net = s.net := rfl
@[simp] theorem Device.modCtx_job (s : Device) (g k : Nat) (f : Ctx → Ctx) : (s.modCtx g k f).job = s.job := rfl
@[simp] theorem Device.modCtx_ops (s : Device) (g k : Nat) (f : Ctx → Ctx) : (s.modCtx g k f).ops = s.ops := rfl
@[simp] theorem Device.modCtx_endedOps (s : Device) (g k : Nat) (f : Ctx → Ctx) : (s.modCtx g k f).endedOps = s.endedOps := rfl
@[simp] theorem Device.modCtx_serials (s : Device) (g k : Nat) (f : Ctx → Ctx) : (s.modCtx g k f).serials = s.serials := rfl
@[simp] theorem Device.modCtx_quads (s : Device) (g k : Nat) (f : Ctx → Ctx) : (s.modCtx g k f).quads = s.quads := rfl
@[simp] theorem Device.modCtx_dies (s : Device) (g k : Nat) (f : Ctx → Ctx) : (s.modCtx g k f).dies = s.dies := rfl
@[simp] theorem Device.modCtx_stripes (s : Device) (g k : Nat) (f : Ctx → Ctx) : (s.modCtx g k f).stripes = s.stripes := rfl
@[simp] theorem Device.modCtx_ingest (s : Device) (g k : Nat) (f : Ctx → Ctx) : (s.modCtx g k f).ingest = s.ingest := rfl
@[simp] theorem Device.modCtx_pdies (s : Device) (g k : Nat) (f : Ctx → Ctx) : (s.modCtx g k f).pdies = s.pdies := rfl
@[simp] theorem Device.modCtx_reduction (s : Device) (g k : Nat) (f : Ctx → Ctx) : (s.modCtx g k f).reduction = s.reduction := rfl
@[simp] theorem Device.modCtx_stepTokens (s : Device) (g k : Nat) (f : Ctx → Ctx) : (s.modCtx g k f).stepTokens = s.stepTokens := rfl
@[simp] theorem Device.modCtx_streamTokens (s : Device) (g k : Nat) (f : Ctx → Ctx) : (s.modCtx g k f).streamTokens = s.streamTokens := rfl
@[simp] theorem Device.modCtx_counters (s : Device) (g k : Nat) (f : Ctx → Ctx) : (s.modCtx g k f).counters = s.counters := rfl
@[simp] theorem Device.modCtx_frozen (s : Device) (g k : Nat) (f : Ctx → Ctx) : (s.modCtx g k f).frozen = s.frozen := rfl
@[simp] theorem Device.modCtx_corrected (s : Device) (g k : Nat) (f : Ctx → Ctx) : (s.modCtx g k f).corrected = s.corrected := rfl
@[simp] theorem Device.modCtx_correctedFrom (s : Device) (g k : Nat) (f : Ctx → Ctx) : (s.modCtx g k f).correctedFrom = s.correctedFrom := rfl
@[simp] theorem Device.modCtx_fresh (s : Device) (g k : Nat) (f : Ctx → Ctx) : (s.modCtx g k f).fresh = s.fresh := rfl
@[simp] theorem Device.modCtx_quad (s : Device) (g k : Nat) (f : Ctx → Ctx) (i j : Nat) : (s.modCtx g k f).quad i j = s.quad i j := rfl
@[simp] theorem Device.modCtx_die (s : Device) (g k : Nat) (f : Ctx → Ctx) (i : Nat) : (s.modCtx g k f).die i = s.die i := rfl
@[simp] theorem Device.modCtx_stripe (s : Device) (g k : Nat) (f : Ctx → Ctx) (i : Nat) : (s.modCtx g k f).stripe i = s.stripe i := rfl
@[simp] theorem Device.modCtx_pdie (s : Device) (g k : Nat) (f : Ctx → Ctx) (i : Nat) : (s.modCtx g k f).pdie i = s.pdie i := rfl
@[simp] theorem Device.modCtx_mp (s : Device) (g k : Nat) (f : Ctx → Ctx) (i : Nat) : (s.modCtx g k f).mp i = s.mp i := rfl
@[simp] theorem Device.modCtx_fuse (s : Device) (g k : Nat) (f : Ctx → Ctx) (i : Nat) : (s.modCtx g k f).fuse i = s.fuse i := rfl
@[simp] theorem Device.modCtx_port (s : Device) (g k : Nat) (f : Ctx → Ctx) (i : Nat) : (s.modCtx g k f).port i = s.port i := rfl
@[simp] theorem Device.modCtx_flow (s : Device) (g k : Nat) (f : Ctx → Ctx) (i : Nat) : (s.modCtx g k f).flow i = s.flow i := rfl

/-! ### `modQuad` -/

@[simp] theorem Device.modQuad_mem (s : Device) (d q : Nat) (f : Quadrant → Quadrant) : (s.modQuad d q f).mem = s.mem := rfl
@[simp] theorem Device.modQuad_damaged (s : Device) (d q : Nat) (f : Quadrant → Quadrant) : (s.modQuad d q f).damaged = s.damaged := rfl
@[simp] theorem Device.modQuad_ident (s : Device) (d q : Nat) (f : Quadrant → Quadrant) : (s.modQuad d q f).ident = s.ident := rfl
@[simp] theorem Device.modQuad_fuses (s : Device) (d q : Nat) (f : Quadrant → Quadrant) : (s.modQuad d q f).fuses = s.fuses := rfl
@[simp] theorem Device.modQuad_mps (s : Device) (d q : Nat) (f : Quadrant → Quadrant) : (s.modQuad d q f).mps = s.mps := rfl
@[simp] theorem Device.modQuad_boot (s : Device) (d q : Nat) (f : Quadrant → Quadrant) : (s.modQuad d q f).boot = s.boot := rfl
@[simp] theorem Device.modQuad_power (s : Device) (d q : Nat) (f : Quadrant → Quadrant) : (s.modQuad d q f).power = s.power := rfl
@[simp] theorem Device.modQuad_panel (s : Device) (d q : Nat) (f : Quadrant → Quadrant) : (s.modQuad d q f).panel = s.panel := rfl
@[simp] theorem Device.modQuad_log (s : Device) (d q : Nat) (f : Quadrant → Quadrant) : (s.modQuad d q f).log = s.log := rfl
@[simp] theorem Device.modQuad_net (s : Device) (d q : Nat) (f : Quadrant → Quadrant) : (s.modQuad d q f).net = s.net := rfl
@[simp] theorem Device.modQuad_job (s : Device) (d q : Nat) (f : Quadrant → Quadrant) : (s.modQuad d q f).job = s.job := rfl
@[simp] theorem Device.modQuad_ops (s : Device) (d q : Nat) (f : Quadrant → Quadrant) : (s.modQuad d q f).ops = s.ops := rfl
@[simp] theorem Device.modQuad_endedOps (s : Device) (d q : Nat) (f : Quadrant → Quadrant) : (s.modQuad d q f).endedOps = s.endedOps := rfl
@[simp] theorem Device.modQuad_serials (s : Device) (d q : Nat) (f : Quadrant → Quadrant) : (s.modQuad d q f).serials = s.serials := rfl
@[simp] theorem Device.modQuad_clusters (s : Device) (d q : Nat) (f : Quadrant → Quadrant) : (s.modQuad d q f).clusters = s.clusters := rfl
@[simp] theorem Device.modQuad_dies (s : Device) (d q : Nat) (f : Quadrant → Quadrant) : (s.modQuad d q f).dies = s.dies := rfl
@[simp] theorem Device.modQuad_stripes (s : Device) (d q : Nat) (f : Quadrant → Quadrant) : (s.modQuad d q f).stripes = s.stripes := rfl
@[simp] theorem Device.modQuad_ingest (s : Device) (d q : Nat) (f : Quadrant → Quadrant) : (s.modQuad d q f).ingest = s.ingest := rfl
@[simp] theorem Device.modQuad_pdies (s : Device) (d q : Nat) (f : Quadrant → Quadrant) : (s.modQuad d q f).pdies = s.pdies := rfl
@[simp] theorem Device.modQuad_reduction (s : Device) (d q : Nat) (f : Quadrant → Quadrant) : (s.modQuad d q f).reduction = s.reduction := rfl
@[simp] theorem Device.modQuad_stepTokens (s : Device) (d q : Nat) (f : Quadrant → Quadrant) : (s.modQuad d q f).stepTokens = s.stepTokens := rfl
@[simp] theorem Device.modQuad_streamTokens (s : Device) (d q : Nat) (f : Quadrant → Quadrant) : (s.modQuad d q f).streamTokens = s.streamTokens := rfl
@[simp] theorem Device.modQuad_counters (s : Device) (d q : Nat) (f : Quadrant → Quadrant) : (s.modQuad d q f).counters = s.counters := rfl
@[simp] theorem Device.modQuad_frozen (s : Device) (d q : Nat) (f : Quadrant → Quadrant) : (s.modQuad d q f).frozen = s.frozen := rfl
@[simp] theorem Device.modQuad_corrected (s : Device) (d q : Nat) (f : Quadrant → Quadrant) : (s.modQuad d q f).corrected = s.corrected := rfl
@[simp] theorem Device.modQuad_correctedFrom (s : Device) (d q : Nat) (f : Quadrant → Quadrant) : (s.modQuad d q f).correctedFrom = s.correctedFrom := rfl
@[simp] theorem Device.modQuad_fresh (s : Device) (d q : Nat) (f : Quadrant → Quadrant) : (s.modQuad d q f).fresh = s.fresh := rfl
@[simp] theorem Device.modQuad_cluster (s : Device) (d q : Nat) (f : Quadrant → Quadrant) (i : Nat) : (s.modQuad d q f).cluster i = s.cluster i := rfl
@[simp] theorem Device.modQuad_die (s : Device) (d q : Nat) (f : Quadrant → Quadrant) (i : Nat) : (s.modQuad d q f).die i = s.die i := rfl
@[simp] theorem Device.modQuad_stripe (s : Device) (d q : Nat) (f : Quadrant → Quadrant) (i : Nat) : (s.modQuad d q f).stripe i = s.stripe i := rfl
@[simp] theorem Device.modQuad_pdie (s : Device) (d q : Nat) (f : Quadrant → Quadrant) (i : Nat) : (s.modQuad d q f).pdie i = s.pdie i := rfl
@[simp] theorem Device.modQuad_mp (s : Device) (d q : Nat) (f : Quadrant → Quadrant) (i : Nat) : (s.modQuad d q f).mp i = s.mp i := rfl
@[simp] theorem Device.modQuad_fuse (s : Device) (d q : Nat) (f : Quadrant → Quadrant) (i : Nat) : (s.modQuad d q f).fuse i = s.fuse i := rfl
@[simp] theorem Device.modQuad_port (s : Device) (d q : Nat) (f : Quadrant → Quadrant) (i : Nat) : (s.modQuad d q f).port i = s.port i := rfl
@[simp] theorem Device.modQuad_flow (s : Device) (d q : Nat) (f : Quadrant → Quadrant) (i : Nat) : (s.modQuad d q f).flow i = s.flow i := rfl

/-! ### `modPlay` -/

@[simp] theorem Device.modPlay_mem (s : Device) (d q p : Nat) (f : Play → Play) : (s.modPlay d q p f).mem = s.mem := rfl
@[simp] theorem Device.modPlay_damaged (s : Device) (d q p : Nat) (f : Play → Play) : (s.modPlay d q p f).damaged = s.damaged := rfl
@[simp] theorem Device.modPlay_ident (s : Device) (d q p : Nat) (f : Play → Play) : (s.modPlay d q p f).ident = s.ident := rfl
@[simp] theorem Device.modPlay_fuses (s : Device) (d q p : Nat) (f : Play → Play) : (s.modPlay d q p f).fuses = s.fuses := rfl
@[simp] theorem Device.modPlay_mps (s : Device) (d q p : Nat) (f : Play → Play) : (s.modPlay d q p f).mps = s.mps := rfl
@[simp] theorem Device.modPlay_boot (s : Device) (d q p : Nat) (f : Play → Play) : (s.modPlay d q p f).boot = s.boot := rfl
@[simp] theorem Device.modPlay_power (s : Device) (d q p : Nat) (f : Play → Play) : (s.modPlay d q p f).power = s.power := rfl
@[simp] theorem Device.modPlay_panel (s : Device) (d q p : Nat) (f : Play → Play) : (s.modPlay d q p f).panel = s.panel := rfl
@[simp] theorem Device.modPlay_log (s : Device) (d q p : Nat) (f : Play → Play) : (s.modPlay d q p f).log = s.log := rfl
@[simp] theorem Device.modPlay_net (s : Device) (d q p : Nat) (f : Play → Play) : (s.modPlay d q p f).net = s.net := rfl
@[simp] theorem Device.modPlay_job (s : Device) (d q p : Nat) (f : Play → Play) : (s.modPlay d q p f).job = s.job := rfl
@[simp] theorem Device.modPlay_ops (s : Device) (d q p : Nat) (f : Play → Play) : (s.modPlay d q p f).ops = s.ops := rfl
@[simp] theorem Device.modPlay_endedOps (s : Device) (d q p : Nat) (f : Play → Play) : (s.modPlay d q p f).endedOps = s.endedOps := rfl
@[simp] theorem Device.modPlay_serials (s : Device) (d q p : Nat) (f : Play → Play) : (s.modPlay d q p f).serials = s.serials := rfl
@[simp] theorem Device.modPlay_clusters (s : Device) (d q p : Nat) (f : Play → Play) : (s.modPlay d q p f).clusters = s.clusters := rfl
@[simp] theorem Device.modPlay_dies (s : Device) (d q p : Nat) (f : Play → Play) : (s.modPlay d q p f).dies = s.dies := rfl
@[simp] theorem Device.modPlay_stripes (s : Device) (d q p : Nat) (f : Play → Play) : (s.modPlay d q p f).stripes = s.stripes := rfl
@[simp] theorem Device.modPlay_ingest (s : Device) (d q p : Nat) (f : Play → Play) : (s.modPlay d q p f).ingest = s.ingest := rfl
@[simp] theorem Device.modPlay_pdies (s : Device) (d q p : Nat) (f : Play → Play) : (s.modPlay d q p f).pdies = s.pdies := rfl
@[simp] theorem Device.modPlay_reduction (s : Device) (d q p : Nat) (f : Play → Play) : (s.modPlay d q p f).reduction = s.reduction := rfl
@[simp] theorem Device.modPlay_stepTokens (s : Device) (d q p : Nat) (f : Play → Play) : (s.modPlay d q p f).stepTokens = s.stepTokens := rfl
@[simp] theorem Device.modPlay_streamTokens (s : Device) (d q p : Nat) (f : Play → Play) : (s.modPlay d q p f).streamTokens = s.streamTokens := rfl
@[simp] theorem Device.modPlay_counters (s : Device) (d q p : Nat) (f : Play → Play) : (s.modPlay d q p f).counters = s.counters := rfl
@[simp] theorem Device.modPlay_frozen (s : Device) (d q p : Nat) (f : Play → Play) : (s.modPlay d q p f).frozen = s.frozen := rfl
@[simp] theorem Device.modPlay_corrected (s : Device) (d q p : Nat) (f : Play → Play) : (s.modPlay d q p f).corrected = s.corrected := rfl
@[simp] theorem Device.modPlay_correctedFrom (s : Device) (d q p : Nat) (f : Play → Play) : (s.modPlay d q p f).correctedFrom = s.correctedFrom := rfl
@[simp] theorem Device.modPlay_fresh (s : Device) (d q p : Nat) (f : Play → Play) : (s.modPlay d q p f).fresh = s.fresh := rfl
@[simp] theorem Device.modPlay_cluster (s : Device) (d q p : Nat) (f : Play → Play) (i : Nat) : (s.modPlay d q p f).cluster i = s.cluster i := rfl
@[simp] theorem Device.modPlay_die (s : Device) (d q p : Nat) (f : Play → Play) (i : Nat) : (s.modPlay d q p f).die i = s.die i := rfl
@[simp] theorem Device.modPlay_stripe (s : Device) (d q p : Nat) (f : Play → Play) (i : Nat) : (s.modPlay d q p f).stripe i = s.stripe i := rfl
@[simp] theorem Device.modPlay_pdie (s : Device) (d q p : Nat) (f : Play → Play) (i : Nat) : (s.modPlay d q p f).pdie i = s.pdie i := rfl
@[simp] theorem Device.modPlay_mp (s : Device) (d q p : Nat) (f : Play → Play) (i : Nat) : (s.modPlay d q p f).mp i = s.mp i := rfl
@[simp] theorem Device.modPlay_fuse (s : Device) (d q p : Nat) (f : Play → Play) (i : Nat) : (s.modPlay d q p f).fuse i = s.fuse i := rfl
@[simp] theorem Device.modPlay_port (s : Device) (d q p : Nat) (f : Play → Play) (i : Nat) : (s.modPlay d q p f).port i = s.port i := rfl
@[simp] theorem Device.modPlay_flow (s : Device) (d q p : Nat) (f : Play → Play) (i : Nat) : (s.modPlay d q p f).flow i = s.flow i := rfl

/-! ### `modDie` -/

@[simp] theorem Device.modDie_mem (s : Device) (d : Nat) (f : Die → Die) : (s.modDie d f).mem = s.mem := rfl
@[simp] theorem Device.modDie_damaged (s : Device) (d : Nat) (f : Die → Die) : (s.modDie d f).damaged = s.damaged := rfl
@[simp] theorem Device.modDie_ident (s : Device) (d : Nat) (f : Die → Die) : (s.modDie d f).ident = s.ident := rfl
@[simp] theorem Device.modDie_fuses (s : Device) (d : Nat) (f : Die → Die) : (s.modDie d f).fuses = s.fuses := rfl
@[simp] theorem Device.modDie_mps (s : Device) (d : Nat) (f : Die → Die) : (s.modDie d f).mps = s.mps := rfl
@[simp] theorem Device.modDie_boot (s : Device) (d : Nat) (f : Die → Die) : (s.modDie d f).boot = s.boot := rfl
@[simp] theorem Device.modDie_power (s : Device) (d : Nat) (f : Die → Die) : (s.modDie d f).power = s.power := rfl
@[simp] theorem Device.modDie_panel (s : Device) (d : Nat) (f : Die → Die) : (s.modDie d f).panel = s.panel := rfl
@[simp] theorem Device.modDie_log (s : Device) (d : Nat) (f : Die → Die) : (s.modDie d f).log = s.log := rfl
@[simp] theorem Device.modDie_net (s : Device) (d : Nat) (f : Die → Die) : (s.modDie d f).net = s.net := rfl
@[simp] theorem Device.modDie_job (s : Device) (d : Nat) (f : Die → Die) : (s.modDie d f).job = s.job := rfl
@[simp] theorem Device.modDie_ops (s : Device) (d : Nat) (f : Die → Die) : (s.modDie d f).ops = s.ops := rfl
@[simp] theorem Device.modDie_endedOps (s : Device) (d : Nat) (f : Die → Die) : (s.modDie d f).endedOps = s.endedOps := rfl
@[simp] theorem Device.modDie_serials (s : Device) (d : Nat) (f : Die → Die) : (s.modDie d f).serials = s.serials := rfl
@[simp] theorem Device.modDie_clusters (s : Device) (d : Nat) (f : Die → Die) : (s.modDie d f).clusters = s.clusters := rfl
@[simp] theorem Device.modDie_quads (s : Device) (d : Nat) (f : Die → Die) : (s.modDie d f).quads = s.quads := rfl
@[simp] theorem Device.modDie_stripes (s : Device) (d : Nat) (f : Die → Die) : (s.modDie d f).stripes = s.stripes := rfl
@[simp] theorem Device.modDie_ingest (s : Device) (d : Nat) (f : Die → Die) : (s.modDie d f).ingest = s.ingest := rfl
@[simp] theorem Device.modDie_pdies (s : Device) (d : Nat) (f : Die → Die) : (s.modDie d f).pdies = s.pdies := rfl
@[simp] theorem Device.modDie_reduction (s : Device) (d : Nat) (f : Die → Die) : (s.modDie d f).reduction = s.reduction := rfl
@[simp] theorem Device.modDie_stepTokens (s : Device) (d : Nat) (f : Die → Die) : (s.modDie d f).stepTokens = s.stepTokens := rfl
@[simp] theorem Device.modDie_streamTokens (s : Device) (d : Nat) (f : Die → Die) : (s.modDie d f).streamTokens = s.streamTokens := rfl
@[simp] theorem Device.modDie_counters (s : Device) (d : Nat) (f : Die → Die) : (s.modDie d f).counters = s.counters := rfl
@[simp] theorem Device.modDie_frozen (s : Device) (d : Nat) (f : Die → Die) : (s.modDie d f).frozen = s.frozen := rfl
@[simp] theorem Device.modDie_corrected (s : Device) (d : Nat) (f : Die → Die) : (s.modDie d f).corrected = s.corrected := rfl
@[simp] theorem Device.modDie_correctedFrom (s : Device) (d : Nat) (f : Die → Die) : (s.modDie d f).correctedFrom = s.correctedFrom := rfl
@[simp] theorem Device.modDie_fresh (s : Device) (d : Nat) (f : Die → Die) : (s.modDie d f).fresh = s.fresh := rfl
@[simp] theorem Device.modDie_cluster (s : Device) (d : Nat) (f : Die → Die) (i : Nat) : (s.modDie d f).cluster i = s.cluster i := rfl
@[simp] theorem Device.modDie_quad (s : Device) (d : Nat) (f : Die → Die) (i j : Nat) : (s.modDie d f).quad i j = s.quad i j := rfl
@[simp] theorem Device.modDie_stripe (s : Device) (d : Nat) (f : Die → Die) (i : Nat) : (s.modDie d f).stripe i = s.stripe i := rfl
@[simp] theorem Device.modDie_pdie (s : Device) (d : Nat) (f : Die → Die) (i : Nat) : (s.modDie d f).pdie i = s.pdie i := rfl
@[simp] theorem Device.modDie_mp (s : Device) (d : Nat) (f : Die → Die) (i : Nat) : (s.modDie d f).mp i = s.mp i := rfl
@[simp] theorem Device.modDie_fuse (s : Device) (d : Nat) (f : Die → Die) (i : Nat) : (s.modDie d f).fuse i = s.fuse i := rfl
@[simp] theorem Device.modDie_port (s : Device) (d : Nat) (f : Die → Die) (i : Nat) : (s.modDie d f).port i = s.port i := rfl
@[simp] theorem Device.modDie_flow (s : Device) (d : Nat) (f : Die → Die) (i : Nat) : (s.modDie d f).flow i = s.flow i := rfl

/-! ### `modStripe` -/

@[simp] theorem Device.modStripe_mem (s : Device) (t : Nat) (f : Stripe → Stripe) : (s.modStripe t f).mem = s.mem := rfl
@[simp] theorem Device.modStripe_damaged (s : Device) (t : Nat) (f : Stripe → Stripe) : (s.modStripe t f).damaged = s.damaged := rfl
@[simp] theorem Device.modStripe_ident (s : Device) (t : Nat) (f : Stripe → Stripe) : (s.modStripe t f).ident = s.ident := rfl
@[simp] theorem Device.modStripe_fuses (s : Device) (t : Nat) (f : Stripe → Stripe) : (s.modStripe t f).fuses = s.fuses := rfl
@[simp] theorem Device.modStripe_mps (s : Device) (t : Nat) (f : Stripe → Stripe) : (s.modStripe t f).mps = s.mps := rfl
@[simp] theorem Device.modStripe_boot (s : Device) (t : Nat) (f : Stripe → Stripe) : (s.modStripe t f).boot = s.boot := rfl
@[simp] theorem Device.modStripe_power (s : Device) (t : Nat) (f : Stripe → Stripe) : (s.modStripe t f).power = s.power := rfl
@[simp] theorem Device.modStripe_panel (s : Device) (t : Nat) (f : Stripe → Stripe) : (s.modStripe t f).panel = s.panel := rfl
@[simp] theorem Device.modStripe_log (s : Device) (t : Nat) (f : Stripe → Stripe) : (s.modStripe t f).log = s.log := rfl
@[simp] theorem Device.modStripe_net (s : Device) (t : Nat) (f : Stripe → Stripe) : (s.modStripe t f).net = s.net := rfl
@[simp] theorem Device.modStripe_job (s : Device) (t : Nat) (f : Stripe → Stripe) : (s.modStripe t f).job = s.job := rfl
@[simp] theorem Device.modStripe_ops (s : Device) (t : Nat) (f : Stripe → Stripe) : (s.modStripe t f).ops = s.ops := rfl
@[simp] theorem Device.modStripe_endedOps (s : Device) (t : Nat) (f : Stripe → Stripe) : (s.modStripe t f).endedOps = s.endedOps := rfl
@[simp] theorem Device.modStripe_serials (s : Device) (t : Nat) (f : Stripe → Stripe) : (s.modStripe t f).serials = s.serials := rfl
@[simp] theorem Device.modStripe_clusters (s : Device) (t : Nat) (f : Stripe → Stripe) : (s.modStripe t f).clusters = s.clusters := rfl
@[simp] theorem Device.modStripe_quads (s : Device) (t : Nat) (f : Stripe → Stripe) : (s.modStripe t f).quads = s.quads := rfl
@[simp] theorem Device.modStripe_dies (s : Device) (t : Nat) (f : Stripe → Stripe) : (s.modStripe t f).dies = s.dies := rfl
@[simp] theorem Device.modStripe_ingest (s : Device) (t : Nat) (f : Stripe → Stripe) : (s.modStripe t f).ingest = s.ingest := rfl
@[simp] theorem Device.modStripe_pdies (s : Device) (t : Nat) (f : Stripe → Stripe) : (s.modStripe t f).pdies = s.pdies := rfl
@[simp] theorem Device.modStripe_reduction (s : Device) (t : Nat) (f : Stripe → Stripe) : (s.modStripe t f).reduction = s.reduction := rfl
@[simp] theorem Device.modStripe_stepTokens (s : Device) (t : Nat) (f : Stripe → Stripe) : (s.modStripe t f).stepTokens = s.stepTokens := rfl
@[simp] theorem Device.modStripe_streamTokens (s : Device) (t : Nat) (f : Stripe → Stripe) : (s.modStripe t f).streamTokens = s.streamTokens := rfl
@[simp] theorem Device.modStripe_counters (s : Device) (t : Nat) (f : Stripe → Stripe) : (s.modStripe t f).counters = s.counters := rfl
@[simp] theorem Device.modStripe_frozen (s : Device) (t : Nat) (f : Stripe → Stripe) : (s.modStripe t f).frozen = s.frozen := rfl
@[simp] theorem Device.modStripe_corrected (s : Device) (t : Nat) (f : Stripe → Stripe) : (s.modStripe t f).corrected = s.corrected := rfl
@[simp] theorem Device.modStripe_correctedFrom (s : Device) (t : Nat) (f : Stripe → Stripe) : (s.modStripe t f).correctedFrom = s.correctedFrom := rfl
@[simp] theorem Device.modStripe_fresh (s : Device) (t : Nat) (f : Stripe → Stripe) : (s.modStripe t f).fresh = s.fresh := rfl
@[simp] theorem Device.modStripe_cluster (s : Device) (t : Nat) (f : Stripe → Stripe) (i : Nat) : (s.modStripe t f).cluster i = s.cluster i := rfl
@[simp] theorem Device.modStripe_quad (s : Device) (t : Nat) (f : Stripe → Stripe) (i j : Nat) : (s.modStripe t f).quad i j = s.quad i j := rfl
@[simp] theorem Device.modStripe_die (s : Device) (t : Nat) (f : Stripe → Stripe) (i : Nat) : (s.modStripe t f).die i = s.die i := rfl
@[simp] theorem Device.modStripe_pdie (s : Device) (t : Nat) (f : Stripe → Stripe) (i : Nat) : (s.modStripe t f).pdie i = s.pdie i := rfl
@[simp] theorem Device.modStripe_mp (s : Device) (t : Nat) (f : Stripe → Stripe) (i : Nat) : (s.modStripe t f).mp i = s.mp i := rfl
@[simp] theorem Device.modStripe_fuse (s : Device) (t : Nat) (f : Stripe → Stripe) (i : Nat) : (s.modStripe t f).fuse i = s.fuse i := rfl
@[simp] theorem Device.modStripe_port (s : Device) (t : Nat) (f : Stripe → Stripe) (i : Nat) : (s.modStripe t f).port i = s.port i := rfl
@[simp] theorem Device.modStripe_flow (s : Device) (t : Nat) (f : Stripe → Stripe) (i : Nat) : (s.modStripe t f).flow i = s.flow i := rfl

/-! ### `modPdie` -/

@[simp] theorem Device.modPdie_mem (s : Device) (p : Nat) (f : Pdie → Pdie) : (s.modPdie p f).mem = s.mem := rfl
@[simp] theorem Device.modPdie_damaged (s : Device) (p : Nat) (f : Pdie → Pdie) : (s.modPdie p f).damaged = s.damaged := rfl
@[simp] theorem Device.modPdie_ident (s : Device) (p : Nat) (f : Pdie → Pdie) : (s.modPdie p f).ident = s.ident := rfl
@[simp] theorem Device.modPdie_fuses (s : Device) (p : Nat) (f : Pdie → Pdie) : (s.modPdie p f).fuses = s.fuses := rfl
@[simp] theorem Device.modPdie_mps (s : Device) (p : Nat) (f : Pdie → Pdie) : (s.modPdie p f).mps = s.mps := rfl
@[simp] theorem Device.modPdie_boot (s : Device) (p : Nat) (f : Pdie → Pdie) : (s.modPdie p f).boot = s.boot := rfl
@[simp] theorem Device.modPdie_power (s : Device) (p : Nat) (f : Pdie → Pdie) : (s.modPdie p f).power = s.power := rfl
@[simp] theorem Device.modPdie_panel (s : Device) (p : Nat) (f : Pdie → Pdie) : (s.modPdie p f).panel = s.panel := rfl
@[simp] theorem Device.modPdie_log (s : Device) (p : Nat) (f : Pdie → Pdie) : (s.modPdie p f).log = s.log := rfl
@[simp] theorem Device.modPdie_net (s : Device) (p : Nat) (f : Pdie → Pdie) : (s.modPdie p f).net = s.net := rfl
@[simp] theorem Device.modPdie_job (s : Device) (p : Nat) (f : Pdie → Pdie) : (s.modPdie p f).job = s.job := rfl
@[simp] theorem Device.modPdie_ops (s : Device) (p : Nat) (f : Pdie → Pdie) : (s.modPdie p f).ops = s.ops := rfl
@[simp] theorem Device.modPdie_endedOps (s : Device) (p : Nat) (f : Pdie → Pdie) : (s.modPdie p f).endedOps = s.endedOps := rfl
@[simp] theorem Device.modPdie_serials (s : Device) (p : Nat) (f : Pdie → Pdie) : (s.modPdie p f).serials = s.serials := rfl
@[simp] theorem Device.modPdie_clusters (s : Device) (p : Nat) (f : Pdie → Pdie) : (s.modPdie p f).clusters = s.clusters := rfl
@[simp] theorem Device.modPdie_quads (s : Device) (p : Nat) (f : Pdie → Pdie) : (s.modPdie p f).quads = s.quads := rfl
@[simp] theorem Device.modPdie_dies (s : Device) (p : Nat) (f : Pdie → Pdie) : (s.modPdie p f).dies = s.dies := rfl
@[simp] theorem Device.modPdie_stripes (s : Device) (p : Nat) (f : Pdie → Pdie) : (s.modPdie p f).stripes = s.stripes := rfl
@[simp] theorem Device.modPdie_ingest (s : Device) (p : Nat) (f : Pdie → Pdie) : (s.modPdie p f).ingest = s.ingest := rfl
@[simp] theorem Device.modPdie_reduction (s : Device) (p : Nat) (f : Pdie → Pdie) : (s.modPdie p f).reduction = s.reduction := rfl
@[simp] theorem Device.modPdie_stepTokens (s : Device) (p : Nat) (f : Pdie → Pdie) : (s.modPdie p f).stepTokens = s.stepTokens := rfl
@[simp] theorem Device.modPdie_streamTokens (s : Device) (p : Nat) (f : Pdie → Pdie) : (s.modPdie p f).streamTokens = s.streamTokens := rfl
@[simp] theorem Device.modPdie_counters (s : Device) (p : Nat) (f : Pdie → Pdie) : (s.modPdie p f).counters = s.counters := rfl
@[simp] theorem Device.modPdie_frozen (s : Device) (p : Nat) (f : Pdie → Pdie) : (s.modPdie p f).frozen = s.frozen := rfl
@[simp] theorem Device.modPdie_corrected (s : Device) (p : Nat) (f : Pdie → Pdie) : (s.modPdie p f).corrected = s.corrected := rfl
@[simp] theorem Device.modPdie_correctedFrom (s : Device) (p : Nat) (f : Pdie → Pdie) : (s.modPdie p f).correctedFrom = s.correctedFrom := rfl
@[simp] theorem Device.modPdie_fresh (s : Device) (p : Nat) (f : Pdie → Pdie) : (s.modPdie p f).fresh = s.fresh := rfl
@[simp] theorem Device.modPdie_cluster (s : Device) (p : Nat) (f : Pdie → Pdie) (i : Nat) : (s.modPdie p f).cluster i = s.cluster i := rfl
@[simp] theorem Device.modPdie_quad (s : Device) (p : Nat) (f : Pdie → Pdie) (i j : Nat) : (s.modPdie p f).quad i j = s.quad i j := rfl
@[simp] theorem Device.modPdie_die (s : Device) (p : Nat) (f : Pdie → Pdie) (i : Nat) : (s.modPdie p f).die i = s.die i := rfl
@[simp] theorem Device.modPdie_stripe (s : Device) (p : Nat) (f : Pdie → Pdie) (i : Nat) : (s.modPdie p f).stripe i = s.stripe i := rfl
@[simp] theorem Device.modPdie_mp (s : Device) (p : Nat) (f : Pdie → Pdie) (i : Nat) : (s.modPdie p f).mp i = s.mp i := rfl
@[simp] theorem Device.modPdie_fuse (s : Device) (p : Nat) (f : Pdie → Pdie) (i : Nat) : (s.modPdie p f).fuse i = s.fuse i := rfl
@[simp] theorem Device.modPdie_port (s : Device) (p : Nat) (f : Pdie → Pdie) (i : Nat) : (s.modPdie p f).port i = s.port i := rfl
@[simp] theorem Device.modPdie_flow (s : Device) (p : Nat) (f : Pdie → Pdie) (i : Nat) : (s.modPdie p f).flow i = s.flow i := rfl

/-! ### `modPort` -/

@[simp] theorem Device.modPort_mem (s : Device) (n : Nat) (f : Port → Port) : (s.modPort n f).mem = s.mem := rfl
@[simp] theorem Device.modPort_damaged (s : Device) (n : Nat) (f : Port → Port) : (s.modPort n f).damaged = s.damaged := rfl
@[simp] theorem Device.modPort_ident (s : Device) (n : Nat) (f : Port → Port) : (s.modPort n f).ident = s.ident := rfl
@[simp] theorem Device.modPort_fuses (s : Device) (n : Nat) (f : Port → Port) : (s.modPort n f).fuses = s.fuses := rfl
@[simp] theorem Device.modPort_mps (s : Device) (n : Nat) (f : Port → Port) : (s.modPort n f).mps = s.mps := rfl
@[simp] theorem Device.modPort_boot (s : Device) (n : Nat) (f : Port → Port) : (s.modPort n f).boot = s.boot := rfl
@[simp] theorem Device.modPort_power (s : Device) (n : Nat) (f : Port → Port) : (s.modPort n f).power = s.power := rfl
@[simp] theorem Device.modPort_panel (s : Device) (n : Nat) (f : Port → Port) : (s.modPort n f).panel = s.panel := rfl
@[simp] theorem Device.modPort_log (s : Device) (n : Nat) (f : Port → Port) : (s.modPort n f).log = s.log := rfl
@[simp] theorem Device.modPort_job (s : Device) (n : Nat) (f : Port → Port) : (s.modPort n f).job = s.job := rfl
@[simp] theorem Device.modPort_ops (s : Device) (n : Nat) (f : Port → Port) : (s.modPort n f).ops = s.ops := rfl
@[simp] theorem Device.modPort_endedOps (s : Device) (n : Nat) (f : Port → Port) : (s.modPort n f).endedOps = s.endedOps := rfl
@[simp] theorem Device.modPort_serials (s : Device) (n : Nat) (f : Port → Port) : (s.modPort n f).serials = s.serials := rfl
@[simp] theorem Device.modPort_clusters (s : Device) (n : Nat) (f : Port → Port) : (s.modPort n f).clusters = s.clusters := rfl
@[simp] theorem Device.modPort_quads (s : Device) (n : Nat) (f : Port → Port) : (s.modPort n f).quads = s.quads := rfl
@[simp] theorem Device.modPort_dies (s : Device) (n : Nat) (f : Port → Port) : (s.modPort n f).dies = s.dies := rfl
@[simp] theorem Device.modPort_stripes (s : Device) (n : Nat) (f : Port → Port) : (s.modPort n f).stripes = s.stripes := rfl
@[simp] theorem Device.modPort_ingest (s : Device) (n : Nat) (f : Port → Port) : (s.modPort n f).ingest = s.ingest := rfl
@[simp] theorem Device.modPort_pdies (s : Device) (n : Nat) (f : Port → Port) : (s.modPort n f).pdies = s.pdies := rfl
@[simp] theorem Device.modPort_reduction (s : Device) (n : Nat) (f : Port → Port) : (s.modPort n f).reduction = s.reduction := rfl
@[simp] theorem Device.modPort_stepTokens (s : Device) (n : Nat) (f : Port → Port) : (s.modPort n f).stepTokens = s.stepTokens := rfl
@[simp] theorem Device.modPort_streamTokens (s : Device) (n : Nat) (f : Port → Port) : (s.modPort n f).streamTokens = s.streamTokens := rfl
@[simp] theorem Device.modPort_counters (s : Device) (n : Nat) (f : Port → Port) : (s.modPort n f).counters = s.counters := rfl
@[simp] theorem Device.modPort_frozen (s : Device) (n : Nat) (f : Port → Port) : (s.modPort n f).frozen = s.frozen := rfl
@[simp] theorem Device.modPort_corrected (s : Device) (n : Nat) (f : Port → Port) : (s.modPort n f).corrected = s.corrected := rfl
@[simp] theorem Device.modPort_correctedFrom (s : Device) (n : Nat) (f : Port → Port) : (s.modPort n f).correctedFrom = s.correctedFrom := rfl
@[simp] theorem Device.modPort_fresh (s : Device) (n : Nat) (f : Port → Port) : (s.modPort n f).fresh = s.fresh := rfl
@[simp] theorem Device.modPort_net_flows (s : Device) (n : Nat) (f : Port → Port) : (s.modPort n f).net.flows = s.net.flows := rfl
@[simp] theorem Device.modPort_net_sent (s : Device) (n : Nat) (f : Port → Port) : (s.modPort n f).net.sent = s.net.sent := rfl
@[simp] theorem Device.modPort_net_answers (s : Device) (n : Nat) (f : Port → Port) : (s.modPort n f).net.answers = s.net.answers := rfl
@[simp] theorem Device.modPort_net_requests (s : Device) (n : Nat) (f : Port → Port) : (s.modPort n f).net.requests = s.net.requests := rfl
@[simp] theorem Device.modPort_net_statusDue (s : Device) (n : Nat) (f : Port → Port) : (s.modPort n f).net.statusDue = s.net.statusDue := rfl
@[simp] theorem Device.modPort_net_peersDown (s : Device) (n : Nat) (f : Port → Port) : (s.modPort n f).net.peersDown = s.net.peersDown := rfl
@[simp] theorem Device.modPort_net_attested (s : Device) (n : Nat) (f : Port → Port) : (s.modPort n f).net.attested = s.net.attested := rfl
@[simp] theorem Device.modPort_cluster (s : Device) (n : Nat) (f : Port → Port) (i : Nat) : (s.modPort n f).cluster i = s.cluster i := rfl
@[simp] theorem Device.modPort_quad (s : Device) (n : Nat) (f : Port → Port) (i j : Nat) : (s.modPort n f).quad i j = s.quad i j := rfl
@[simp] theorem Device.modPort_die (s : Device) (n : Nat) (f : Port → Port) (i : Nat) : (s.modPort n f).die i = s.die i := rfl
@[simp] theorem Device.modPort_stripe (s : Device) (n : Nat) (f : Port → Port) (i : Nat) : (s.modPort n f).stripe i = s.stripe i := rfl
@[simp] theorem Device.modPort_pdie (s : Device) (n : Nat) (f : Port → Port) (i : Nat) : (s.modPort n f).pdie i = s.pdie i := rfl
@[simp] theorem Device.modPort_mp (s : Device) (n : Nat) (f : Port → Port) (i : Nat) : (s.modPort n f).mp i = s.mp i := rfl
@[simp] theorem Device.modPort_fuse (s : Device) (n : Nat) (f : Port → Port) (i : Nat) : (s.modPort n f).fuse i = s.fuse i := rfl
@[simp] theorem Device.modPort_flow (s : Device) (n : Nat) (f : Port → Port) (i : Nat) : (s.modPort n f).flow i = s.flow i := rfl

/-! ### `modFlow` -/

@[simp] theorem Device.modFlow_mem (s : Device) (k : Nat) (f : Flow → Flow) : (s.modFlow k f).mem = s.mem := rfl
@[simp] theorem Device.modFlow_damaged (s : Device) (k : Nat) (f : Flow → Flow) : (s.modFlow k f).damaged = s.damaged := rfl
@[simp] theorem Device.modFlow_ident (s : Device) (k : Nat) (f : Flow → Flow) : (s.modFlow k f).ident = s.ident := rfl
@[simp] theorem Device.modFlow_fuses (s : Device) (k : Nat) (f : Flow → Flow) : (s.modFlow k f).fuses = s.fuses := rfl
@[simp] theorem Device.modFlow_mps (s : Device) (k : Nat) (f : Flow → Flow) : (s.modFlow k f).mps = s.mps := rfl
@[simp] theorem Device.modFlow_boot (s : Device) (k : Nat) (f : Flow → Flow) : (s.modFlow k f).boot = s.boot := rfl
@[simp] theorem Device.modFlow_power (s : Device) (k : Nat) (f : Flow → Flow) : (s.modFlow k f).power = s.power := rfl
@[simp] theorem Device.modFlow_panel (s : Device) (k : Nat) (f : Flow → Flow) : (s.modFlow k f).panel = s.panel := rfl
@[simp] theorem Device.modFlow_log (s : Device) (k : Nat) (f : Flow → Flow) : (s.modFlow k f).log = s.log := rfl
@[simp] theorem Device.modFlow_job (s : Device) (k : Nat) (f : Flow → Flow) : (s.modFlow k f).job = s.job := rfl
@[simp] theorem Device.modFlow_ops (s : Device) (k : Nat) (f : Flow → Flow) : (s.modFlow k f).ops = s.ops := rfl
@[simp] theorem Device.modFlow_endedOps (s : Device) (k : Nat) (f : Flow → Flow) : (s.modFlow k f).endedOps = s.endedOps := rfl
@[simp] theorem Device.modFlow_serials (s : Device) (k : Nat) (f : Flow → Flow) : (s.modFlow k f).serials = s.serials := rfl
@[simp] theorem Device.modFlow_clusters (s : Device) (k : Nat) (f : Flow → Flow) : (s.modFlow k f).clusters = s.clusters := rfl
@[simp] theorem Device.modFlow_quads (s : Device) (k : Nat) (f : Flow → Flow) : (s.modFlow k f).quads = s.quads := rfl
@[simp] theorem Device.modFlow_dies (s : Device) (k : Nat) (f : Flow → Flow) : (s.modFlow k f).dies = s.dies := rfl
@[simp] theorem Device.modFlow_stripes (s : Device) (k : Nat) (f : Flow → Flow) : (s.modFlow k f).stripes = s.stripes := rfl
@[simp] theorem Device.modFlow_ingest (s : Device) (k : Nat) (f : Flow → Flow) : (s.modFlow k f).ingest = s.ingest := rfl
@[simp] theorem Device.modFlow_pdies (s : Device) (k : Nat) (f : Flow → Flow) : (s.modFlow k f).pdies = s.pdies := rfl
@[simp] theorem Device.modFlow_reduction (s : Device) (k : Nat) (f : Flow → Flow) : (s.modFlow k f).reduction = s.reduction := rfl
@[simp] theorem Device.modFlow_stepTokens (s : Device) (k : Nat) (f : Flow → Flow) : (s.modFlow k f).stepTokens = s.stepTokens := rfl
@[simp] theorem Device.modFlow_streamTokens (s : Device) (k : Nat) (f : Flow → Flow) : (s.modFlow k f).streamTokens = s.streamTokens := rfl
@[simp] theorem Device.modFlow_counters (s : Device) (k : Nat) (f : Flow → Flow) : (s.modFlow k f).counters = s.counters := rfl
@[simp] theorem Device.modFlow_frozen (s : Device) (k : Nat) (f : Flow → Flow) : (s.modFlow k f).frozen = s.frozen := rfl
@[simp] theorem Device.modFlow_corrected (s : Device) (k : Nat) (f : Flow → Flow) : (s.modFlow k f).corrected = s.corrected := rfl
@[simp] theorem Device.modFlow_correctedFrom (s : Device) (k : Nat) (f : Flow → Flow) : (s.modFlow k f).correctedFrom = s.correctedFrom := rfl
@[simp] theorem Device.modFlow_fresh (s : Device) (k : Nat) (f : Flow → Flow) : (s.modFlow k f).fresh = s.fresh := rfl
@[simp] theorem Device.modFlow_net_ports (s : Device) (k : Nat) (f : Flow → Flow) : (s.modFlow k f).net.ports = s.net.ports := rfl
@[simp] theorem Device.modFlow_net_sent (s : Device) (k : Nat) (f : Flow → Flow) : (s.modFlow k f).net.sent = s.net.sent := rfl
@[simp] theorem Device.modFlow_net_answers (s : Device) (k : Nat) (f : Flow → Flow) : (s.modFlow k f).net.answers = s.net.answers := rfl
@[simp] theorem Device.modFlow_net_requests (s : Device) (k : Nat) (f : Flow → Flow) : (s.modFlow k f).net.requests = s.net.requests := rfl
@[simp] theorem Device.modFlow_net_statusDue (s : Device) (k : Nat) (f : Flow → Flow) : (s.modFlow k f).net.statusDue = s.net.statusDue := rfl
@[simp] theorem Device.modFlow_net_peersDown (s : Device) (k : Nat) (f : Flow → Flow) : (s.modFlow k f).net.peersDown = s.net.peersDown := rfl
@[simp] theorem Device.modFlow_net_attested (s : Device) (k : Nat) (f : Flow → Flow) : (s.modFlow k f).net.attested = s.net.attested := rfl
@[simp] theorem Device.modFlow_cluster (s : Device) (k : Nat) (f : Flow → Flow) (i : Nat) : (s.modFlow k f).cluster i = s.cluster i := rfl
@[simp] theorem Device.modFlow_quad (s : Device) (k : Nat) (f : Flow → Flow) (i j : Nat) : (s.modFlow k f).quad i j = s.quad i j := rfl
@[simp] theorem Device.modFlow_die (s : Device) (k : Nat) (f : Flow → Flow) (i : Nat) : (s.modFlow k f).die i = s.die i := rfl
@[simp] theorem Device.modFlow_stripe (s : Device) (k : Nat) (f : Flow → Flow) (i : Nat) : (s.modFlow k f).stripe i = s.stripe i := rfl
@[simp] theorem Device.modFlow_pdie (s : Device) (k : Nat) (f : Flow → Flow) (i : Nat) : (s.modFlow k f).pdie i = s.pdie i := rfl
@[simp] theorem Device.modFlow_mp (s : Device) (k : Nat) (f : Flow → Flow) (i : Nat) : (s.modFlow k f).mp i = s.mp i := rfl
@[simp] theorem Device.modFlow_fuse (s : Device) (k : Nat) (f : Flow → Flow) (i : Nat) : (s.modFlow k f).fuse i = s.fuse i := rfl
@[simp] theorem Device.modFlow_port (s : Device) (k : Nat) (f : Flow → Flow) (i : Nat) : (s.modFlow k f).port i = s.port i := rfl

/-! ### `modMp` -/

@[simp] theorem Device.modMp_mem (s : Device) (p : Nat) (f : Mp → Mp) : (s.modMp p f).mem = s.mem := rfl
@[simp] theorem Device.modMp_damaged (s : Device) (p : Nat) (f : Mp → Mp) : (s.modMp p f).damaged = s.damaged := rfl
@[simp] theorem Device.modMp_ident (s : Device) (p : Nat) (f : Mp → Mp) : (s.modMp p f).ident = s.ident := rfl
@[simp] theorem Device.modMp_fuses (s : Device) (p : Nat) (f : Mp → Mp) : (s.modMp p f).fuses = s.fuses := rfl
@[simp] theorem Device.modMp_boot (s : Device) (p : Nat) (f : Mp → Mp) : (s.modMp p f).boot = s.boot := rfl
@[simp] theorem Device.modMp_power (s : Device) (p : Nat) (f : Mp → Mp) : (s.modMp p f).power = s.power := rfl
@[simp] theorem Device.modMp_panel (s : Device) (p : Nat) (f : Mp → Mp) : (s.modMp p f).panel = s.panel := rfl
@[simp] theorem Device.modMp_log (s : Device) (p : Nat) (f : Mp → Mp) : (s.modMp p f).log = s.log := rfl
@[simp] theorem Device.modMp_net (s : Device) (p : Nat) (f : Mp → Mp) : (s.modMp p f).net = s.net := rfl
@[simp] theorem Device.modMp_job (s : Device) (p : Nat) (f : Mp → Mp) : (s.modMp p f).job = s.job := rfl
@[simp] theorem Device.modMp_ops (s : Device) (p : Nat) (f : Mp → Mp) : (s.modMp p f).ops = s.ops := rfl
@[simp] theorem Device.modMp_endedOps (s : Device) (p : Nat) (f : Mp → Mp) : (s.modMp p f).endedOps = s.endedOps := rfl
@[simp] theorem Device.modMp_serials (s : Device) (p : Nat) (f : Mp → Mp) : (s.modMp p f).serials = s.serials := rfl
@[simp] theorem Device.modMp_clusters (s : Device) (p : Nat) (f : Mp → Mp) : (s.modMp p f).clusters = s.clusters := rfl
@[simp] theorem Device.modMp_quads (s : Device) (p : Nat) (f : Mp → Mp) : (s.modMp p f).quads = s.quads := rfl
@[simp] theorem Device.modMp_dies (s : Device) (p : Nat) (f : Mp → Mp) : (s.modMp p f).dies = s.dies := rfl
@[simp] theorem Device.modMp_stripes (s : Device) (p : Nat) (f : Mp → Mp) : (s.modMp p f).stripes = s.stripes := rfl
@[simp] theorem Device.modMp_ingest (s : Device) (p : Nat) (f : Mp → Mp) : (s.modMp p f).ingest = s.ingest := rfl
@[simp] theorem Device.modMp_pdies (s : Device) (p : Nat) (f : Mp → Mp) : (s.modMp p f).pdies = s.pdies := rfl
@[simp] theorem Device.modMp_reduction (s : Device) (p : Nat) (f : Mp → Mp) : (s.modMp p f).reduction = s.reduction := rfl
@[simp] theorem Device.modMp_stepTokens (s : Device) (p : Nat) (f : Mp → Mp) : (s.modMp p f).stepTokens = s.stepTokens := rfl
@[simp] theorem Device.modMp_streamTokens (s : Device) (p : Nat) (f : Mp → Mp) : (s.modMp p f).streamTokens = s.streamTokens := rfl
@[simp] theorem Device.modMp_counters (s : Device) (p : Nat) (f : Mp → Mp) : (s.modMp p f).counters = s.counters := rfl
@[simp] theorem Device.modMp_frozen (s : Device) (p : Nat) (f : Mp → Mp) : (s.modMp p f).frozen = s.frozen := rfl
@[simp] theorem Device.modMp_corrected (s : Device) (p : Nat) (f : Mp → Mp) : (s.modMp p f).corrected = s.corrected := rfl
@[simp] theorem Device.modMp_correctedFrom (s : Device) (p : Nat) (f : Mp → Mp) : (s.modMp p f).correctedFrom = s.correctedFrom := rfl
@[simp] theorem Device.modMp_fresh (s : Device) (p : Nat) (f : Mp → Mp) : (s.modMp p f).fresh = s.fresh := rfl
@[simp] theorem Device.modMp_cluster (s : Device) (p : Nat) (f : Mp → Mp) (i : Nat) : (s.modMp p f).cluster i = s.cluster i := rfl
@[simp] theorem Device.modMp_quad (s : Device) (p : Nat) (f : Mp → Mp) (i j : Nat) : (s.modMp p f).quad i j = s.quad i j := rfl
@[simp] theorem Device.modMp_die (s : Device) (p : Nat) (f : Mp → Mp) (i : Nat) : (s.modMp p f).die i = s.die i := rfl
@[simp] theorem Device.modMp_stripe (s : Device) (p : Nat) (f : Mp → Mp) (i : Nat) : (s.modMp p f).stripe i = s.stripe i := rfl
@[simp] theorem Device.modMp_pdie (s : Device) (p : Nat) (f : Mp → Mp) (i : Nat) : (s.modMp p f).pdie i = s.pdie i := rfl
@[simp] theorem Device.modMp_fuse (s : Device) (p : Nat) (f : Mp → Mp) (i : Nat) : (s.modMp p f).fuse i = s.fuse i := rfl
@[simp] theorem Device.modMp_port (s : Device) (p : Nat) (f : Mp → Mp) (i : Nat) : (s.modMp p f).port i = s.port i := rfl
@[simp] theorem Device.modMp_flow (s : Device) (p : Nat) (f : Mp → Mp) (i : Nat) : (s.modMp p f).flow i = s.flow i := rfl

/-! ### `modFuse` -/

@[simp] theorem Device.modFuse_mem (s : Device) (p : Nat) (f : Fuses → Fuses) : (s.modFuse p f).mem = s.mem := rfl
@[simp] theorem Device.modFuse_damaged (s : Device) (p : Nat) (f : Fuses → Fuses) : (s.modFuse p f).damaged = s.damaged := rfl
@[simp] theorem Device.modFuse_ident (s : Device) (p : Nat) (f : Fuses → Fuses) : (s.modFuse p f).ident = s.ident := rfl
@[simp] theorem Device.modFuse_mps (s : Device) (p : Nat) (f : Fuses → Fuses) : (s.modFuse p f).mps = s.mps := rfl
@[simp] theorem Device.modFuse_boot (s : Device) (p : Nat) (f : Fuses → Fuses) : (s.modFuse p f).boot = s.boot := rfl
@[simp] theorem Device.modFuse_power (s : Device) (p : Nat) (f : Fuses → Fuses) : (s.modFuse p f).power = s.power := rfl
@[simp] theorem Device.modFuse_panel (s : Device) (p : Nat) (f : Fuses → Fuses) : (s.modFuse p f).panel = s.panel := rfl
@[simp] theorem Device.modFuse_log (s : Device) (p : Nat) (f : Fuses → Fuses) : (s.modFuse p f).log = s.log := rfl
@[simp] theorem Device.modFuse_net (s : Device) (p : Nat) (f : Fuses → Fuses) : (s.modFuse p f).net = s.net := rfl
@[simp] theorem Device.modFuse_job (s : Device) (p : Nat) (f : Fuses → Fuses) : (s.modFuse p f).job = s.job := rfl
@[simp] theorem Device.modFuse_ops (s : Device) (p : Nat) (f : Fuses → Fuses) : (s.modFuse p f).ops = s.ops := rfl
@[simp] theorem Device.modFuse_endedOps (s : Device) (p : Nat) (f : Fuses → Fuses) : (s.modFuse p f).endedOps = s.endedOps := rfl
@[simp] theorem Device.modFuse_serials (s : Device) (p : Nat) (f : Fuses → Fuses) : (s.modFuse p f).serials = s.serials := rfl
@[simp] theorem Device.modFuse_clusters (s : Device) (p : Nat) (f : Fuses → Fuses) : (s.modFuse p f).clusters = s.clusters := rfl
@[simp] theorem Device.modFuse_quads (s : Device) (p : Nat) (f : Fuses → Fuses) : (s.modFuse p f).quads = s.quads := rfl
@[simp] theorem Device.modFuse_dies (s : Device) (p : Nat) (f : Fuses → Fuses) : (s.modFuse p f).dies = s.dies := rfl
@[simp] theorem Device.modFuse_stripes (s : Device) (p : Nat) (f : Fuses → Fuses) : (s.modFuse p f).stripes = s.stripes := rfl
@[simp] theorem Device.modFuse_ingest (s : Device) (p : Nat) (f : Fuses → Fuses) : (s.modFuse p f).ingest = s.ingest := rfl
@[simp] theorem Device.modFuse_pdies (s : Device) (p : Nat) (f : Fuses → Fuses) : (s.modFuse p f).pdies = s.pdies := rfl
@[simp] theorem Device.modFuse_reduction (s : Device) (p : Nat) (f : Fuses → Fuses) : (s.modFuse p f).reduction = s.reduction := rfl
@[simp] theorem Device.modFuse_stepTokens (s : Device) (p : Nat) (f : Fuses → Fuses) : (s.modFuse p f).stepTokens = s.stepTokens := rfl
@[simp] theorem Device.modFuse_streamTokens (s : Device) (p : Nat) (f : Fuses → Fuses) : (s.modFuse p f).streamTokens = s.streamTokens := rfl
@[simp] theorem Device.modFuse_counters (s : Device) (p : Nat) (f : Fuses → Fuses) : (s.modFuse p f).counters = s.counters := rfl
@[simp] theorem Device.modFuse_frozen (s : Device) (p : Nat) (f : Fuses → Fuses) : (s.modFuse p f).frozen = s.frozen := rfl
@[simp] theorem Device.modFuse_corrected (s : Device) (p : Nat) (f : Fuses → Fuses) : (s.modFuse p f).corrected = s.corrected := rfl
@[simp] theorem Device.modFuse_correctedFrom (s : Device) (p : Nat) (f : Fuses → Fuses) : (s.modFuse p f).correctedFrom = s.correctedFrom := rfl
@[simp] theorem Device.modFuse_fresh (s : Device) (p : Nat) (f : Fuses → Fuses) : (s.modFuse p f).fresh = s.fresh := rfl
@[simp] theorem Device.modFuse_cluster (s : Device) (p : Nat) (f : Fuses → Fuses) (i : Nat) : (s.modFuse p f).cluster i = s.cluster i := rfl
@[simp] theorem Device.modFuse_quad (s : Device) (p : Nat) (f : Fuses → Fuses) (i j : Nat) : (s.modFuse p f).quad i j = s.quad i j := rfl
@[simp] theorem Device.modFuse_die (s : Device) (p : Nat) (f : Fuses → Fuses) (i : Nat) : (s.modFuse p f).die i = s.die i := rfl
@[simp] theorem Device.modFuse_stripe (s : Device) (p : Nat) (f : Fuses → Fuses) (i : Nat) : (s.modFuse p f).stripe i = s.stripe i := rfl
@[simp] theorem Device.modFuse_pdie (s : Device) (p : Nat) (f : Fuses → Fuses) (i : Nat) : (s.modFuse p f).pdie i = s.pdie i := rfl
@[simp] theorem Device.modFuse_mp (s : Device) (p : Nat) (f : Fuses → Fuses) (i : Nat) : (s.modFuse p f).mp i = s.mp i := rfl
@[simp] theorem Device.modFuse_port (s : Device) (p : Nat) (f : Fuses → Fuses) (i : Nat) : (s.modFuse p f).port i = s.port i := rfl
@[simp] theorem Device.modFuse_flow (s : Device) (p : Nat) (f : Fuses → Fuses) (i : Nat) : (s.modFuse p f).flow i = s.flow i := rfl

/-! ### `write` -/

@[simp] theorem Device.write_ident (s : Device) (a : Nat) (l : List Byte) : (s.write a l).ident = s.ident := rfl
@[simp] theorem Device.write_fuses (s : Device) (a : Nat) (l : List Byte) : (s.write a l).fuses = s.fuses := rfl
@[simp] theorem Device.write_mps (s : Device) (a : Nat) (l : List Byte) : (s.write a l).mps = s.mps := rfl
@[simp] theorem Device.write_boot (s : Device) (a : Nat) (l : List Byte) : (s.write a l).boot = s.boot := rfl
@[simp] theorem Device.write_power (s : Device) (a : Nat) (l : List Byte) : (s.write a l).power = s.power := rfl
@[simp] theorem Device.write_panel (s : Device) (a : Nat) (l : List Byte) : (s.write a l).panel = s.panel := rfl
@[simp] theorem Device.write_log (s : Device) (a : Nat) (l : List Byte) : (s.write a l).log = s.log := rfl
@[simp] theorem Device.write_net (s : Device) (a : Nat) (l : List Byte) : (s.write a l).net = s.net := rfl
@[simp] theorem Device.write_job (s : Device) (a : Nat) (l : List Byte) : (s.write a l).job = s.job := rfl
@[simp] theorem Device.write_ops (s : Device) (a : Nat) (l : List Byte) : (s.write a l).ops = s.ops := rfl
@[simp] theorem Device.write_endedOps (s : Device) (a : Nat) (l : List Byte) : (s.write a l).endedOps = s.endedOps := rfl
@[simp] theorem Device.write_serials (s : Device) (a : Nat) (l : List Byte) : (s.write a l).serials = s.serials := rfl
@[simp] theorem Device.write_clusters (s : Device) (a : Nat) (l : List Byte) : (s.write a l).clusters = s.clusters := rfl
@[simp] theorem Device.write_quads (s : Device) (a : Nat) (l : List Byte) : (s.write a l).quads = s.quads := rfl
@[simp] theorem Device.write_dies (s : Device) (a : Nat) (l : List Byte) : (s.write a l).dies = s.dies := rfl
@[simp] theorem Device.write_stripes (s : Device) (a : Nat) (l : List Byte) : (s.write a l).stripes = s.stripes := rfl
@[simp] theorem Device.write_ingest (s : Device) (a : Nat) (l : List Byte) : (s.write a l).ingest = s.ingest := rfl
@[simp] theorem Device.write_pdies (s : Device) (a : Nat) (l : List Byte) : (s.write a l).pdies = s.pdies := rfl
@[simp] theorem Device.write_reduction (s : Device) (a : Nat) (l : List Byte) : (s.write a l).reduction = s.reduction := rfl
@[simp] theorem Device.write_stepTokens (s : Device) (a : Nat) (l : List Byte) : (s.write a l).stepTokens = s.stepTokens := rfl
@[simp] theorem Device.write_streamTokens (s : Device) (a : Nat) (l : List Byte) : (s.write a l).streamTokens = s.streamTokens := rfl
@[simp] theorem Device.write_counters (s : Device) (a : Nat) (l : List Byte) : (s.write a l).counters = s.counters := rfl
@[simp] theorem Device.write_frozen (s : Device) (a : Nat) (l : List Byte) : (s.write a l).frozen = s.frozen := rfl
@[simp] theorem Device.write_corrected (s : Device) (a : Nat) (l : List Byte) : (s.write a l).corrected = s.corrected := rfl
@[simp] theorem Device.write_correctedFrom (s : Device) (a : Nat) (l : List Byte) : (s.write a l).correctedFrom = s.correctedFrom := rfl
@[simp] theorem Device.write_fresh (s : Device) (a : Nat) (l : List Byte) : (s.write a l).fresh = s.fresh := rfl
@[simp] theorem Device.write_cluster (s : Device) (a : Nat) (l : List Byte) (i : Nat) : (s.write a l).cluster i = s.cluster i := rfl
@[simp] theorem Device.write_quad (s : Device) (a : Nat) (l : List Byte) (i j : Nat) : (s.write a l).quad i j = s.quad i j := rfl
@[simp] theorem Device.write_die (s : Device) (a : Nat) (l : List Byte) (i : Nat) : (s.write a l).die i = s.die i := rfl
@[simp] theorem Device.write_stripe (s : Device) (a : Nat) (l : List Byte) (i : Nat) : (s.write a l).stripe i = s.stripe i := rfl
@[simp] theorem Device.write_pdie (s : Device) (a : Nat) (l : List Byte) (i : Nat) : (s.write a l).pdie i = s.pdie i := rfl
@[simp] theorem Device.write_mp (s : Device) (a : Nat) (l : List Byte) (i : Nat) : (s.write a l).mp i = s.mp i := rfl
@[simp] theorem Device.write_fuse (s : Device) (a : Nat) (l : List Byte) (i : Nat) : (s.write a l).fuse i = s.fuse i := rfl
@[simp] theorem Device.write_port (s : Device) (a : Nat) (l : List Byte) (i : Nat) : (s.write a l).port i = s.port i := rfl
@[simp] theorem Device.write_flow (s : Device) (a : Nat) (l : List Byte) (i : Nat) : (s.write a l).flow i = s.flow i := rfl

/-! ### `zero` -/

@[simp] theorem Device.zero_ident (s : Device) (lo hi : Nat) : (s.zero lo hi).ident = s.ident := rfl
@[simp] theorem Device.zero_fuses (s : Device) (lo hi : Nat) : (s.zero lo hi).fuses = s.fuses := rfl
@[simp] theorem Device.zero_mps (s : Device) (lo hi : Nat) : (s.zero lo hi).mps = s.mps := rfl
@[simp] theorem Device.zero_boot (s : Device) (lo hi : Nat) : (s.zero lo hi).boot = s.boot := rfl
@[simp] theorem Device.zero_power (s : Device) (lo hi : Nat) : (s.zero lo hi).power = s.power := rfl
@[simp] theorem Device.zero_panel (s : Device) (lo hi : Nat) : (s.zero lo hi).panel = s.panel := rfl
@[simp] theorem Device.zero_log (s : Device) (lo hi : Nat) : (s.zero lo hi).log = s.log := rfl
@[simp] theorem Device.zero_net (s : Device) (lo hi : Nat) : (s.zero lo hi).net = s.net := rfl
@[simp] theorem Device.zero_job (s : Device) (lo hi : Nat) : (s.zero lo hi).job = s.job := rfl
@[simp] theorem Device.zero_ops (s : Device) (lo hi : Nat) : (s.zero lo hi).ops = s.ops := rfl
@[simp] theorem Device.zero_endedOps (s : Device) (lo hi : Nat) : (s.zero lo hi).endedOps = s.endedOps := rfl
@[simp] theorem Device.zero_serials (s : Device) (lo hi : Nat) : (s.zero lo hi).serials = s.serials := rfl
@[simp] theorem Device.zero_clusters (s : Device) (lo hi : Nat) : (s.zero lo hi).clusters = s.clusters := rfl
@[simp] theorem Device.zero_quads (s : Device) (lo hi : Nat) : (s.zero lo hi).quads = s.quads := rfl
@[simp] theorem Device.zero_dies (s : Device) (lo hi : Nat) : (s.zero lo hi).dies = s.dies := rfl
@[simp] theorem Device.zero_stripes (s : Device) (lo hi : Nat) : (s.zero lo hi).stripes = s.stripes := rfl
@[simp] theorem Device.zero_ingest (s : Device) (lo hi : Nat) : (s.zero lo hi).ingest = s.ingest := rfl
@[simp] theorem Device.zero_pdies (s : Device) (lo hi : Nat) : (s.zero lo hi).pdies = s.pdies := rfl
@[simp] theorem Device.zero_reduction (s : Device) (lo hi : Nat) : (s.zero lo hi).reduction = s.reduction := rfl
@[simp] theorem Device.zero_stepTokens (s : Device) (lo hi : Nat) : (s.zero lo hi).stepTokens = s.stepTokens := rfl
@[simp] theorem Device.zero_streamTokens (s : Device) (lo hi : Nat) : (s.zero lo hi).streamTokens = s.streamTokens := rfl
@[simp] theorem Device.zero_counters (s : Device) (lo hi : Nat) : (s.zero lo hi).counters = s.counters := rfl
@[simp] theorem Device.zero_frozen (s : Device) (lo hi : Nat) : (s.zero lo hi).frozen = s.frozen := rfl
@[simp] theorem Device.zero_corrected (s : Device) (lo hi : Nat) : (s.zero lo hi).corrected = s.corrected := rfl
@[simp] theorem Device.zero_correctedFrom (s : Device) (lo hi : Nat) : (s.zero lo hi).correctedFrom = s.correctedFrom := rfl
@[simp] theorem Device.zero_fresh (s : Device) (lo hi : Nat) : (s.zero lo hi).fresh = s.fresh := rfl
@[simp] theorem Device.zero_cluster (s : Device) (lo hi : Nat) (i : Nat) : (s.zero lo hi).cluster i = s.cluster i := rfl
@[simp] theorem Device.zero_quad (s : Device) (lo hi : Nat) (i j : Nat) : (s.zero lo hi).quad i j = s.quad i j := rfl
@[simp] theorem Device.zero_die (s : Device) (lo hi : Nat) (i : Nat) : (s.zero lo hi).die i = s.die i := rfl
@[simp] theorem Device.zero_stripe (s : Device) (lo hi : Nat) (i : Nat) : (s.zero lo hi).stripe i = s.stripe i := rfl
@[simp] theorem Device.zero_pdie (s : Device) (lo hi : Nat) (i : Nat) : (s.zero lo hi).pdie i = s.pdie i := rfl
@[simp] theorem Device.zero_mp (s : Device) (lo hi : Nat) (i : Nat) : (s.zero lo hi).mp i = s.mp i := rfl
@[simp] theorem Device.zero_fuse (s : Device) (lo hi : Nat) (i : Nat) : (s.zero lo hi).fuse i = s.fuse i := rfl
@[simp] theorem Device.zero_port (s : Device) (lo hi : Nat) (i : Nat) : (s.zero lo hi).port i = s.port i := rfl
@[simp] theorem Device.zero_flow (s : Device) (lo hi : Nat) (i : Nat) : (s.zero lo hi).flow i = s.flow i := rfl

/-! ### `bump` -/

@[simp] theorem Device.bump_mem (s : Device) (off n : Nat) : (s.bump off n).mem = s.mem := rfl
@[simp] theorem Device.bump_damaged (s : Device) (off n : Nat) : (s.bump off n).damaged = s.damaged := rfl
@[simp] theorem Device.bump_ident (s : Device) (off n : Nat) : (s.bump off n).ident = s.ident := rfl
@[simp] theorem Device.bump_fuses (s : Device) (off n : Nat) : (s.bump off n).fuses = s.fuses := rfl
@[simp] theorem Device.bump_mps (s : Device) (off n : Nat) : (s.bump off n).mps = s.mps := rfl
@[simp] theorem Device.bump_boot (s : Device) (off n : Nat) : (s.bump off n).boot = s.boot := rfl
@[simp] theorem Device.bump_power (s : Device) (off n : Nat) : (s.bump off n).power = s.power := rfl
@[simp] theorem Device.bump_panel (s : Device) (off n : Nat) : (s.bump off n).panel = s.panel := rfl
@[simp] theorem Device.bump_log (s : Device) (off n : Nat) : (s.bump off n).log = s.log := rfl
@[simp] theorem Device.bump_net (s : Device) (off n : Nat) : (s.bump off n).net = s.net := rfl
@[simp] theorem Device.bump_job (s : Device) (off n : Nat) : (s.bump off n).job = s.job := rfl
@[simp] theorem Device.bump_ops (s : Device) (off n : Nat) : (s.bump off n).ops = s.ops := rfl
@[simp] theorem Device.bump_endedOps (s : Device) (off n : Nat) : (s.bump off n).endedOps = s.endedOps := rfl
@[simp] theorem Device.bump_serials (s : Device) (off n : Nat) : (s.bump off n).serials = s.serials := rfl
@[simp] theorem Device.bump_clusters (s : Device) (off n : Nat) : (s.bump off n).clusters = s.clusters := rfl
@[simp] theorem Device.bump_quads (s : Device) (off n : Nat) : (s.bump off n).quads = s.quads := rfl
@[simp] theorem Device.bump_dies (s : Device) (off n : Nat) : (s.bump off n).dies = s.dies := rfl
@[simp] theorem Device.bump_stripes (s : Device) (off n : Nat) : (s.bump off n).stripes = s.stripes := rfl
@[simp] theorem Device.bump_ingest (s : Device) (off n : Nat) : (s.bump off n).ingest = s.ingest := rfl
@[simp] theorem Device.bump_pdies (s : Device) (off n : Nat) : (s.bump off n).pdies = s.pdies := rfl
@[simp] theorem Device.bump_reduction (s : Device) (off n : Nat) : (s.bump off n).reduction = s.reduction := rfl
@[simp] theorem Device.bump_stepTokens (s : Device) (off n : Nat) : (s.bump off n).stepTokens = s.stepTokens := rfl
@[simp] theorem Device.bump_streamTokens (s : Device) (off n : Nat) : (s.bump off n).streamTokens = s.streamTokens := rfl
@[simp] theorem Device.bump_frozen (s : Device) (off n : Nat) : (s.bump off n).frozen = s.frozen := rfl
@[simp] theorem Device.bump_corrected (s : Device) (off n : Nat) : (s.bump off n).corrected = s.corrected := rfl
@[simp] theorem Device.bump_correctedFrom (s : Device) (off n : Nat) : (s.bump off n).correctedFrom = s.correctedFrom := rfl
@[simp] theorem Device.bump_fresh (s : Device) (off n : Nat) : (s.bump off n).fresh = s.fresh := rfl
@[simp] theorem Device.bump_cluster (s : Device) (off n : Nat) (i : Nat) : (s.bump off n).cluster i = s.cluster i := rfl
@[simp] theorem Device.bump_quad (s : Device) (off n : Nat) (i j : Nat) : (s.bump off n).quad i j = s.quad i j := rfl
@[simp] theorem Device.bump_die (s : Device) (off n : Nat) (i : Nat) : (s.bump off n).die i = s.die i := rfl
@[simp] theorem Device.bump_stripe (s : Device) (off n : Nat) (i : Nat) : (s.bump off n).stripe i = s.stripe i := rfl
@[simp] theorem Device.bump_pdie (s : Device) (off n : Nat) (i : Nat) : (s.bump off n).pdie i = s.pdie i := rfl
@[simp] theorem Device.bump_mp (s : Device) (off n : Nat) (i : Nat) : (s.bump off n).mp i = s.mp i := rfl
@[simp] theorem Device.bump_fuse (s : Device) (off n : Nat) (i : Nat) : (s.bump off n).fuse i = s.fuse i := rfl
@[simp] theorem Device.bump_port (s : Device) (off n : Nat) (i : Nat) : (s.bump off n).port i = s.port i := rfl
@[simp] theorem Device.bump_flow (s : Device) (off n : Nat) (i : Nat) : (s.bump off n).flow i = s.flow i := rfl

/-! ### Indexed parts after their own update -/

theorem Device.modCluster_cluster (s : Device) (g : Nat) (f : Cluster → Cluster) (h : Nat) :
    (s.modCluster g f).cluster h = if h = g then f (s.cluster g) else s.cluster h := by
  simp only [Device.modCluster, Device.cluster, Device.setCluster]; exact Tab.get_set _ _ _ _ _
@[simp] theorem Device.modCluster_cluster_same (s : Device) (g : Nat) (f : Cluster → Cluster) : (s.modCluster g f).cluster g = f (s.cluster g) := by
  simp [Device.modCluster_cluster]
theorem Device.modCluster_cluster_other (s : Device) (g : Nat) (f : Cluster → Cluster) (h : Nat) (e : h ≠ g) : (s.modCluster g f).cluster h = s.cluster h := by
  simp [Device.modCluster_cluster, e]

theorem Device.modDie_die (s : Device) (g : Nat) (f : Die → Die) (h : Nat) :
    (s.modDie g f).die h = if h = g then f (s.die g) else s.die h := by
  simp only [Device.modDie, Device.die]; exact Tab.get_set _ _ _ _ _
@[simp] theorem Device.modDie_die_same (s : Device) (g : Nat) (f : Die → Die) : (s.modDie g f).die g = f (s.die g) := by
  simp [Device.modDie_die]
theorem Device.modDie_die_other (s : Device) (g : Nat) (f : Die → Die) (h : Nat) (e : h ≠ g) : (s.modDie g f).die h = s.die h := by
  simp [Device.modDie_die, e]

theorem Device.modStripe_stripe (s : Device) (g : Nat) (f : Stripe → Stripe) (h : Nat) :
    (s.modStripe g f).stripe h = if h = g then f (s.stripe g) else s.stripe h := by
  simp only [Device.modStripe, Device.stripe]; exact Tab.get_set _ _ _ _ _
@[simp] theorem Device.modStripe_stripe_same (s : Device) (g : Nat) (f : Stripe → Stripe) : (s.modStripe g f).stripe g = f (s.stripe g) := by
  simp [Device.modStripe_stripe]
theorem Device.modStripe_stripe_other (s : Device) (g : Nat) (f : Stripe → Stripe) (h : Nat) (e : h ≠ g) : (s.modStripe g f).stripe h = s.stripe h := by
  simp [Device.modStripe_stripe, e]

theorem Device.modPdie_pdie (s : Device) (g : Nat) (f : Pdie → Pdie) (h : Nat) :
    (s.modPdie g f).pdie h = if h = g then f (s.pdie g) else s.pdie h := by
  simp only [Device.modPdie, Device.pdie]; exact Tab.get_set _ _ _ _ _
@[simp] theorem Device.modPdie_pdie_same (s : Device) (g : Nat) (f : Pdie → Pdie) : (s.modPdie g f).pdie g = f (s.pdie g) := by
  simp [Device.modPdie_pdie]
theorem Device.modPdie_pdie_other (s : Device) (g : Nat) (f : Pdie → Pdie) (h : Nat) (e : h ≠ g) : (s.modPdie g f).pdie h = s.pdie h := by
  simp [Device.modPdie_pdie, e]

theorem Device.modPort_port (s : Device) (g : Nat) (f : Port → Port) (h : Nat) :
    (s.modPort g f).port h = if h = g then f (s.port g) else s.port h := by
  simp only [Device.modPort, Device.port]; exact Tab.get_set _ _ _ _ _
@[simp] theorem Device.modPort_port_same (s : Device) (g : Nat) (f : Port → Port) : (s.modPort g f).port g = f (s.port g) := by
  simp [Device.modPort_port]
theorem Device.modPort_port_other (s : Device) (g : Nat) (f : Port → Port) (h : Nat) (e : h ≠ g) : (s.modPort g f).port h = s.port h := by
  simp [Device.modPort_port, e]

theorem Device.modFlow_flow (s : Device) (g : Nat) (f : Flow → Flow) (h : Nat) :
    (s.modFlow g f).flow h = if h = g then f (s.flow g) else s.flow h := by
  simp only [Device.modFlow, Device.flow]; exact Tab.get_set _ _ _ _ _
@[simp] theorem Device.modFlow_flow_same (s : Device) (g : Nat) (f : Flow → Flow) : (s.modFlow g f).flow g = f (s.flow g) := by
  simp [Device.modFlow_flow]
theorem Device.modFlow_flow_other (s : Device) (g : Nat) (f : Flow → Flow) (h : Nat) (e : h ≠ g) : (s.modFlow g f).flow h = s.flow h := by
  simp [Device.modFlow_flow, e]

theorem Device.modMp_mp (s : Device) (g : Nat) (f : Mp → Mp) (h : Nat) :
    (s.modMp g f).mp h = if h = g then f (s.mp g) else s.mp h := by
  simp only [Device.modMp, Device.mp]; exact Tab.get_set _ _ _ _ _
@[simp] theorem Device.modMp_mp_same (s : Device) (g : Nat) (f : Mp → Mp) : (s.modMp g f).mp g = f (s.mp g) := by
  simp [Device.modMp_mp]
theorem Device.modMp_mp_other (s : Device) (g : Nat) (f : Mp → Mp) (h : Nat) (e : h ≠ g) : (s.modMp g f).mp h = s.mp h := by
  simp [Device.modMp_mp, e]

theorem Device.modFuse_fuse (s : Device) (g : Nat) (f : Fuses → Fuses) (h : Nat) :
    (s.modFuse g f).fuse h = if h = g then f (s.fuse g) else s.fuse h := by
  simp only [Device.modFuse, Device.fuse]; exact Tab.get_set _ _ _ _ _
@[simp] theorem Device.modFuse_fuse_same (s : Device) (g : Nat) (f : Fuses → Fuses) : (s.modFuse g f).fuse g = f (s.fuse g) := by
  simp [Device.modFuse_fuse]
theorem Device.modFuse_fuse_other (s : Device) (g : Nat) (f : Fuses → Fuses) (h : Nat) (e : h ≠ g) : (s.modFuse g f).fuse h = s.fuse h := by
  simp [Device.modFuse_fuse, e]

theorem Device.setCluster_cluster (s : Device) (g : Nat) (c : Cluster) (h : Nat) :
    (s.setCluster g c).cluster h = if h = g then c else s.cluster h := by
  simp only [Device.setCluster, Device.cluster]; exact Tab.get_set _ _ _ _ _

theorem Device.modQuad_quad (s : Device) (d q : Nat) (f : Quadrant → Quadrant) (e r : Nat) :
    (s.modQuad d q f).quad e r = if 4 * e + r = 4 * d + q then f (s.quad d q) else s.quad e r := by
  simp only [Device.modQuad, Device.quad]; exact Tab.get_set _ _ _ _ _
@[simp] theorem Device.modQuad_quad_same (s : Device) (d q : Nat) (f : Quadrant → Quadrant) :
    (s.modQuad d q f).quad d q = f (s.quad d q) := by simp [Device.modQuad_quad]

theorem Device.modCtx_ctx (s : Device) (g k : Nat) (f : Ctx → Ctx) (h j : Nat) :
    (s.modCtx g k f).ctx h j = if h = g ∧ j = k then f (s.ctx g k) else s.ctx h j := by
  simp only [Device.modCtx, Device.ctx, Device.modCluster_cluster]
  by_cases hg : h = g
  · subst hg; simp only [true_and, if_true, Cluster.ctx]; exact Tab.get_set _ _ _ _ _
  · simp [hg]
@[simp] theorem Device.modCtx_ctx_same (s : Device) (g k : Nat) (f : Ctx → Ctx) :
    (s.modCtx g k f).ctx g k = f (s.ctx g k) := by simp [Device.modCtx_ctx]

theorem Device.modPlay_play (s : Device) (d q p : Nat) (f : Play → Play) (r : Nat) :
    (s.modPlay d q p f).play d q r = if r = p then f (s.play d q p) else s.play d q r := by
  simp only [Device.modPlay, Device.play, Device.modQuad_quad_same]; exact Tab.get_set _ _ _ _ _
@[simp] theorem Device.modPlay_play_same (s : Device) (d q p : Nat) (f : Play → Play) :
    (s.modPlay d q p f).play d q p = f (s.play d q p) := by simp [Device.modPlay_play]

/-- A counter after it is raised; every other counter is as it was (R508). -/
theorem Device.bump_counter (s : Device) (off n o : Nat) :
    Tab.get 0 (s.bump off n).counters o =
      if o = off then Tab.get 0 s.counters off + BitVec.ofNat 64 n else Tab.get 0 s.counters o := by
  simp only [Device.bump]; exact Tab.get_set _ _ _ _ _

end Sys2Proof.Machine
end

