-- ==== Sys2Proof/Laws/Memory.lean ====
section
/-! SUPPORT. Memory: what an address reads after a write or a zeroing, and that every memory operation keeps the canonical
form. -/

namespace Sys2Proof.Machine

theorem memGet_memSet (m : Memory) (a b : Nat) (v : Byte) :
    memGet (memSet m a v) b = if b = a then v else memGet m b := Tab.get_set _ _ _ _ _

/-- After a write, an address inside the range reads the byte written there and any other reads as before. -/
theorem memGet_memWrite (l : List Byte) : ∀ (m : Memory) (a b : Nat),
    memGet (memWrite m a l) b = if a ≤ b ∧ b < a + l.length then nth 0 l (b - a) else memGet m b := by
  induction l with
  | nil => intro m a b; rw [if_neg (by simp only [List.length_nil]; omega)]; rfl
  | cons x t ih =>
    intro m a b
    rw [memWrite, ih, memGet_memSet]
    by_cases h : b = a
    · subst h
      rw [if_neg (by omega), if_pos rfl, if_pos (by simp), Nat.sub_self]; rfl
    · by_cases h2 : a + 1 ≤ b ∧ b < a + 1 + t.length
      · rw [if_pos h2, if_pos (by simp only [List.length_cons]; omega)]
        obtain ⟨c, rfl⟩ : ∃ c, b = a + 1 + c := ⟨b - (a + 1), by omega⟩
        rw [show a + 1 + c - (a + 1) = c by omega, show a + 1 + c - a = c + 1 by omega]; rfl
      · rw [if_neg h2, if_neg h, if_neg (by simp only [List.length_cons]; omega)]

@[simp] theorem memRead_length (m : Memory) (n : Nat) : ∀ a, (memRead m a n).length = n := by
  induction n with
  | zero => intro a; rfl
  | succ n ih => intro a; simp [memRead, ih]

theorem nth_memRead (m : Memory) (n : Nat) : ∀ (a i : Nat), i < n → nth 0 (memRead m a n) i = memGet m (a + i) := by
  induction n with
  | zero => intro a i h; omega
  | succ n ih =>
    intro a i h
    cases i with
    | zero => rfl
    | succ i =>
      have := ih (a + 1) i (by omega)
      rw [show a + (i + 1) = a + 1 + i by omega, ← this]; rfl

/-- Two memories that agree on a range read the same bytes from it. -/
theorem memRead_congr (m m' : Memory) (n : Nat) : ∀ a, (∀ i, i < n → memGet m (a + i) = memGet m' (a + i)) →
    memRead m a n = memRead m' a n := by
  induction n with
  | zero => intro a _; rfl
  | succ n ih =>
    intro a h
    rw [memRead, memRead, ih (a + 1) (fun i hi => by have := h (i + 1) (by omega); rwa [show a + (i + 1) = a + 1 + i by omega] at this)]
    have := h 0 (by omega); rw [Nat.add_zero] at this; rw [this]

/-- What was written is read back. -/
theorem memRead_memWrite (l : List Byte) : ∀ (m : Memory) (a : Nat), memRead (memWrite m a l) a l.length = l := by
  induction l with
  | nil => intro m a; rfl
  | cons x t ih =>
    intro m a
    rw [List.length_cons, memRead, memWrite, ih]
    congr 1
    rw [memGet_memWrite, if_neg (by omega), memGet_memSet, if_pos rfl]

theorem memGet_clear (m : Memory) (lo hi b : Nat) :
    memGet (Tab.clear m lo hi) b = if lo ≤ b ∧ b < hi then 0 else memGet m b := Tab.get_clear _ _ _ _ _

theorem memSet_wf (m : Memory) (a : Nat) (v : Byte) (h : Memory.wf m) : Memory.wf (memSet m a v) := Tab.wf_set _ _ _ _ h

theorem memWrite_wf (l : List Byte) : ∀ (m : Memory) (a : Nat), Memory.wf m → Memory.wf (memWrite m a l) := by
  induction l with
  | nil => intro m a h; exact h
  | cons x t ih => intro m a h; exact ih _ _ (memSet_wf m a x h)

/-- A store keeps the canonical form. -/
theorem Device.write_wf (s : Device) (a : Nat) (l : List Byte) (h : Memory.wf s.mem) : Memory.wf (s.write a l).mem :=
  memWrite_wf l s.mem a h

/-- Zeroing keeps the canonical form. -/
theorem Device.zero_wf (s : Device) (lo hi : Nat) (h : Memory.wf s.mem) : Memory.wf (s.zero lo hi).mem :=
  Tab.wf_clear _ _ _ _ h

theorem Device.write_memGet (s : Device) (a : Nat) (l : List Byte) (b : Nat) :
    memGet (s.write a l).mem b = if a ≤ b ∧ b < a + l.length then nth 0 l (b - a) else memGet s.mem b :=
  memGet_memWrite l s.mem a b

theorem Device.zero_memGet (s : Device) (lo hi b : Nat) :
    memGet (s.zero lo hi).mem b = if lo ≤ b ∧ b < hi then 0 else memGet s.mem b := memGet_clear s.mem lo hi b

@[simp] theorem leBytes_length (n : Nat) : ∀ x, (leBytes n x).length = n := by
  induction n with
  | zero => intro x; rfl
  | succ n ih => intro x; simp [leBytes, ih]

/-- The number that `n` little-endian bytes of `x` spell is `x` modulo 256^n. -/
theorem leNat_leBytes (n : Nat) : ∀ x, leNat (leBytes n x) = x % 256 ^ n := by
  induction n with
  | zero => intro x; simp [leBytes, leNat, Nat.mod_one]
  | succ n ih =>
    intro x
    rw [leBytes, leNat, ih, BitVec.toNat_ofNat]
    have h : x % (256 * 256 ^ n) = x % 256 + 256 * (x / 256 % 256 ^ n) := Nat.mod_mul
    rw [show (256 : Nat) ^ (n + 1) = 256 * 256 ^ n by ring, h]

end Sys2Proof.Machine
end

