-- ==== Sys2Proof/Laws/Ops.lean ====
section
/-! SUPPORT. What each shared operation can change: counters only, the network side only, the network side and the log only, and
the fields that follow. -/

namespace Sys2Proof.Machine

/-! ### Counters -/

@[simp] theorem Device.bumpArray_eq (s : Device) (g i n : Nat) : s.bumpArray g i n = s.bump (clusterBlock g + 0x40 + 8 * i) n := rfl
@[simp] theorem Device.bumpLoop_eq (s : Device) (g i n : Nat) : s.bumpLoop g i n = s.bump (clusterBlock g + 0x88 + 8 * i) n := rfl
@[simp] theorem Device.bumpVec_eq (s : Device) (g i n : Nat) : s.bumpVec g i n = s.bump (clusterBlock g + 0xC8 + 8 * i) n := rfl
@[simp] theorem Device.bumpField_eq (s : Device) (g i n : Nat) : s.bumpField g i n = s.bump (clusterBlock g + 0xF0 + 8 * i) n := rfl
@[simp] theorem Device.bumpAtt_eq (s : Device) (g i n : Nat) : s.bumpAtt g i n = s.bump (clusterBlock g + 0x128 + 8 * i) n := rfl
@[simp] theorem Device.bumpCar_eq (s : Device) (d i n : Nat) : s.bumpCar d i n = s.bump (dieBlock d + 0x1000 + 8 * i) n := rfl
@[simp] theorem Device.bumpQuad_eq (s : Device) (d q i n : Nat) : s.bumpQuad d q i n = s.bump (dieBlock d + 0x3000 + 0x40 * q + 8 * i) n := rfl
@[simp] theorem Device.bumpStripe_eq (s : Device) (t i n : Nat) : s.bumpStripe t i n = s.bump (dieBlock (t / 6) + 0x2000 + 0x40 * (t % 6) + 8 * i) n := rfl
@[simp] theorem Device.bumpPower_eq (s : Device) (i n : Nat) : s.bumpPower i n = s.bump (0x10400 + 8 * i) n := rfl
@[simp] theorem Device.bumpIng_eq (s : Device) (p i n : Nat) : s.bumpIng p i n = s.bump (0x30000 + 0x100 * p + 8 * i) n := rfl
@[simp] theorem Device.bumpRed_eq (s : Device) (p i n : Nat) : s.bumpRed p i n = s.bump (0x40000 + 0x100 * p + 8 * i) n := rfl
@[simp] theorem Device.bumpJob_eq (s : Device) (i n : Nat) : s.bumpJob i n = s.bump (0x50100 + 8 * i) n := rfl
@[simp] theorem Device.bumpCorrected_eq (s : Device) (k : Nat) : s.bumpCorrected k = s.bump (0x60100 + 8 * k) 1 := rfl
@[simp] theorem Device.bumpUncorrectable_eq (s : Device) (k : Nat) : s.bumpUncorrectable k = s.bump (0x60200 + 8 * k) 1 := rfl

theorem Device.bumpPort_only (s : Device) (p i n : Nat) :
    s.bumpPort p i n = { s with counters := (s.bumpPort p i n).counters } := by
  unfold Device.bumpPort; split_ifs <;> rfl

theorem Device.OnlyNet.refl (s : Device) : s.OnlyNet s := rfl
theorem Device.OnlyNet.trans {s t u : Device} (h : s.OnlyNet t) (h' : t.OnlyNet u) : s.OnlyNet u := by
  unfold Device.OnlyNet at *; rw [h'.trans (by rw [h])]
theorem Device.OnlyLog.trans {s t u : Device} (h : s.OnlyLog t) (h' : t.OnlyLog u) : s.OnlyLog u := by
  unfold Device.OnlyLog at *; rw [h'.trans (by rw [h])]
theorem Device.OnlyNet.toLog {s t : Device} (h : s.OnlyNet t) : s.OnlyLog t := by
  unfold Device.OnlyNet Device.OnlyLog at *; rw [h]

/-- A fold of steps that each change only the network side changes only the network side. -/
theorem Device.OnlyNet.foldl {β : Type} (f : Device → β → Device) (h : ∀ (s : Device) (b : β), s.OnlyNet (f s b)) (l : List β) :
    ∀ s : Device, s.OnlyNet (l.foldl f s) := by
  induction l with
  | nil => intro s; rfl
  | cons b l ih => intro s; exact (h s b).trans (ih _)

theorem Device.OnlyNet.ite {c : Prop} [Decidable c] {s t u : Device} (h : s.OnlyNet t) (h' : s.OnlyNet u) :
    s.OnlyNet (if c then t else u) := by split_ifs <;> assumption
theorem Device.OnlyLog.ite {c : Prop} [Decidable c] {s t u : Device} (h : s.OnlyLog t) (h' : s.OnlyLog u) :
    s.OnlyLog (if c then t else u) := by split_ifs <;> assumption

theorem Device.modFlow_only (s : Device) (k : Nat) (f : Flow → Flow) : s.OnlyNet (s.modFlow k f) := rfl
theorem Device.bumpPort_onlyNet (s : Device) (p i n : Nat) : s.OnlyNet (s.bumpPort p i n) := by
  unfold Device.bumpPort; split_ifs <;> rfl

/-! ### Sending (R413 to R419) -/

theorem Device.emit_only (s : Device) (k : Nat) (f : Frame) (prefer : Nat) : s.OnlyNet (s.emit k f prefer) := by
  unfold Device.emit
  split
  · rfl
  · dsimp only
    split_ifs
    · rfl
    · refine Device.OnlyNet.trans ?_ (Device.bumpPort_onlyNet _ _ _ _)
      refine Device.OnlyNet.trans ?_ (Device.bumpPort_onlyNet _ _ _ _)
      rfl

theorem Device.drain_only (k n : Nat) : ∀ s : Device, s.OnlyNet (s.drain k n) := by
  induction n with
  | zero => intro s; rfl
  | succ n ih =>
    intro s
    unfold Device.drain
    dsimp only
    split
    · rfl
    · split_ifs
      · rfl
      · exact ((Device.modFlow_only _ _ _).trans (Device.emit_only _ _ _ _)).trans (ih _)
      · rfl

theorem Device.send_only (s : Device) (k kind : Nat) (last : Bool) (handle sb hint : Nat) (p : List Byte) :
    s.OnlyNet (s.send k kind last handle sb hint p) := by
  unfold Device.send; exact (Device.modFlow_only _ _ _).trans (Device.drain_only _ _ _)

theorem Device.sendAck_only (s : Device) (k : Nat) (hold retx : Bool) (code : Nat) :
    s.OnlyNet (s.sendAck k hold retx code) := by
  unfold Device.sendAck
  dsimp only
  split
  · exact Device.modFlow_only _ _ _
  · exact (Device.modFlow_only _ _ _).trans (Device.emit_only _ _ _ _)

theorem Device.grantFlow_only (s : Device) (k b : Nat) : s.OnlyNet (s.grantFlow k b) := by
  unfold Device.grantFlow
  dsimp only
  split_ifs
  · exact (Device.modFlow_only _ _ _).trans (Device.sendAck_only _ _ _ _ _)
  · exact Device.modFlow_only _ _ _

theorem Device.sendAll_only (k kind handle : Nat) (l : List (List Byte)) :
    ∀ s : Device, s.OnlyNet (s.sendAll k kind handle l) := by
  induction l with
  | nil => intro s; rfl
  | cons p t ih =>
    intro s
    cases t with
    | nil => exact Device.send_only _ _ _ _ _ _ _ _
    | cons q t => exact (Device.send_only _ _ _ _ _ _ _ _).trans (ih _)

theorem Device.sendReports_only (s : Device) (kind : Nat) (p : List Byte) : s.OnlyNet (s.sendReports kind p) := by
  unfold Device.sendReports
  refine Device.OnlyNet.foldl _ (fun s k => ?_) _ s
  have h1 : s.OnlyNet (match s.hamper with
      | some h => if keyPair k = 8 then s.modFlow k (fun f => { f with src := h.report.getD 0 }) else s
      | none => s) := by
    split
    · split_ifs
      · exact Device.modFlow_only _ _ _
      · rfl
    · rfl
  exact Device.OnlyNet.ite (h1.trans (Device.send_only _ _ _ _ _ _ _ _)) h1

theorem Device.sendAttend_only (s : Device) : s.OnlyNet s.sendAttend := by
  unfold Device.sendAttend; split_ifs
  · exact Device.sendReports_only _ _ _
  · rfl

/-! ### The error log (R497 to R500) -/

theorem Device.logNew_only (s : Device) (r : Rec) : s.OnlyLog (s.logNew r) := by
  unfold Device.logNew
  dsimp only
  split
  · rfl
  · split_ifs
    · rfl
    · refine Device.OnlyLog.trans ?_ (Device.sendReports_only _ _ _).toLog; rfl

theorem Device.log1_only (s : Device) (r : Rec) : s.OnlyLog (s.log1 r) := by
  unfold Device.log1
  split_ifs
  · exact Device.logNew_only _ _
  · split
    · rfl
    · exact Device.logNew_only _ _

theorem Device.hold_only (s : Device) (r : Rec) (site : Site) : s.OnlyLog (s.hold r site) := by
  unfold Device.hold
  dsimp only
  split_ifs
  · split
    · rfl
    · refine Device.OnlyLog.trans ?_ (Device.logNew_only _ _); rfl
  · refine Device.OnlyLog.trans ?_ (Device.logNew_only _ _); rfl

theorem Device.unhold_only (s : Device) (h : Hold) : s.OnlyLog (s.unhold h) := by
  unfold Device.unhold
  dsimp only
  split <;> rfl

theorem Device.unbacked_only (s : Device) (a : Nat) (prot : Bool) (dp ctl domain : Nat) (site : Site) :
    s.OnlyLog (s.unbacked a prot dp ctl domain site) := Device.hold_only _ _ _

/-! ### Tokens (R381 to R383) -/

theorem Device.post_only (s : Device) (tok : Nat) : s.post tok = { s with
    stepTokens := (s.post tok).stepTokens, streamTokens := (s.post tok).streamTokens, counters := (s.post tok).counters } := by
  unfold Device.post; split_ifs <;> rfl

theorem Device.takeToken_only (s : Device) (tok : Nat) :
    s.takeToken tok = { s with streamTokens := (s.takeToken tok).streamTokens } := by
  unfold Device.takeToken; split_ifs <;> rfl

/-! ### The fields that follow -/

/-! `bumpPort` -/

@[simp] theorem Device.bumpPort_mem (s : Device) (p i n : Nat) : (s.bumpPort p i n).mem = s.mem := by rw [Device.bumpPort_only s p i n]
@[simp] theorem Device.bumpPort_damaged (s : Device) (p i n : Nat) : (s.bumpPort p i n).damaged = s.damaged := by rw [Device.bumpPort_only s p i n]
@[simp] theorem Device.bumpPort_ident (s : Device) (p i n : Nat) : (s.bumpPort p i n).ident = s.ident := by rw [Device.bumpPort_only s p i n]
@[simp] theorem Device.bumpPort_fuses (s : Device) (p i n : Nat) : (s.bumpPort p i n).fuses = s.fuses := by rw [Device.bumpPort_only s p i n]
@[simp] theorem Device.bumpPort_mps (s : Device) (p i n : Nat) : (s.bumpPort p i n).mps = s.mps := by rw [Device.bumpPort_only s p i n]
@[simp] theorem Device.bumpPort_boot (s : Device) (p i n : Nat) : (s.bumpPort p i n).boot = s.boot := by rw [Device.bumpPort_only s p i n]
@[simp] theorem Device.bumpPort_power (s : Device) (p i n : Nat) : (s.bumpPort p i n).power = s.power := by rw [Device.bumpPort_only s p i n]
@[simp] theorem Device.bumpPort_panel (s : Device) (p i n : Nat) : (s.bumpPort p i n).panel = s.panel := by rw [Device.bumpPort_only s p i n]
@[simp] theorem Device.bumpPort_log (s : Device) (p i n : Nat) : (s.bumpPort p i n).log = s.log := by rw [Device.bumpPort_only s p i n]
@[simp] theorem Device.bumpPort_net (s : Device) (p i n : Nat) : (s.bumpPort p i n).net = s.net := by rw [Device.bumpPort_only s p i n]
@[simp] theorem Device.bumpPort_job (s : Device) (p i n : Nat) : (s.bumpPort p i n).job = s.job := by rw [Device.bumpPort_only s p i n]
@[simp] theorem Device.bumpPort_ops (s : Device) (p i n : Nat) : (s.bumpPort p i n).ops = s.ops := by rw [Device.bumpPort_only s p i n]
@[simp] theorem Device.bumpPort_endedOps (s : Device) (p i n : Nat) : (s.bumpPort p i n).endedOps = s.endedOps := by rw [Device.bumpPort_only s p i n]
@[simp] theorem Device.bumpPort_serials (s : Device) (p i n : Nat) : (s.bumpPort p i n).serials = s.serials := by rw [Device.bumpPort_only s p i n]
@[simp] theorem Device.bumpPort_clusters (s : Device) (p i n : Nat) : (s.bumpPort p i n).clusters = s.clusters := by rw [Device.bumpPort_only s p i n]
@[simp] theorem Device.bumpPort_quads (s : Device) (p i n : Nat) : (s.bumpPort p i n).quads = s.quads := by rw [Device.bumpPort_only s p i n]
@[simp] theorem Device.bumpPort_dies (s : Device) (p i n : Nat) : (s.bumpPort p i n).dies = s.dies := by rw [Device.bumpPort_only s p i n]
@[simp] theorem Device.bumpPort_stripes (s : Device) (p i n : Nat) : (s.bumpPort p i n).stripes = s.stripes := by rw [Device.bumpPort_only s p i n]
@[simp] theorem Device.bumpPort_ingest (s : Device) (p i n : Nat) : (s.bumpPort p i n).ingest = s.ingest := by rw [Device.bumpPort_only s p i n]
@[simp] theorem Device.bumpPort_pdies (s : Device) (p i n : Nat) : (s.bumpPort p i n).pdies = s.pdies := by rw [Device.bumpPort_only s p i n]
@[simp] theorem Device.bumpPort_reduction (s : Device) (p i n : Nat) : (s.bumpPort p i n).reduction = s.reduction := by rw [Device.bumpPort_only s p i n]
@[simp] theorem Device.bumpPort_stepTokens (s : Device) (p i n : Nat) : (s.bumpPort p i n).stepTokens = s.stepTokens := by rw [Device.bumpPort_only s p i n]
@[simp] theorem Device.bumpPort_streamTokens (s : Device) (p i n : Nat) : (s.bumpPort p i n).streamTokens = s.streamTokens := by rw [Device.bumpPort_only s p i n]
@[simp] theorem Device.bumpPort_frozen (s : Device) (p i n : Nat) : (s.bumpPort p i n).frozen = s.frozen := by rw [Device.bumpPort_only s p i n]
@[simp] theorem Device.bumpPort_corrected (s : Device) (p i n : Nat) : (s.bumpPort p i n).corrected = s.corrected := by rw [Device.bumpPort_only s p i n]
@[simp] theorem Device.bumpPort_correctedFrom (s : Device) (p i n : Nat) : (s.bumpPort p i n).correctedFrom = s.correctedFrom := by rw [Device.bumpPort_only s p i n]
@[simp] theorem Device.bumpPort_fresh (s : Device) (p i n : Nat) : (s.bumpPort p i n).fresh = s.fresh := by rw [Device.bumpPort_only s p i n]
@[simp] theorem Device.bumpPort_cluster (s : Device) (p i n : Nat) (i : Nat) : (s.bumpPort p i n).cluster i = s.cluster i := by rw [Device.bumpPort_only s p i n]; rfl
@[simp] theorem Device.bumpPort_quad (s : Device) (p i n : Nat) (i j : Nat) : (s.bumpPort p i n).quad i j = s.quad i j := by rw [Device.bumpPort_only s p i n]; rfl
@[simp] theorem Device.bumpPort_die (s : Device) (p i n : Nat) (i : Nat) : (s.bumpPort p i n).die i = s.die i := by rw [Device.bumpPort_only s p i n]; rfl
@[simp] theorem Device.bumpPort_stripe (s : Device) (p i n : Nat) (i : Nat) : (s.bumpPort p i n).stripe i = s.stripe i := by rw [Device.bumpPort_only s p i n]; rfl
@[simp] theorem Device.bumpPort_pdie (s : Device) (p i n : Nat) (i : Nat) : (s.bumpPort p i n).pdie i = s.pdie i := by rw [Device.bumpPort_only s p i n]; rfl
@[simp] theorem Device.bumpPort_mp (s : Device) (p i n : Nat) (i : Nat) : (s.bumpPort p i n).mp i = s.mp i := by rw [Device.bumpPort_only s p i n]; rfl
@[simp] theorem Device.bumpPort_fuse (s : Device) (p i n : Nat) (i : Nat) : (s.bumpPort p i n).fuse i = s.fuse i := by rw [Device.bumpPort_only s p i n]; rfl
@[simp] theorem Device.bumpPort_ctx (s : Device) (p i n : Nat) (i j : Nat) : (s.bumpPort p i n).ctx i j = s.ctx i j := by rw [Device.bumpPort_only s p i n]; rfl

/-! `emit` -/

@[simp] theorem Device.emit_mem (s : Device) (k : Nat) (f : Frame) (p : Nat) : (s.emit k f p).mem = s.mem := by rw [Device.emit_only s k f p]
@[simp] theorem Device.emit_damaged (s : Device) (k : Nat) (f : Frame) (p : Nat) : (s.emit k f p).damaged = s.damaged := by rw [Device.emit_only s k f p]
@[simp] theorem Device.emit_ident (s : Device) (k : Nat) (f : Frame) (p : Nat) : (s.emit k f p).ident = s.ident := by rw [Device.emit_only s k f p]
@[simp] theorem Device.emit_fuses (s : Device) (k : Nat) (f : Frame) (p : Nat) : (s.emit k f p).fuses = s.fuses := by rw [Device.emit_only s k f p]
@[simp] theorem Device.emit_mps (s : Device) (k : Nat) (f : Frame) (p : Nat) : (s.emit k f p).mps = s.mps := by rw [Device.emit_only s k f p]
@[simp] theorem Device.emit_boot (s : Device) (k : Nat) (f : Frame) (p : Nat) : (s.emit k f p).boot = s.boot := by rw [Device.emit_only s k f p]
@[simp] theorem Device.emit_power (s : Device) (k : Nat) (f : Frame) (p : Nat) : (s.emit k f p).power = s.power := by rw [Device.emit_only s k f p]
@[simp] theorem Device.emit_panel (s : Device) (k : Nat) (f : Frame) (p : Nat) : (s.emit k f p).panel = s.panel := by rw [Device.emit_only s k f p]
@[simp] theorem Device.emit_log (s : Device) (k : Nat) (f : Frame) (p : Nat) : (s.emit k f p).log = s.log := by rw [Device.emit_only s k f p]
@[simp] theorem Device.emit_job (s : Device) (k : Nat) (f : Frame) (p : Nat) : (s.emit k f p).job = s.job := by rw [Device.emit_only s k f p]
@[simp] theorem Device.emit_ops (s : Device) (k : Nat) (f : Frame) (p : Nat) : (s.emit k f p).ops = s.ops := by rw [Device.emit_only s k f p]
@[simp] theorem Device.emit_endedOps (s : Device) (k : Nat) (f : Frame) (p : Nat) : (s.emit k f p).endedOps = s.endedOps := by rw [Device.emit_only s k f p]
@[simp] theorem Device.emit_serials (s : Device) (k : Nat) (f : Frame) (p : Nat) : (s.emit k f p).serials = s.serials := by rw [Device.emit_only s k f p]
@[simp] theorem Device.emit_clusters (s : Device) (k : Nat) (f : Frame) (p : Nat) : (s.emit k f p).clusters = s.clusters := by rw [Device.emit_only s k f p]
@[simp] theorem Device.emit_quads (s : Device) (k : Nat) (f : Frame) (p : Nat) : (s.emit k f p).quads = s.quads := by rw [Device.emit_only s k f p]
@[simp] theorem Device.emit_dies (s : Device) (k : Nat) (f : Frame) (p : Nat) : (s.emit k f p).dies = s.dies := by rw [Device.emit_only s k f p]
@[simp] theorem Device.emit_stripes (s : Device) (k : Nat) (f : Frame) (p : Nat) : (s.emit k f p).stripes = s.stripes := by rw [Device.emit_only s k f p]
@[simp] theorem Device.emit_ingest (s : Device) (k : Nat) (f : Frame) (p : Nat) : (s.emit k f p).ingest = s.ingest := by rw [Device.emit_only s k f p]
@[simp] theorem Device.emit_pdies (s : Device) (k : Nat) (f : Frame) (p : Nat) : (s.emit k f p).pdies = s.pdies := by rw [Device.emit_only s k f p]
@[simp] theorem Device.emit_reduction (s : Device) (k : Nat) (f : Frame) (p : Nat) : (s.emit k f p).reduction = s.reduction := by rw [Device.emit_only s k f p]
@[simp] theorem Device.emit_stepTokens (s : Device) (k : Nat) (f : Frame) (p : Nat) : (s.emit k f p).stepTokens = s.stepTokens := by rw [Device.emit_only s k f p]
@[simp] theorem Device.emit_streamTokens (s : Device) (k : Nat) (f : Frame) (p : Nat) : (s.emit k f p).streamTokens = s.streamTokens := by rw [Device.emit_only s k f p]
@[simp] theorem Device.emit_frozen (s : Device) (k : Nat) (f : Frame) (p : Nat) : (s.emit k f p).frozen = s.frozen := by rw [Device.emit_only s k f p]
@[simp] theorem Device.emit_corrected (s : Device) (k : Nat) (f : Frame) (p : Nat) : (s.emit k f p).corrected = s.corrected := by rw [Device.emit_only s k f p]
@[simp] theorem Device.emit_correctedFrom (s : Device) (k : Nat) (f : Frame) (p : Nat) : (s.emit k f p).correctedFrom = s.correctedFrom := by rw [Device.emit_only s k f p]
@[simp] theorem Device.emit_fresh (s : Device) (k : Nat) (f : Frame) (p : Nat) : (s.emit k f p).fresh = s.fresh := by rw [Device.emit_only s k f p]
@[simp] theorem Device.emit_cluster (s : Device) (k : Nat) (f : Frame) (p : Nat) (i : Nat) : (s.emit k f p).cluster i = s.cluster i := by rw [Device.emit_only s k f p]; rfl
@[simp] theorem Device.emit_quad (s : Device) (k : Nat) (f : Frame) (p : Nat) (i j : Nat) : (s.emit k f p).quad i j = s.quad i j := by rw [Device.emit_only s k f p]; rfl
@[simp] theorem Device.emit_die (s : Device) (k : Nat) (f : Frame) (p : Nat) (i : Nat) : (s.emit k f p).die i = s.die i := by rw [Device.emit_only s k f p]; rfl
@[simp] theorem Device.emit_stripe (s : Device) (k : Nat) (f : Frame) (p : Nat) (i : Nat) : (s.emit k f p).stripe i = s.stripe i := by rw [Device.emit_only s k f p]; rfl
@[simp] theorem Device.emit_pdie (s : Device) (k : Nat) (f : Frame) (p : Nat) (i : Nat) : (s.emit k f p).pdie i = s.pdie i := by rw [Device.emit_only s k f p]; rfl
@[simp] theorem Device.emit_mp (s : Device) (k : Nat) (f : Frame) (p : Nat) (i : Nat) : (s.emit k f p).mp i = s.mp i := by rw [Device.emit_only s k f p]; rfl
@[simp] theorem Device.emit_fuse (s : Device) (k : Nat) (f : Frame) (p : Nat) (i : Nat) : (s.emit k f p).fuse i = s.fuse i := by rw [Device.emit_only s k f p]; rfl
@[simp] theorem Device.emit_ctx (s : Device) (k : Nat) (f : Frame) (p : Nat) (i j : Nat) : (s.emit k f p).ctx i j = s.ctx i j := by rw [Device.emit_only s k f p]; rfl

/-! `drain` -/

@[simp] theorem Device.drain_mem (s : Device) (k n : Nat) : (s.drain k n).mem = s.mem := by rw [Device.drain_only k n s]
@[simp] theorem Device.drain_damaged (s : Device) (k n : Nat) : (s.drain k n).damaged = s.damaged := by rw [Device.drain_only k n s]
@[simp] theorem Device.drain_ident (s : Device) (k n : Nat) : (s.drain k n).ident = s.ident := by rw [Device.drain_only k n s]
@[simp] theorem Device.drain_fuses (s : Device) (k n : Nat) : (s.drain k n).fuses = s.fuses := by rw [Device.drain_only k n s]
@[simp] theorem Device.drain_mps (s : Device) (k n : Nat) : (s.drain k n).mps = s.mps := by rw [Device.drain_only k n s]
@[simp] theorem Device.drain_boot (s : Device) (k n : Nat) : (s.drain k n).boot = s.boot := by rw [Device.drain_only k n s]
@[simp] theorem Device.drain_power (s : Device) (k n : Nat) : (s.drain k n).power = s.power := by rw [Device.drain_only k n s]
@[simp] theorem Device.drain_panel (s : Device) (k n : Nat) : (s.drain k n).panel = s.panel := by rw [Device.drain_only k n s]
@[simp] theorem Device.drain_log (s : Device) (k n : Nat) : (s.drain k n).log = s.log := by rw [Device.drain_only k n s]
@[simp] theorem Device.drain_job (s : Device) (k n : Nat) : (s.drain k n).job = s.job := by rw [Device.drain_only k n s]
@[simp] theorem Device.drain_ops (s : Device) (k n : Nat) : (s.drain k n).ops = s.ops := by rw [Device.drain_only k n s]
@[simp] theorem Device.drain_endedOps (s : Device) (k n : Nat) : (s.drain k n).endedOps = s.endedOps := by rw [Device.drain_only k n s]
@[simp] theorem Device.drain_serials (s : Device) (k n : Nat) : (s.drain k n).serials = s.serials := by rw [Device.drain_only k n s]
@[simp] theorem Device.drain_clusters (s : Device) (k n : Nat) : (s.drain k n).clusters = s.clusters := by rw [Device.drain_only k n s]
@[simp] theorem Device.drain_quads (s : Device) (k n : Nat) : (s.drain k n).quads = s.quads := by rw [Device.drain_only k n s]
@[simp] theorem Device.drain_dies (s : Device) (k n : Nat) : (s.drain k n).dies = s.dies := by rw [Device.drain_only k n s]
@[simp] theorem Device.drain_stripes (s : Device) (k n : Nat) : (s.drain k n).stripes = s.stripes := by rw [Device.drain_only k n s]
@[simp] theorem Device.drain_ingest (s : Device) (k n : Nat) : (s.drain k n).ingest = s.ingest := by rw [Device.drain_only k n s]
@[simp] theorem Device.drain_pdies (s : Device) (k n : Nat) : (s.drain k n).pdies = s.pdies := by rw [Device.drain_only k n s]
@[simp] theorem Device.drain_reduction (s : Device) (k n : Nat) : (s.drain k n).reduction = s.reduction := by rw [Device.drain_only k n s]
@[simp] theorem Device.drain_stepTokens (s : Device) (k n : Nat) : (s.drain k n).stepTokens = s.stepTokens := by rw [Device.drain_only k n s]
@[simp] theorem Device.drain_streamTokens (s : Device) (k n : Nat) : (s.drain k n).streamTokens = s.streamTokens := by rw [Device.drain_only k n s]
@[simp] theorem Device.drain_frozen (s : Device) (k n : Nat) : (s.drain k n).frozen = s.frozen := by rw [Device.drain_only k n s]
@[simp] theorem Device.drain_corrected (s : Device) (k n : Nat) : (s.drain k n).corrected = s.corrected := by rw [Device.drain_only k n s]
@[simp] theorem Device.drain_correctedFrom (s : Device) (k n : Nat) : (s.drain k n).correctedFrom = s.correctedFrom := by rw [Device.drain_only k n s]
@[simp] theorem Device.drain_fresh (s : Device) (k n : Nat) : (s.drain k n).fresh = s.fresh := by rw [Device.drain_only k n s]
@[simp] theorem Device.drain_cluster (s : Device) (k n : Nat) (i : Nat) : (s.drain k n).cluster i = s.cluster i := by rw [Device.drain_only k n s]; rfl
@[simp] theorem Device.drain_quad (s : Device) (k n : Nat) (i j : Nat) : (s.drain k n).quad i j = s.quad i j := by rw [Device.drain_only k n s]; rfl
@[simp] theorem Device.drain_die (s : Device) (k n : Nat) (i : Nat) : (s.drain k n).die i = s.die i := by rw [Device.drain_only k n s]; rfl
@[simp] theorem Device.drain_stripe (s : Device) (k n : Nat) (i : Nat) : (s.drain k n).stripe i = s.stripe i := by rw [Device.drain_only k n s]; rfl
@[simp] theorem Device.drain_pdie (s : Device) (k n : Nat) (i : Nat) : (s.drain k n).pdie i = s.pdie i := by rw [Device.drain_only k n s]; rfl
@[simp] theorem Device.drain_mp (s : Device) (k n : Nat) (i : Nat) : (s.drain k n).mp i = s.mp i := by rw [Device.drain_only k n s]; rfl
@[simp] theorem Device.drain_fuse (s : Device) (k n : Nat) (i : Nat) : (s.drain k n).fuse i = s.fuse i := by rw [Device.drain_only k n s]; rfl
@[simp] theorem Device.drain_ctx (s : Device) (k n : Nat) (i j : Nat) : (s.drain k n).ctx i j = s.ctx i j := by rw [Device.drain_only k n s]; rfl

/-! `send` -/

@[simp] theorem Device.send_mem (s : Device) (k kind : Nat) (last : Bool) (handle sb hint : Nat) (p : List Byte) : (s.send k kind last handle sb hint p).mem = s.mem := by rw [Device.send_only s k kind last handle sb hint p]
@[simp] theorem Device.send_damaged (s : Device) (k kind : Nat) (last : Bool) (handle sb hint : Nat) (p : List Byte) : (s.send k kind last handle sb hint p).damaged = s.damaged := by rw [Device.send_only s k kind last handle sb hint p]
@[simp] theorem Device.send_ident (s : Device) (k kind : Nat) (last : Bool) (handle sb hint : Nat) (p : List Byte) : (s.send k kind last handle sb hint p).ident = s.ident := by rw [Device.send_only s k kind last handle sb hint p]
@[simp] theorem Device.send_fuses (s : Device) (k kind : Nat) (last : Bool) (handle sb hint : Nat) (p : List Byte) : (s.send k kind last handle sb hint p).fuses = s.fuses := by rw [Device.send_only s k kind last handle sb hint p]
@[simp] theorem Device.send_mps (s : Device) (k kind : Nat) (last : Bool) (handle sb hint : Nat) (p : List Byte) : (s.send k kind last handle sb hint p).mps = s.mps := by rw [Device.send_only s k kind last handle sb hint p]
@[simp] theorem Device.send_boot (s : Device) (k kind : Nat) (last : Bool) (handle sb hint : Nat) (p : List Byte) : (s.send k kind last handle sb hint p).boot = s.boot := by rw [Device.send_only s k kind last handle sb hint p]
@[simp] theorem Device.send_power (s : Device) (k kind : Nat) (last : Bool) (handle sb hint : Nat) (p : List Byte) : (s.send k kind last handle sb hint p).power = s.power := by rw [Device.send_only s k kind last handle sb hint p]
@[simp] theorem Device.send_panel (s : Device) (k kind : Nat) (last : Bool) (handle sb hint : Nat) (p : List Byte) : (s.send k kind last handle sb hint p).panel = s.panel := by rw [Device.send_only s k kind last handle sb hint p]
@[simp] theorem Device.send_log (s : Device) (k kind : Nat) (last : Bool) (handle sb hint : Nat) (p : List Byte) : (s.send k kind last handle sb hint p).log = s.log := by rw [Device.send_only s k kind last handle sb hint p]
@[simp] theorem Device.send_job (s : Device) (k kind : Nat) (last : Bool) (handle sb hint : Nat) (p : List Byte) : (s.send k kind last handle sb hint p).job = s.job := by rw [Device.send_only s k kind last handle sb hint p]
@[simp] theorem Device.send_ops (s : Device) (k kind : Nat) (last : Bool) (handle sb hint : Nat) (p : List Byte) : (s.send k kind last handle sb hint p).ops = s.ops := by rw [Device.send_only s k kind last handle sb hint p]
@[simp] theorem Device.send_endedOps (s : Device) (k kind : Nat) (last : Bool) (handle sb hint : Nat) (p : List Byte) : (s.send k kind last handle sb hint p).endedOps = s.endedOps := by rw [Device.send_only s k kind last handle sb hint p]
@[simp] theorem Device.send_serials (s : Device) (k kind : Nat) (last : Bool) (handle sb hint : Nat) (p : List Byte) : (s.send k kind last handle sb hint p).serials = s.serials := by rw [Device.send_only s k kind last handle sb hint p]
@[simp] theorem Device.send_clusters (s : Device) (k kind : Nat) (last : Bool) (handle sb hint : Nat) (p : List Byte) : (s.send k kind last handle sb hint p).clusters = s.clusters := by rw [Device.send_only s k kind last handle sb hint p]
@[simp] theorem Device.send_quads (s : Device) (k kind : Nat) (last : Bool) (handle sb hint : Nat) (p : List Byte) : (s.send k kind last handle sb hint p).quads = s.quads := by rw [Device.send_only s k kind last handle sb hint p]
@[simp] theorem Device.send_dies (s : Device) (k kind : Nat) (last : Bool) (handle sb hint : Nat) (p : List Byte) : (s.send k kind last handle sb hint p).dies = s.dies := by rw [Device.send_only s k kind last handle sb hint p]
@[simp] theorem Device.send_stripes (s : Device) (k kind : Nat) (last : Bool) (handle sb hint : Nat) (p : List Byte) : (s.send k kind last handle sb hint p).stripes = s.stripes := by rw [Device.send_only s k kind last handle sb hint p]
@[simp] theorem Device.send_ingest (s : Device) (k kind : Nat) (last : Bool) (handle sb hint : Nat) (p : List Byte) : (s.send k kind last handle sb hint p).ingest = s.ingest := by rw [Device.send_only s k kind last handle sb hint p]
@[simp] theorem Device.send_pdies (s : Device) (k kind : Nat) (last : Bool) (handle sb hint : Nat) (p : List Byte) : (s.send k kind last handle sb hint p).pdies = s.pdies := by rw [Device.send_only s k kind last handle sb hint p]
@[simp] theorem Device.send_reduction (s : Device) (k kind : Nat) (last : Bool) (handle sb hint : Nat) (p : List Byte) : (s.send k kind last handle sb hint p).reduction = s.reduction := by rw [Device.send_only s k kind last handle sb hint p]
@[simp] theorem Device.send_stepTokens (s : Device) (k kind : Nat) (last : Bool) (handle sb hint : Nat) (p : List Byte) : (s.send k kind last handle sb hint p).stepTokens = s.stepTokens := by rw [Device.send_only s k kind last handle sb hint p]
@[simp] theorem Device.send_streamTokens (s : Device) (k kind : Nat) (last : Bool) (handle sb hint : Nat) (p : List Byte) : (s.send k kind last handle sb hint p).streamTokens = s.streamTokens := by rw [Device.send_only s k kind last handle sb hint p]
@[simp] theorem Device.send_frozen (s : Device) (k kind : Nat) (last : Bool) (handle sb hint : Nat) (p : List Byte) : (s.send k kind last handle sb hint p).frozen = s.frozen := by rw [Device.send_only s k kind last handle sb hint p]
@[simp] theorem Device.send_corrected (s : Device) (k kind : Nat) (last : Bool) (handle sb hint : Nat) (p : List Byte) : (s.send k kind last handle sb hint p).corrected = s.corrected := by rw [Device.send_only s k kind last handle sb hint p]
@[simp] theorem Device.send_correctedFrom (s : Device) (k kind : Nat) (last : Bool) (handle sb hint : Nat) (p : List Byte) : (s.send k kind last handle sb hint p).correctedFrom = s.correctedFrom := by rw [Device.send_only s k kind last handle sb hint p]
@[simp] theorem Device.send_fresh (s : Device) (k kind : Nat) (last : Bool) (handle sb hint : Nat) (p : List Byte) : (s.send k kind last handle sb hint p).fresh = s.fresh := by rw [Device.send_only s k kind last handle sb hint p]
@[simp] theorem Device.send_cluster (s : Device) (k kind : Nat) (last : Bool) (handle sb hint : Nat) (p : List Byte) (i : Nat) : (s.send k kind last handle sb hint p).cluster i = s.cluster i := by rw [Device.send_only s k kind last handle sb hint p]; rfl
@[simp] theorem Device.send_quad (s : Device) (k kind : Nat) (last : Bool) (handle sb hint : Nat) (p : List Byte) (i j : Nat) : (s.send k kind last handle sb hint p).quad i j = s.quad i j := by rw [Device.send_only s k kind last handle sb hint p]; rfl
@[simp] theorem Device.send_die (s : Device) (k kind : Nat) (last : Bool) (handle sb hint : Nat) (p : List Byte) (i : Nat) : (s.send k kind last handle sb hint p).die i = s.die i := by rw [Device.send_only s k kind last handle sb hint p]; rfl
@[simp] theorem Device.send_stripe (s : Device) (k kind : Nat) (last : Bool) (handle sb hint : Nat) (p : List Byte) (i : Nat) : (s.send k kind last handle sb hint p).stripe i = s.stripe i := by rw [Device.send_only s k kind last handle sb hint p]; rfl
@[simp] theorem Device.send_pdie (s : Device) (k kind : Nat) (last : Bool) (handle sb hint : Nat) (p : List Byte) (i : Nat) : (s.send k kind last handle sb hint p).pdie i = s.pdie i := by rw [Device.send_only s k kind last handle sb hint p]; rfl
@[simp] theorem Device.send_mp (s : Device) (k kind : Nat) (last : Bool) (handle sb hint : Nat) (p : List Byte) (i : Nat) : (s.send k kind last handle sb hint p).mp i = s.mp i := by rw [Device.send_only s k kind last handle sb hint p]; rfl
@[simp] theorem Device.send_fuse (s : Device) (k kind : Nat) (last : Bool) (handle sb hint : Nat) (p : List Byte) (i : Nat) : (s.send k kind last handle sb hint p).fuse i = s.fuse i := by rw [Device.send_only s k kind last handle sb hint p]; rfl
@[simp] theorem Device.send_ctx (s : Device) (k kind : Nat) (last : Bool) (handle sb hint : Nat) (p : List Byte) (i j : Nat) : (s.send k kind last handle sb hint p).ctx i j = s.ctx i j := by rw [Device.send_only s k kind last handle sb hint p]; rfl

/-! `sendAck` -/

@[simp] theorem Device.sendAck_mem (s : Device) (k : Nat) (hold retx : Bool) (code : Nat) : (s.sendAck k hold retx code).mem = s.mem := by rw [Device.sendAck_only s k hold retx code]
@[simp] theorem Device.sendAck_damaged (s : Device) (k : Nat) (hold retx : Bool) (code : Nat) : (s.sendAck k hold retx code).damaged = s.damaged := by rw [Device.sendAck_only s k hold retx code]
@[simp] theorem Device.sendAck_ident (s : Device) (k : Nat) (hold retx : Bool) (code : Nat) : (s.sendAck k hold retx code).ident = s.ident := by rw [Device.sendAck_only s k hold retx code]
@[simp] theorem Device.sendAck_fuses (s : Device) (k : Nat) (hold retx : Bool) (code : Nat) : (s.sendAck k hold retx code).fuses = s.fuses := by rw [Device.sendAck_only s k hold retx code]
@[simp] theorem Device.sendAck_mps (s : Device) (k : Nat) (hold retx : Bool) (code : Nat) : (s.sendAck k hold retx code).mps = s.mps := by rw [Device.sendAck_only s k hold retx code]
@[simp] theorem Device.sendAck_boot (s : Device) (k : Nat) (hold retx : Bool) (code : Nat) : (s.sendAck k hold retx code).boot = s.boot := by rw [Device.sendAck_only s k hold retx code]
@[simp] theorem Device.sendAck_power (s : Device) (k : Nat) (hold retx : Bool) (code : Nat) : (s.sendAck k hold retx code).power = s.power := by rw [Device.sendAck_only s k hold retx code]
@[simp] theorem Device.sendAck_panel (s : Device) (k : Nat) (hold retx : Bool) (code : Nat) : (s.sendAck k hold retx code).panel = s.panel := by rw [Device.sendAck_only s k hold retx code]
@[simp] theorem Device.sendAck_log (s : Device) (k : Nat) (hold retx : Bool) (code : Nat) : (s.sendAck k hold retx code).log = s.log := by rw [Device.sendAck_only s k hold retx code]
@[simp] theorem Device.sendAck_job (s : Device) (k : Nat) (hold retx : Bool) (code : Nat) : (s.sendAck k hold retx code).job = s.job := by rw [Device.sendAck_only s k hold retx code]
@[simp] theorem Device.sendAck_ops (s : Device) (k : Nat) (hold retx : Bool) (code : Nat) : (s.sendAck k hold retx code).ops = s.ops := by rw [Device.sendAck_only s k hold retx code]
@[simp] theorem Device.sendAck_endedOps (s : Device) (k : Nat) (hold retx : Bool) (code : Nat) : (s.sendAck k hold retx code).endedOps = s.endedOps := by rw [Device.sendAck_only s k hold retx code]
@[simp] theorem Device.sendAck_serials (s : Device) (k : Nat) (hold retx : Bool) (code : Nat) : (s.sendAck k hold retx code).serials = s.serials := by rw [Device.sendAck_only s k hold retx code]
@[simp] theorem Device.sendAck_clusters (s : Device) (k : Nat) (hold retx : Bool) (code : Nat) : (s.sendAck k hold retx code).clusters = s.clusters := by rw [Device.sendAck_only s k hold retx code]
@[simp] theorem Device.sendAck_quads (s : Device) (k : Nat) (hold retx : Bool) (code : Nat) : (s.sendAck k hold retx code).quads = s.quads := by rw [Device.sendAck_only s k hold retx code]
@[simp] theorem Device.sendAck_dies (s : Device) (k : Nat) (hold retx : Bool) (code : Nat) : (s.sendAck k hold retx code).dies = s.dies := by rw [Device.sendAck_only s k hold retx code]
@[simp] theorem Device.sendAck_stripes (s : Device) (k : Nat) (hold retx : Bool) (code : Nat) : (s.sendAck k hold retx code).stripes = s.stripes := by rw [Device.sendAck_only s k hold retx code]
@[simp] theorem Device.sendAck_ingest (s : Device) (k : Nat) (hold retx : Bool) (code : Nat) : (s.sendAck k hold retx code).ingest = s.ingest := by rw [Device.sendAck_only s k hold retx code]
@[simp] theorem Device.sendAck_pdies (s : Device) (k : Nat) (hold retx : Bool) (code : Nat) : (s.sendAck k hold retx code).pdies = s.pdies := by rw [Device.sendAck_only s k hold retx code]
@[simp] theorem Device.sendAck_reduction (s : Device) (k : Nat) (hold retx : Bool) (code : Nat) : (s.sendAck k hold retx code).reduction = s.reduction := by rw [Device.sendAck_only s k hold retx code]
@[simp] theorem Device.sendAck_stepTokens (s : Device) (k : Nat) (hold retx : Bool) (code : Nat) : (s.sendAck k hold retx code).stepTokens = s.stepTokens := by rw [Device.sendAck_only s k hold retx code]
@[simp] theorem Device.sendAck_streamTokens (s : Device) (k : Nat) (hold retx : Bool) (code : Nat) : (s.sendAck k hold retx code).streamTokens = s.streamTokens := by rw [Device.sendAck_only s k hold retx code]
@[simp] theorem Device.sendAck_frozen (s : Device) (k : Nat) (hold retx : Bool) (code : Nat) : (s.sendAck k hold retx code).frozen = s.frozen := by rw [Device.sendAck_only s k hold retx code]
@[simp] theorem Device.sendAck_corrected (s : Device) (k : Nat) (hold retx : Bool) (code : Nat) : (s.sendAck k hold retx code).corrected = s.corrected := by rw [Device.sendAck_only s k hold retx code]
@[simp] theorem Device.sendAck_correctedFrom (s : Device) (k : Nat) (hold retx : Bool) (code : Nat) : (s.sendAck k hold retx code).correctedFrom = s.correctedFrom := by rw [Device.sendAck_only s k hold retx code]
@[simp] theorem Device.sendAck_fresh (s : Device) (k : Nat) (hold retx : Bool) (code : Nat) : (s.sendAck k hold retx code).fresh = s.fresh := by rw [Device.sendAck_only s k hold retx code]
@[simp] theorem Device.sendAck_cluster (s : Device) (k : Nat) (hold retx : Bool) (code : Nat) (i : Nat) : (s.sendAck k hold retx code).cluster i = s.cluster i := by rw [Device.sendAck_only s k hold retx code]; rfl
@[simp] theorem Device.sendAck_quad (s : Device) (k : Nat) (hold retx : Bool) (code : Nat) (i j : Nat) : (s.sendAck k hold retx code).quad i j = s.quad i j := by rw [Device.sendAck_only s k hold retx code]; rfl
@[simp] theorem Device.sendAck_die (s : Device) (k : Nat) (hold retx : Bool) (code : Nat) (i : Nat) : (s.sendAck k hold retx code).die i = s.die i := by rw [Device.sendAck_only s k hold retx code]; rfl
@[simp] theorem Device.sendAck_stripe (s : Device) (k : Nat) (hold retx : Bool) (code : Nat) (i : Nat) : (s.sendAck k hold retx code).stripe i = s.stripe i := by rw [Device.sendAck_only s k hold retx code]; rfl
@[simp] theorem Device.sendAck_pdie (s : Device) (k : Nat) (hold retx : Bool) (code : Nat) (i : Nat) : (s.sendAck k hold retx code).pdie i = s.pdie i := by rw [Device.sendAck_only s k hold retx code]; rfl
@[simp] theorem Device.sendAck_mp (s : Device) (k : Nat) (hold retx : Bool) (code : Nat) (i : Nat) : (s.sendAck k hold retx code).mp i = s.mp i := by rw [Device.sendAck_only s k hold retx code]; rfl
@[simp] theorem Device.sendAck_fuse (s : Device) (k : Nat) (hold retx : Bool) (code : Nat) (i : Nat) : (s.sendAck k hold retx code).fuse i = s.fuse i := by rw [Device.sendAck_only s k hold retx code]; rfl
@[simp] theorem Device.sendAck_ctx (s : Device) (k : Nat) (hold retx : Bool) (code : Nat) (i j : Nat) : (s.sendAck k hold retx code).ctx i j = s.ctx i j := by rw [Device.sendAck_only s k hold retx code]; rfl

/-! `grantFlow` -/

@[simp] theorem Device.grantFlow_mem (s : Device) (k b : Nat) : (s.grantFlow k b).mem = s.mem := by rw [Device.grantFlow_only s k b]
@[simp] theorem Device.grantFlow_damaged (s : Device) (k b : Nat) : (s.grantFlow k b).damaged = s.damaged := by rw [Device.grantFlow_only s k b]
@[simp] theorem Device.grantFlow_ident (s : Device) (k b : Nat) : (s.grantFlow k b).ident = s.ident := by rw [Device.grantFlow_only s k b]
@[simp] theorem Device.grantFlow_fuses (s : Device) (k b : Nat) : (s.grantFlow k b).fuses = s.fuses := by rw [Device.grantFlow_only s k b]
@[simp] theorem Device.grantFlow_mps (s : Device) (k b : Nat) : (s.grantFlow k b).mps = s.mps := by rw [Device.grantFlow_only s k b]
@[simp] theorem Device.grantFlow_boot (s : Device) (k b : Nat) : (s.grantFlow k b).boot = s.boot := by rw [Device.grantFlow_only s k b]
@[simp] theorem Device.grantFlow_power (s : Device) (k b : Nat) : (s.grantFlow k b).power = s.power := by rw [Device.grantFlow_only s k b]
@[simp] theorem Device.grantFlow_panel (s : Device) (k b : Nat) : (s.grantFlow k b).panel = s.panel := by rw [Device.grantFlow_only s k b]
@[simp] theorem Device.grantFlow_log (s : Device) (k b : Nat) : (s.grantFlow k b).log = s.log := by rw [Device.grantFlow_only s k b]
@[simp] theorem Device.grantFlow_job (s : Device) (k b : Nat) : (s.grantFlow k b).job = s.job := by rw [Device.grantFlow_only s k b]
@[simp] theorem Device.grantFlow_ops (s : Device) (k b : Nat) : (s.grantFlow k b).ops = s.ops := by rw [Device.grantFlow_only s k b]
@[simp] theorem Device.grantFlow_endedOps (s : Device) (k b : Nat) : (s.grantFlow k b).endedOps = s.endedOps := by rw [Device.grantFlow_only s k b]
@[simp] theorem Device.grantFlow_serials (s : Device) (k b : Nat) : (s.grantFlow k b).serials = s.serials := by rw [Device.grantFlow_only s k b]
@[simp] theorem Device.grantFlow_clusters (s : Device) (k b : Nat) : (s.grantFlow k b).clusters = s.clusters := by rw [Device.grantFlow_only s k b]
@[simp] theorem Device.grantFlow_quads (s : Device) (k b : Nat) : (s.grantFlow k b).quads = s.quads := by rw [Device.grantFlow_only s k b]
@[simp] theorem Device.grantFlow_dies (s : Device) (k b : Nat) : (s.grantFlow k b).dies = s.dies := by rw [Device.grantFlow_only s k b]
@[simp] theorem Device.grantFlow_stripes (s : Device) (k b : Nat) : (s.grantFlow k b).stripes = s.stripes := by rw [Device.grantFlow_only s k b]
@[simp] theorem Device.grantFlow_ingest (s : Device) (k b : Nat) : (s.grantFlow k b).ingest = s.ingest := by rw [Device.grantFlow_only s k b]
@[simp] theorem Device.grantFlow_pdies (s : Device) (k b : Nat) : (s.grantFlow k b).pdies = s.pdies := by rw [Device.grantFlow_only s k b]
@[simp] theorem Device.grantFlow_reduction (s : Device) (k b : Nat) : (s.grantFlow k b).reduction = s.reduction := by rw [Device.grantFlow_only s k b]
@[simp] theorem Device.grantFlow_stepTokens (s : Device) (k b : Nat) : (s.grantFlow k b).stepTokens = s.stepTokens := by rw [Device.grantFlow_only s k b]
@[simp] theorem Device.grantFlow_streamTokens (s : Device) (k b : Nat) : (s.grantFlow k b).streamTokens = s.streamTokens := by rw [Device.grantFlow_only s k b]
@[simp] theorem Device.grantFlow_frozen (s : Device) (k b : Nat) : (s.grantFlow k b).frozen = s.frozen := by rw [Device.grantFlow_only s k b]
@[simp] theorem Device.grantFlow_corrected (s : Device) (k b : Nat) : (s.grantFlow k b).corrected = s.corrected := by rw [Device.grantFlow_only s k b]
@[simp] theorem Device.grantFlow_correctedFrom (s : Device) (k b : Nat) : (s.grantFlow k b).correctedFrom = s.correctedFrom := by rw [Device.grantFlow_only s k b]
@[simp] theorem Device.grantFlow_fresh (s : Device) (k b : Nat) : (s.grantFlow k b).fresh = s.fresh := by rw [Device.grantFlow_only s k b]
@[simp] theorem Device.grantFlow_cluster (s : Device) (k b : Nat) (i : Nat) : (s.grantFlow k b).cluster i = s.cluster i := by rw [Device.grantFlow_only s k b]; rfl
@[simp] theorem Device.grantFlow_quad (s : Device) (k b : Nat) (i j : Nat) : (s.grantFlow k b).quad i j = s.quad i j := by rw [Device.grantFlow_only s k b]; rfl
@[simp] theorem Device.grantFlow_die (s : Device) (k b : Nat) (i : Nat) : (s.grantFlow k b).die i = s.die i := by rw [Device.grantFlow_only s k b]; rfl
@[simp] theorem Device.grantFlow_stripe (s : Device) (k b : Nat) (i : Nat) : (s.grantFlow k b).stripe i = s.stripe i := by rw [Device.grantFlow_only s k b]; rfl
@[simp] theorem Device.grantFlow_pdie (s : Device) (k b : Nat) (i : Nat) : (s.grantFlow k b).pdie i = s.pdie i := by rw [Device.grantFlow_only s k b]; rfl
@[simp] theorem Device.grantFlow_mp (s : Device) (k b : Nat) (i : Nat) : (s.grantFlow k b).mp i = s.mp i := by rw [Device.grantFlow_only s k b]; rfl
@[simp] theorem Device.grantFlow_fuse (s : Device) (k b : Nat) (i : Nat) : (s.grantFlow k b).fuse i = s.fuse i := by rw [Device.grantFlow_only s k b]; rfl
@[simp] theorem Device.grantFlow_ctx (s : Device) (k b : Nat) (i j : Nat) : (s.grantFlow k b).ctx i j = s.ctx i j := by rw [Device.grantFlow_only s k b]; rfl

/-! `sendAll` -/

@[simp] theorem Device.sendAll_mem (s : Device) (k kind handle : Nat) (l : List (List Byte)) : (s.sendAll k kind handle l).mem = s.mem := by rw [Device.sendAll_only k kind handle l s]
@[simp] theorem Device.sendAll_damaged (s : Device) (k kind handle : Nat) (l : List (List Byte)) : (s.sendAll k kind handle l).damaged = s.damaged := by rw [Device.sendAll_only k kind handle l s]
@[simp] theorem Device.sendAll_ident (s : Device) (k kind handle : Nat) (l : List (List Byte)) : (s.sendAll k kind handle l).ident = s.ident := by rw [Device.sendAll_only k kind handle l s]
@[simp] theorem Device.sendAll_fuses (s : Device) (k kind handle : Nat) (l : List (List Byte)) : (s.sendAll k kind handle l).fuses = s.fuses := by rw [Device.sendAll_only k kind handle l s]
@[simp] theorem Device.sendAll_mps (s : Device) (k kind handle : Nat) (l : List (List Byte)) : (s.sendAll k kind handle l).mps = s.mps := by rw [Device.sendAll_only k kind handle l s]
@[simp] theorem Device.sendAll_boot (s : Device) (k kind handle : Nat) (l : List (List Byte)) : (s.sendAll k kind handle l).boot = s.boot := by rw [Device.sendAll_only k kind handle l s]
@[simp] theorem Device.sendAll_power (s : Device) (k kind handle : Nat) (l : List (List Byte)) : (s.sendAll k kind handle l).power = s.power := by rw [Device.sendAll_only k kind handle l s]
@[simp] theorem Device.sendAll_panel (s : Device) (k kind handle : Nat) (l : List (List Byte)) : (s.sendAll k kind handle l).panel = s.panel := by rw [Device.sendAll_only k kind handle l s]
@[simp] theorem Device.sendAll_log (s : Device) (k kind handle : Nat) (l : List (List Byte)) : (s.sendAll k kind handle l).log = s.log := by rw [Device.sendAll_only k kind handle l s]
@[simp] theorem Device.sendAll_job (s : Device) (k kind handle : Nat) (l : List (List Byte)) : (s.sendAll k kind handle l).job = s.job := by rw [Device.sendAll_only k kind handle l s]
@[simp] theorem Device.sendAll_ops (s : Device) (k kind handle : Nat) (l : List (List Byte)) : (s.sendAll k kind handle l).ops = s.ops := by rw [Device.sendAll_only k kind handle l s]
@[simp] theorem Device.sendAll_endedOps (s : Device) (k kind handle : Nat) (l : List (List Byte)) : (s.sendAll k kind handle l).endedOps = s.endedOps := by rw [Device.sendAll_only k kind handle l s]
@[simp] theorem Device.sendAll_serials (s : Device) (k kind handle : Nat) (l : List (List Byte)) : (s.sendAll k kind handle l).serials = s.serials := by rw [Device.sendAll_only k kind handle l s]
@[simp] theorem Device.sendAll_clusters (s : Device) (k kind handle : Nat) (l : List (List Byte)) : (s.sendAll k kind handle l).clusters = s.clusters := by rw [Device.sendAll_only k kind handle l s]
@[simp] theorem Device.sendAll_quads (s : Device) (k kind handle : Nat) (l : List (List Byte)) : (s.sendAll k kind handle l).quads = s.quads := by rw [Device.sendAll_only k kind handle l s]
@[simp] theorem Device.sendAll_dies (s : Device) (k kind handle : Nat) (l : List (List Byte)) : (s.sendAll k kind handle l).dies = s.dies := by rw [Device.sendAll_only k kind handle l s]
@[simp] theorem Device.sendAll_stripes (s : Device) (k kind handle : Nat) (l : List (List Byte)) : (s.sendAll k kind handle l).stripes = s.stripes := by rw [Device.sendAll_only k kind handle l s]
@[simp] theorem Device.sendAll_ingest (s : Device) (k kind handle : Nat) (l : List (List Byte)) : (s.sendAll k kind handle l).ingest = s.ingest := by rw [Device.sendAll_only k kind handle l s]
@[simp] theorem Device.sendAll_pdies (s : Device) (k kind handle : Nat) (l : List (List Byte)) : (s.sendAll k kind handle l).pdies = s.pdies := by rw [Device.sendAll_only k kind handle l s]
@[simp] theorem Device.sendAll_reduction (s : Device) (k kind handle : Nat) (l : List (List Byte)) : (s.sendAll k kind handle l).reduction = s.reduction := by rw [Device.sendAll_only k kind handle l s]
@[simp] theorem Device.sendAll_stepTokens (s : Device) (k kind handle : Nat) (l : List (List Byte)) : (s.sendAll k kind handle l).stepTokens = s.stepTokens := by rw [Device.sendAll_only k kind handle l s]
@[simp] theorem Device.sendAll_streamTokens (s : Device) (k kind handle : Nat) (l : List (List Byte)) : (s.sendAll k kind handle l).streamTokens = s.streamTokens := by rw [Device.sendAll_only k kind handle l s]
@[simp] theorem Device.sendAll_frozen (s : Device) (k kind handle : Nat) (l : List (List Byte)) : (s.sendAll k kind handle l).frozen = s.frozen := by rw [Device.sendAll_only k kind handle l s]
@[simp] theorem Device.sendAll_corrected (s : Device) (k kind handle : Nat) (l : List (List Byte)) : (s.sendAll k kind handle l).corrected = s.corrected := by rw [Device.sendAll_only k kind handle l s]
@[simp] theorem Device.sendAll_correctedFrom (s : Device) (k kind handle : Nat) (l : List (List Byte)) : (s.sendAll k kind handle l).correctedFrom = s.correctedFrom := by rw [Device.sendAll_only k kind handle l s]
@[simp] theorem Device.sendAll_fresh (s : Device) (k kind handle : Nat) (l : List (List Byte)) : (s.sendAll k kind handle l).fresh = s.fresh := by rw [Device.sendAll_only k kind handle l s]
@[simp] theorem Device.sendAll_cluster (s : Device) (k kind handle : Nat) (l : List (List Byte)) (i : Nat) : (s.sendAll k kind handle l).cluster i = s.cluster i := by rw [Device.sendAll_only k kind handle l s]; rfl
@[simp] theorem Device.sendAll_quad (s : Device) (k kind handle : Nat) (l : List (List Byte)) (i j : Nat) : (s.sendAll k kind handle l).quad i j = s.quad i j := by rw [Device.sendAll_only k kind handle l s]; rfl
@[simp] theorem Device.sendAll_die (s : Device) (k kind handle : Nat) (l : List (List Byte)) (i : Nat) : (s.sendAll k kind handle l).die i = s.die i := by rw [Device.sendAll_only k kind handle l s]; rfl
@[simp] theorem Device.sendAll_stripe (s : Device) (k kind handle : Nat) (l : List (List Byte)) (i : Nat) : (s.sendAll k kind handle l).stripe i = s.stripe i := by rw [Device.sendAll_only k kind handle l s]; rfl
@[simp] theorem Device.sendAll_pdie (s : Device) (k kind handle : Nat) (l : List (List Byte)) (i : Nat) : (s.sendAll k kind handle l).pdie i = s.pdie i := by rw [Device.sendAll_only k kind handle l s]; rfl
@[simp] theorem Device.sendAll_mp (s : Device) (k kind handle : Nat) (l : List (List Byte)) (i : Nat) : (s.sendAll k kind handle l).mp i = s.mp i := by rw [Device.sendAll_only k kind handle l s]; rfl
@[simp] theorem Device.sendAll_fuse (s : Device) (k kind handle : Nat) (l : List (List Byte)) (i : Nat) : (s.sendAll k kind handle l).fuse i = s.fuse i := by rw [Device.sendAll_only k kind handle l s]; rfl
@[simp] theorem Device.sendAll_ctx (s : Device) (k kind handle : Nat) (l : List (List Byte)) (i j : Nat) : (s.sendAll k kind handle l).ctx i j = s.ctx i j := by rw [Device.sendAll_only k kind handle l s]; rfl

/-! `sendReports` -/

@[simp] theorem Device.sendReports_mem (s : Device) (kind : Nat) (p : List Byte) : (s.sendReports kind p).mem = s.mem := by rw [Device.sendReports_only s kind p]
@[simp] theorem Device.sendReports_damaged (s : Device) (kind : Nat) (p : List Byte) : (s.sendReports kind p).damaged = s.damaged := by rw [Device.sendReports_only s kind p]
@[simp] theorem Device.sendReports_ident (s : Device) (kind : Nat) (p : List Byte) : (s.sendReports kind p).ident = s.ident := by rw [Device.sendReports_only s kind p]
@[simp] theorem Device.sendReports_fuses (s : Device) (kind : Nat) (p : List Byte) : (s.sendReports kind p).fuses = s.fuses := by rw [Device.sendReports_only s kind p]
@[simp] theorem Device.sendReports_mps (s : Device) (kind : Nat) (p : List Byte) : (s.sendReports kind p).mps = s.mps := by rw [Device.sendReports_only s kind p]
@[simp] theorem Device.sendReports_boot (s : Device) (kind : Nat) (p : List Byte) : (s.sendReports kind p).boot = s.boot := by rw [Device.sendReports_only s kind p]
@[simp] theorem Device.sendReports_power (s : Device) (kind : Nat) (p : List Byte) : (s.sendReports kind p).power = s.power := by rw [Device.sendReports_only s kind p]
@[simp] theorem Device.sendReports_panel (s : Device) (kind : Nat) (p : List Byte) : (s.sendReports kind p).panel = s.panel := by rw [Device.sendReports_only s kind p]
@[simp] theorem Device.sendReports_log (s : Device) (kind : Nat) (p : List Byte) : (s.sendReports kind p).log = s.log := by rw [Device.sendReports_only s kind p]
@[simp] theorem Device.sendReports_job (s : Device) (kind : Nat) (p : List Byte) : (s.sendReports kind p).job = s.job := by rw [Device.sendReports_only s kind p]
@[simp] theorem Device.sendReports_ops (s : Device) (kind : Nat) (p : List Byte) : (s.sendReports kind p).ops = s.ops := by rw [Device.sendReports_only s kind p]
@[simp] theorem Device.sendReports_endedOps (s : Device) (kind : Nat) (p : List Byte) : (s.sendReports kind p).endedOps = s.endedOps := by rw [Device.sendReports_only s kind p]
@[simp] theorem Device.sendReports_serials (s : Device) (kind : Nat) (p : List Byte) : (s.sendReports kind p).serials = s.serials := by rw [Device.sendReports_only s kind p]
@[simp] theorem Device.sendReports_clusters (s : Device) (kind : Nat) (p : List Byte) : (s.sendReports kind p).clusters = s.clusters := by rw [Device.sendReports_only s kind p]
@[simp] theorem Device.sendReports_quads (s : Device) (kind : Nat) (p : List Byte) : (s.sendReports kind p).quads = s.quads := by rw [Device.sendReports_only s kind p]
@[simp] theorem Device.sendReports_dies (s : Device) (kind : Nat) (p : List Byte) : (s.sendReports kind p).dies = s.dies := by rw [Device.sendReports_only s kind p]
@[simp] theorem Device.sendReports_stripes (s : Device) (kind : Nat) (p : List Byte) : (s.sendReports kind p).stripes = s.stripes := by rw [Device.sendReports_only s kind p]
@[simp] theorem Device.sendReports_ingest (s : Device) (kind : Nat) (p : List Byte) : (s.sendReports kind p).ingest = s.ingest := by rw [Device.sendReports_only s kind p]
@[simp] theorem Device.sendReports_pdies (s : Device) (kind : Nat) (p : List Byte) : (s.sendReports kind p).pdies = s.pdies := by rw [Device.sendReports_only s kind p]
@[simp] theorem Device.sendReports_reduction (s : Device) (kind : Nat) (p : List Byte) : (s.sendReports kind p).reduction = s.reduction := by rw [Device.sendReports_only s kind p]
@[simp] theorem Device.sendReports_stepTokens (s : Device) (kind : Nat) (p : List Byte) : (s.sendReports kind p).stepTokens = s.stepTokens := by rw [Device.sendReports_only s kind p]
@[simp] theorem Device.sendReports_streamTokens (s : Device) (kind : Nat) (p : List Byte) : (s.sendReports kind p).streamTokens = s.streamTokens := by rw [Device.sendReports_only s kind p]
@[simp] theorem Device.sendReports_frozen (s : Device) (kind : Nat) (p : List Byte) : (s.sendReports kind p).frozen = s.frozen := by rw [Device.sendReports_only s kind p]
@[simp] theorem Device.sendReports_corrected (s : Device) (kind : Nat) (p : List Byte) : (s.sendReports kind p).corrected = s.corrected := by rw [Device.sendReports_only s kind p]
@[simp] theorem Device.sendReports_correctedFrom (s : Device) (kind : Nat) (p : List Byte) : (s.sendReports kind p).correctedFrom = s.correctedFrom := by rw [Device.sendReports_only s kind p]
@[simp] theorem Device.sendReports_fresh (s : Device) (kind : Nat) (p : List Byte) : (s.sendReports kind p).fresh = s.fresh := by rw [Device.sendReports_only s kind p]
@[simp] theorem Device.sendReports_cluster (s : Device) (kind : Nat) (p : List Byte) (i : Nat) : (s.sendReports kind p).cluster i = s.cluster i := by rw [Device.sendReports_only s kind p]; rfl
@[simp] theorem Device.sendReports_quad (s : Device) (kind : Nat) (p : List Byte) (i j : Nat) : (s.sendReports kind p).quad i j = s.quad i j := by rw [Device.sendReports_only s kind p]; rfl
@[simp] theorem Device.sendReports_die (s : Device) (kind : Nat) (p : List Byte) (i : Nat) : (s.sendReports kind p).die i = s.die i := by rw [Device.sendReports_only s kind p]; rfl
@[simp] theorem Device.sendReports_stripe (s : Device) (kind : Nat) (p : List Byte) (i : Nat) : (s.sendReports kind p).stripe i = s.stripe i := by rw [Device.sendReports_only s kind p]; rfl
@[simp] theorem Device.sendReports_pdie (s : Device) (kind : Nat) (p : List Byte) (i : Nat) : (s.sendReports kind p).pdie i = s.pdie i := by rw [Device.sendReports_only s kind p]; rfl
@[simp] theorem Device.sendReports_mp (s : Device) (kind : Nat) (p : List Byte) (i : Nat) : (s.sendReports kind p).mp i = s.mp i := by rw [Device.sendReports_only s kind p]; rfl
@[simp] theorem Device.sendReports_fuse (s : Device) (kind : Nat) (p : List Byte) (i : Nat) : (s.sendReports kind p).fuse i = s.fuse i := by rw [Device.sendReports_only s kind p]; rfl
@[simp] theorem Device.sendReports_ctx (s : Device) (kind : Nat) (p : List Byte) (i j : Nat) : (s.sendReports kind p).ctx i j = s.ctx i j := by rw [Device.sendReports_only s kind p]; rfl

/-! `sendAttend` -/

@[simp] theorem Device.sendAttend_mem (s : Device) : (s.sendAttend).mem = s.mem := by rw [Device.sendAttend_only s]
@[simp] theorem Device.sendAttend_damaged (s : Device) : (s.sendAttend).damaged = s.damaged := by rw [Device.sendAttend_only s]
@[simp] theorem Device.sendAttend_ident (s : Device) : (s.sendAttend).ident = s.ident := by rw [Device.sendAttend_only s]
@[simp] theorem Device.sendAttend_fuses (s : Device) : (s.sendAttend).fuses = s.fuses := by rw [Device.sendAttend_only s]
@[simp] theorem Device.sendAttend_mps (s : Device) : (s.sendAttend).mps = s.mps := by rw [Device.sendAttend_only s]
@[simp] theorem Device.sendAttend_boot (s : Device) : (s.sendAttend).boot = s.boot := by rw [Device.sendAttend_only s]
@[simp] theorem Device.sendAttend_power (s : Device) : (s.sendAttend).power = s.power := by rw [Device.sendAttend_only s]
@[simp] theorem Device.sendAttend_panel (s : Device) : (s.sendAttend).panel = s.panel := by rw [Device.sendAttend_only s]
@[simp] theorem Device.sendAttend_log (s : Device) : (s.sendAttend).log = s.log := by rw [Device.sendAttend_only s]
@[simp] theorem Device.sendAttend_job (s : Device) : (s.sendAttend).job = s.job := by rw [Device.sendAttend_only s]
@[simp] theorem Device.sendAttend_ops (s : Device) : (s.sendAttend).ops = s.ops := by rw [Device.sendAttend_only s]
@[simp] theorem Device.sendAttend_endedOps (s : Device) : (s.sendAttend).endedOps = s.endedOps := by rw [Device.sendAttend_only s]
@[simp] theorem Device.sendAttend_serials (s : Device) : (s.sendAttend).serials = s.serials := by rw [Device.sendAttend_only s]
@[simp] theorem Device.sendAttend_clusters (s : Device) : (s.sendAttend).clusters = s.clusters := by rw [Device.sendAttend_only s]
@[simp] theorem Device.sendAttend_quads (s : Device) : (s.sendAttend).quads = s.quads := by rw [Device.sendAttend_only s]
@[simp] theorem Device.sendAttend_dies (s : Device) : (s.sendAttend).dies = s.dies := by rw [Device.sendAttend_only s]
@[simp] theorem Device.sendAttend_stripes (s : Device) : (s.sendAttend).stripes = s.stripes := by rw [Device.sendAttend_only s]
@[simp] theorem Device.sendAttend_ingest (s : Device) : (s.sendAttend).ingest = s.ingest := by rw [Device.sendAttend_only s]
@[simp] theorem Device.sendAttend_pdies (s : Device) : (s.sendAttend).pdies = s.pdies := by rw [Device.sendAttend_only s]
@[simp] theorem Device.sendAttend_reduction (s : Device) : (s.sendAttend).reduction = s.reduction := by rw [Device.sendAttend_only s]
@[simp] theorem Device.sendAttend_stepTokens (s : Device) : (s.sendAttend).stepTokens = s.stepTokens := by rw [Device.sendAttend_only s]
@[simp] theorem Device.sendAttend_streamTokens (s : Device) : (s.sendAttend).streamTokens = s.streamTokens := by rw [Device.sendAttend_only s]
@[simp] theorem Device.sendAttend_frozen (s : Device) : (s.sendAttend).frozen = s.frozen := by rw [Device.sendAttend_only s]
@[simp] theorem Device.sendAttend_corrected (s : Device) : (s.sendAttend).corrected = s.corrected := by rw [Device.sendAttend_only s]
@[simp] theorem Device.sendAttend_correctedFrom (s : Device) : (s.sendAttend).correctedFrom = s.correctedFrom := by rw [Device.sendAttend_only s]
@[simp] theorem Device.sendAttend_fresh (s : Device) : (s.sendAttend).fresh = s.fresh := by rw [Device.sendAttend_only s]
@[simp] theorem Device.sendAttend_cluster (s : Device) (i : Nat) : (s.sendAttend).cluster i = s.cluster i := by rw [Device.sendAttend_only s]; rfl
@[simp] theorem Device.sendAttend_quad (s : Device) (i j : Nat) : (s.sendAttend).quad i j = s.quad i j := by rw [Device.sendAttend_only s]; rfl
@[simp] theorem Device.sendAttend_die (s : Device) (i : Nat) : (s.sendAttend).die i = s.die i := by rw [Device.sendAttend_only s]; rfl
@[simp] theorem Device.sendAttend_stripe (s : Device) (i : Nat) : (s.sendAttend).stripe i = s.stripe i := by rw [Device.sendAttend_only s]; rfl
@[simp] theorem Device.sendAttend_pdie (s : Device) (i : Nat) : (s.sendAttend).pdie i = s.pdie i := by rw [Device.sendAttend_only s]; rfl
@[simp] theorem Device.sendAttend_mp (s : Device) (i : Nat) : (s.sendAttend).mp i = s.mp i := by rw [Device.sendAttend_only s]; rfl
@[simp] theorem Device.sendAttend_fuse (s : Device) (i : Nat) : (s.sendAttend).fuse i = s.fuse i := by rw [Device.sendAttend_only s]; rfl
@[simp] theorem Device.sendAttend_ctx (s : Device) (i j : Nat) : (s.sendAttend).ctx i j = s.ctx i j := by rw [Device.sendAttend_only s]; rfl

/-! `logNew` -/

@[simp] theorem Device.logNew_mem (s : Device) (r : Rec) : (s.logNew r).mem = s.mem := by rw [Device.logNew_only s r]
@[simp] theorem Device.logNew_damaged (s : Device) (r : Rec) : (s.logNew r).damaged = s.damaged := by rw [Device.logNew_only s r]
@[simp] theorem Device.logNew_ident (s : Device) (r : Rec) : (s.logNew r).ident = s.ident := by rw [Device.logNew_only s r]
@[simp] theorem Device.logNew_fuses (s : Device) (r : Rec) : (s.logNew r).fuses = s.fuses := by rw [Device.logNew_only s r]
@[simp] theorem Device.logNew_mps (s : Device) (r : Rec) : (s.logNew r).mps = s.mps := by rw [Device.logNew_only s r]
@[simp] theorem Device.logNew_boot (s : Device) (r : Rec) : (s.logNew r).boot = s.boot := by rw [Device.logNew_only s r]
@[simp] theorem Device.logNew_power (s : Device) (r : Rec) : (s.logNew r).power = s.power := by rw [Device.logNew_only s r]
@[simp] theorem Device.logNew_panel (s : Device) (r : Rec) : (s.logNew r).panel = s.panel := by rw [Device.logNew_only s r]
@[simp] theorem Device.logNew_job (s : Device) (r : Rec) : (s.logNew r).job = s.job := by rw [Device.logNew_only s r]
@[simp] theorem Device.logNew_ops (s : Device) (r : Rec) : (s.logNew r).ops = s.ops := by rw [Device.logNew_only s r]
@[simp] theorem Device.logNew_endedOps (s : Device) (r : Rec) : (s.logNew r).endedOps = s.endedOps := by rw [Device.logNew_only s r]
@[simp] theorem Device.logNew_serials (s : Device) (r : Rec) : (s.logNew r).serials = s.serials := by rw [Device.logNew_only s r]
@[simp] theorem Device.logNew_clusters (s : Device) (r : Rec) : (s.logNew r).clusters = s.clusters := by rw [Device.logNew_only s r]
@[simp] theorem Device.logNew_quads (s : Device) (r : Rec) : (s.logNew r).quads = s.quads := by rw [Device.logNew_only s r]
@[simp] theorem Device.logNew_dies (s : Device) (r : Rec) : (s.logNew r).dies = s.dies := by rw [Device.logNew_only s r]
@[simp] theorem Device.logNew_stripes (s : Device) (r : Rec) : (s.logNew r).stripes = s.stripes := by rw [Device.logNew_only s r]
@[simp] theorem Device.logNew_ingest (s : Device) (r : Rec) : (s.logNew r).ingest = s.ingest := by rw [Device.logNew_only s r]
@[simp] theorem Device.logNew_pdies (s : Device) (r : Rec) : (s.logNew r).pdies = s.pdies := by rw [Device.logNew_only s r]
@[simp] theorem Device.logNew_reduction (s : Device) (r : Rec) : (s.logNew r).reduction = s.reduction := by rw [Device.logNew_only s r]
@[simp] theorem Device.logNew_stepTokens (s : Device) (r : Rec) : (s.logNew r).stepTokens = s.stepTokens := by rw [Device.logNew_only s r]
@[simp] theorem Device.logNew_streamTokens (s : Device) (r : Rec) : (s.logNew r).streamTokens = s.streamTokens := by rw [Device.logNew_only s r]
@[simp] theorem Device.logNew_frozen (s : Device) (r : Rec) : (s.logNew r).frozen = s.frozen := by rw [Device.logNew_only s r]
@[simp] theorem Device.logNew_corrected (s : Device) (r : Rec) : (s.logNew r).corrected = s.corrected := by rw [Device.logNew_only s r]
@[simp] theorem Device.logNew_correctedFrom (s : Device) (r : Rec) : (s.logNew r).correctedFrom = s.correctedFrom := by rw [Device.logNew_only s r]
@[simp] theorem Device.logNew_cluster (s : Device) (r : Rec) (i : Nat) : (s.logNew r).cluster i = s.cluster i := by rw [Device.logNew_only s r]; rfl
@[simp] theorem Device.logNew_quad (s : Device) (r : Rec) (i j : Nat) : (s.logNew r).quad i j = s.quad i j := by rw [Device.logNew_only s r]; rfl
@[simp] theorem Device.logNew_die (s : Device) (r : Rec) (i : Nat) : (s.logNew r).die i = s.die i := by rw [Device.logNew_only s r]; rfl
@[simp] theorem Device.logNew_stripe (s : Device) (r : Rec) (i : Nat) : (s.logNew r).stripe i = s.stripe i := by rw [Device.logNew_only s r]; rfl
@[simp] theorem Device.logNew_pdie (s : Device) (r : Rec) (i : Nat) : (s.logNew r).pdie i = s.pdie i := by rw [Device.logNew_only s r]; rfl
@[simp] theorem Device.logNew_mp (s : Device) (r : Rec) (i : Nat) : (s.logNew r).mp i = s.mp i := by rw [Device.logNew_only s r]; rfl
@[simp] theorem Device.logNew_fuse (s : Device) (r : Rec) (i : Nat) : (s.logNew r).fuse i = s.fuse i := by rw [Device.logNew_only s r]; rfl
@[simp] theorem Device.logNew_ctx (s : Device) (r : Rec) (i j : Nat) : (s.logNew r).ctx i j = s.ctx i j := by rw [Device.logNew_only s r]; rfl

/-! `log1` -/

@[simp] theorem Device.log1_mem (s : Device) (r : Rec) : (s.log1 r).mem = s.mem := by rw [Device.log1_only s r]
@[simp] theorem Device.log1_damaged (s : Device) (r : Rec) : (s.log1 r).damaged = s.damaged := by rw [Device.log1_only s r]
@[simp] theorem Device.log1_ident (s : Device) (r : Rec) : (s.log1 r).ident = s.ident := by rw [Device.log1_only s r]
@[simp] theorem Device.log1_fuses (s : Device) (r : Rec) : (s.log1 r).fuses = s.fuses := by rw [Device.log1_only s r]
@[simp] theorem Device.log1_mps (s : Device) (r : Rec) : (s.log1 r).mps = s.mps := by rw [Device.log1_only s r]
@[simp] theorem Device.log1_boot (s : Device) (r : Rec) : (s.log1 r).boot = s.boot := by rw [Device.log1_only s r]
@[simp] theorem Device.log1_power (s : Device) (r : Rec) : (s.log1 r).power = s.power := by rw [Device.log1_only s r]
@[simp] theorem Device.log1_panel (s : Device) (r : Rec) : (s.log1 r).panel = s.panel := by rw [Device.log1_only s r]
@[simp] theorem Device.log1_job (s : Device) (r : Rec) : (s.log1 r).job = s.job := by rw [Device.log1_only s r]
@[simp] theorem Device.log1_ops (s : Device) (r : Rec) : (s.log1 r).ops = s.ops := by rw [Device.log1_only s r]
@[simp] theorem Device.log1_endedOps (s : Device) (r : Rec) : (s.log1 r).endedOps = s.endedOps := by rw [Device.log1_only s r]
@[simp] theorem Device.log1_serials (s : Device) (r : Rec) : (s.log1 r).serials = s.serials := by rw [Device.log1_only s r]
@[simp] theorem Device.log1_clusters (s : Device) (r : Rec) : (s.log1 r).clusters = s.clusters := by rw [Device.log1_only s r]
@[simp] theorem Device.log1_quads (s : Device) (r : Rec) : (s.log1 r).quads = s.quads := by rw [Device.log1_only s r]
@[simp] theorem Device.log1_dies (s : Device) (r : Rec) : (s.log1 r).dies = s.dies := by rw [Device.log1_only s r]
@[simp] theorem Device.log1_stripes (s : Device) (r : Rec) : (s.log1 r).stripes = s.stripes := by rw [Device.log1_only s r]
@[simp] theorem Device.log1_ingest (s : Device) (r : Rec) : (s.log1 r).ingest = s.ingest := by rw [Device.log1_only s r]
@[simp] theorem Device.log1_pdies (s : Device) (r : Rec) : (s.log1 r).pdies = s.pdies := by rw [Device.log1_only s r]
@[simp] theorem Device.log1_reduction (s : Device) (r : Rec) : (s.log1 r).reduction = s.reduction := by rw [Device.log1_only s r]
@[simp] theorem Device.log1_stepTokens (s : Device) (r : Rec) : (s.log1 r).stepTokens = s.stepTokens := by rw [Device.log1_only s r]
@[simp] theorem Device.log1_streamTokens (s : Device) (r : Rec) : (s.log1 r).streamTokens = s.streamTokens := by rw [Device.log1_only s r]
@[simp] theorem Device.log1_frozen (s : Device) (r : Rec) : (s.log1 r).frozen = s.frozen := by rw [Device.log1_only s r]
@[simp] theorem Device.log1_corrected (s : Device) (r : Rec) : (s.log1 r).corrected = s.corrected := by rw [Device.log1_only s r]
@[simp] theorem Device.log1_correctedFrom (s : Device) (r : Rec) : (s.log1 r).correctedFrom = s.correctedFrom := by rw [Device.log1_only s r]
@[simp] theorem Device.log1_cluster (s : Device) (r : Rec) (i : Nat) : (s.log1 r).cluster i = s.cluster i := by rw [Device.log1_only s r]; rfl
@[simp] theorem Device.log1_quad (s : Device) (r : Rec) (i j : Nat) : (s.log1 r).quad i j = s.quad i j := by rw [Device.log1_only s r]; rfl
@[simp] theorem Device.log1_die (s : Device) (r : Rec) (i : Nat) : (s.log1 r).die i = s.die i := by rw [Device.log1_only s r]; rfl
@[simp] theorem Device.log1_stripe (s : Device) (r : Rec) (i : Nat) : (s.log1 r).stripe i = s.stripe i := by rw [Device.log1_only s r]; rfl
@[simp] theorem Device.log1_pdie (s : Device) (r : Rec) (i : Nat) : (s.log1 r).pdie i = s.pdie i := by rw [Device.log1_only s r]; rfl
@[simp] theorem Device.log1_mp (s : Device) (r : Rec) (i : Nat) : (s.log1 r).mp i = s.mp i := by rw [Device.log1_only s r]; rfl
@[simp] theorem Device.log1_fuse (s : Device) (r : Rec) (i : Nat) : (s.log1 r).fuse i = s.fuse i := by rw [Device.log1_only s r]; rfl
@[simp] theorem Device.log1_ctx (s : Device) (r : Rec) (i j : Nat) : (s.log1 r).ctx i j = s.ctx i j := by rw [Device.log1_only s r]; rfl

/-! `hold` -/

@[simp] theorem Device.hold_mem (s : Device) (r : Rec) (site : Site) : (s.hold r site).mem = s.mem := by rw [Device.hold_only s r site]
@[simp] theorem Device.hold_damaged (s : Device) (r : Rec) (site : Site) : (s.hold r site).damaged = s.damaged := by rw [Device.hold_only s r site]
@[simp] theorem Device.hold_ident (s : Device) (r : Rec) (site : Site) : (s.hold r site).ident = s.ident := by rw [Device.hold_only s r site]
@[simp] theorem Device.hold_fuses (s : Device) (r : Rec) (site : Site) : (s.hold r site).fuses = s.fuses := by rw [Device.hold_only s r site]
@[simp] theorem Device.hold_mps (s : Device) (r : Rec) (site : Site) : (s.hold r site).mps = s.mps := by rw [Device.hold_only s r site]
@[simp] theorem Device.hold_boot (s : Device) (r : Rec) (site : Site) : (s.hold r site).boot = s.boot := by rw [Device.hold_only s r site]
@[simp] theorem Device.hold_power (s : Device) (r : Rec) (site : Site) : (s.hold r site).power = s.power := by rw [Device.hold_only s r site]
@[simp] theorem Device.hold_panel (s : Device) (r : Rec) (site : Site) : (s.hold r site).panel = s.panel := by rw [Device.hold_only s r site]
@[simp] theorem Device.hold_job (s : Device) (r : Rec) (site : Site) : (s.hold r site).job = s.job := by rw [Device.hold_only s r site]
@[simp] theorem Device.hold_ops (s : Device) (r : Rec) (site : Site) : (s.hold r site).ops = s.ops := by rw [Device.hold_only s r site]
@[simp] theorem Device.hold_endedOps (s : Device) (r : Rec) (site : Site) : (s.hold r site).endedOps = s.endedOps := by rw [Device.hold_only s r site]
@[simp] theorem Device.hold_serials (s : Device) (r : Rec) (site : Site) : (s.hold r site).serials = s.serials := by rw [Device.hold_only s r site]
@[simp] theorem Device.hold_clusters (s : Device) (r : Rec) (site : Site) : (s.hold r site).clusters = s.clusters := by rw [Device.hold_only s r site]
@[simp] theorem Device.hold_quads (s : Device) (r : Rec) (site : Site) : (s.hold r site).quads = s.quads := by rw [Device.hold_only s r site]
@[simp] theorem Device.hold_dies (s : Device) (r : Rec) (site : Site) : (s.hold r site).dies = s.dies := by rw [Device.hold_only s r site]
@[simp] theorem Device.hold_stripes (s : Device) (r : Rec) (site : Site) : (s.hold r site).stripes = s.stripes := by rw [Device.hold_only s r site]
@[simp] theorem Device.hold_ingest (s : Device) (r : Rec) (site : Site) : (s.hold r site).ingest = s.ingest := by rw [Device.hold_only s r site]
@[simp] theorem Device.hold_pdies (s : Device) (r : Rec) (site : Site) : (s.hold r site).pdies = s.pdies := by rw [Device.hold_only s r site]
@[simp] theorem Device.hold_reduction (s : Device) (r : Rec) (site : Site) : (s.hold r site).reduction = s.reduction := by rw [Device.hold_only s r site]
@[simp] theorem Device.hold_stepTokens (s : Device) (r : Rec) (site : Site) : (s.hold r site).stepTokens = s.stepTokens := by rw [Device.hold_only s r site]
@[simp] theorem Device.hold_streamTokens (s : Device) (r : Rec) (site : Site) : (s.hold r site).streamTokens = s.streamTokens := by rw [Device.hold_only s r site]
@[simp] theorem Device.hold_frozen (s : Device) (r : Rec) (site : Site) : (s.hold r site).frozen = s.frozen := by rw [Device.hold_only s r site]
@[simp] theorem Device.hold_corrected (s : Device) (r : Rec) (site : Site) : (s.hold r site).corrected = s.corrected := by rw [Device.hold_only s r site]
@[simp] theorem Device.hold_correctedFrom (s : Device) (r : Rec) (site : Site) : (s.hold r site).correctedFrom = s.correctedFrom := by rw [Device.hold_only s r site]
@[simp] theorem Device.hold_cluster (s : Device) (r : Rec) (site : Site) (i : Nat) : (s.hold r site).cluster i = s.cluster i := by rw [Device.hold_only s r site]; rfl
@[simp] theorem Device.hold_quad (s : Device) (r : Rec) (site : Site) (i j : Nat) : (s.hold r site).quad i j = s.quad i j := by rw [Device.hold_only s r site]; rfl
@[simp] theorem Device.hold_die (s : Device) (r : Rec) (site : Site) (i : Nat) : (s.hold r site).die i = s.die i := by rw [Device.hold_only s r site]; rfl
@[simp] theorem Device.hold_stripe (s : Device) (r : Rec) (site : Site) (i : Nat) : (s.hold r site).stripe i = s.stripe i := by rw [Device.hold_only s r site]; rfl
@[simp] theorem Device.hold_pdie (s : Device) (r : Rec) (site : Site) (i : Nat) : (s.hold r site).pdie i = s.pdie i := by rw [Device.hold_only s r site]; rfl
@[simp] theorem Device.hold_mp (s : Device) (r : Rec) (site : Site) (i : Nat) : (s.hold r site).mp i = s.mp i := by rw [Device.hold_only s r site]; rfl
@[simp] theorem Device.hold_fuse (s : Device) (r : Rec) (site : Site) (i : Nat) : (s.hold r site).fuse i = s.fuse i := by rw [Device.hold_only s r site]; rfl
@[simp] theorem Device.hold_ctx (s : Device) (r : Rec) (site : Site) (i j : Nat) : (s.hold r site).ctx i j = s.ctx i j := by rw [Device.hold_only s r site]; rfl

/-! `unhold` -/

@[simp] theorem Device.unhold_mem (s : Device) (h : Hold) : (s.unhold h).mem = s.mem := by rw [Device.unhold_only s h]
@[simp] theorem Device.unhold_damaged (s : Device) (h : Hold) : (s.unhold h).damaged = s.damaged := by rw [Device.unhold_only s h]
@[simp] theorem Device.unhold_ident (s : Device) (h : Hold) : (s.unhold h).ident = s.ident := by rw [Device.unhold_only s h]
@[simp] theorem Device.unhold_fuses (s : Device) (h : Hold) : (s.unhold h).fuses = s.fuses := by rw [Device.unhold_only s h]
@[simp] theorem Device.unhold_mps (s : Device) (h : Hold) : (s.unhold h).mps = s.mps := by rw [Device.unhold_only s h]
@[simp] theorem Device.unhold_boot (s : Device) (h : Hold) : (s.unhold h).boot = s.boot := by rw [Device.unhold_only s h]
@[simp] theorem Device.unhold_power (s : Device) (h : Hold) : (s.unhold h).power = s.power := by rw [Device.unhold_only s h]
@[simp] theorem Device.unhold_panel (s : Device) (h : Hold) : (s.unhold h).panel = s.panel := by rw [Device.unhold_only s h]
@[simp] theorem Device.unhold_job (s : Device) (h : Hold) : (s.unhold h).job = s.job := by rw [Device.unhold_only s h]
@[simp] theorem Device.unhold_ops (s : Device) (h : Hold) : (s.unhold h).ops = s.ops := by rw [Device.unhold_only s h]
@[simp] theorem Device.unhold_endedOps (s : Device) (h : Hold) : (s.unhold h).endedOps = s.endedOps := by rw [Device.unhold_only s h]
@[simp] theorem Device.unhold_serials (s : Device) (h : Hold) : (s.unhold h).serials = s.serials := by rw [Device.unhold_only s h]
@[simp] theorem Device.unhold_clusters (s : Device) (h : Hold) : (s.unhold h).clusters = s.clusters := by rw [Device.unhold_only s h]
@[simp] theorem Device.unhold_quads (s : Device) (h : Hold) : (s.unhold h).quads = s.quads := by rw [Device.unhold_only s h]
@[simp] theorem Device.unhold_dies (s : Device) (h : Hold) : (s.unhold h).dies = s.dies := by rw [Device.unhold_only s h]
@[simp] theorem Device.unhold_stripes (s : Device) (h : Hold) : (s.unhold h).stripes = s.stripes := by rw [Device.unhold_only s h]
@[simp] theorem Device.unhold_ingest (s : Device) (h : Hold) : (s.unhold h).ingest = s.ingest := by rw [Device.unhold_only s h]
@[simp] theorem Device.unhold_pdies (s : Device) (h : Hold) : (s.unhold h).pdies = s.pdies := by rw [Device.unhold_only s h]
@[simp] theorem Device.unhold_reduction (s : Device) (h : Hold) : (s.unhold h).reduction = s.reduction := by rw [Device.unhold_only s h]
@[simp] theorem Device.unhold_stepTokens (s : Device) (h : Hold) : (s.unhold h).stepTokens = s.stepTokens := by rw [Device.unhold_only s h]
@[simp] theorem Device.unhold_streamTokens (s : Device) (h : Hold) : (s.unhold h).streamTokens = s.streamTokens := by rw [Device.unhold_only s h]
@[simp] theorem Device.unhold_frozen (s : Device) (h : Hold) : (s.unhold h).frozen = s.frozen := by rw [Device.unhold_only s h]
@[simp] theorem Device.unhold_corrected (s : Device) (h : Hold) : (s.unhold h).corrected = s.corrected := by rw [Device.unhold_only s h]
@[simp] theorem Device.unhold_correctedFrom (s : Device) (h : Hold) : (s.unhold h).correctedFrom = s.correctedFrom := by rw [Device.unhold_only s h]
@[simp] theorem Device.unhold_cluster (s : Device) (h : Hold) (i : Nat) : (s.unhold h).cluster i = s.cluster i := by rw [Device.unhold_only s h]; rfl
@[simp] theorem Device.unhold_quad (s : Device) (h : Hold) (i j : Nat) : (s.unhold h).quad i j = s.quad i j := by rw [Device.unhold_only s h]; rfl
@[simp] theorem Device.unhold_die (s : Device) (h : Hold) (i : Nat) : (s.unhold h).die i = s.die i := by rw [Device.unhold_only s h]; rfl
@[simp] theorem Device.unhold_stripe (s : Device) (h : Hold) (i : Nat) : (s.unhold h).stripe i = s.stripe i := by rw [Device.unhold_only s h]; rfl
@[simp] theorem Device.unhold_pdie (s : Device) (h : Hold) (i : Nat) : (s.unhold h).pdie i = s.pdie i := by rw [Device.unhold_only s h]; rfl
@[simp] theorem Device.unhold_mp (s : Device) (h : Hold) (i : Nat) : (s.unhold h).mp i = s.mp i := by rw [Device.unhold_only s h]; rfl
@[simp] theorem Device.unhold_fuse (s : Device) (h : Hold) (i : Nat) : (s.unhold h).fuse i = s.fuse i := by rw [Device.unhold_only s h]; rfl
@[simp] theorem Device.unhold_ctx (s : Device) (h : Hold) (i j : Nat) : (s.unhold h).ctx i j = s.ctx i j := by rw [Device.unhold_only s h]; rfl

/-! `unbacked` -/

@[simp] theorem Device.unbacked_mem (s : Device) (a : Nat) (prot : Bool) (dp ctl domain : Nat) (site : Site) : (s.unbacked a prot dp ctl domain site).mem = s.mem := by rw [Device.unbacked_only s a prot dp ctl domain site]
@[simp] theorem Device.unbacked_damaged (s : Device) (a : Nat) (prot : Bool) (dp ctl domain : Nat) (site : Site) : (s.unbacked a prot dp ctl domain site).damaged = s.damaged := by rw [Device.unbacked_only s a prot dp ctl domain site]
@[simp] theorem Device.unbacked_ident (s : Device) (a : Nat) (prot : Bool) (dp ctl domain : Nat) (site : Site) : (s.unbacked a prot dp ctl domain site).ident = s.ident := by rw [Device.unbacked_only s a prot dp ctl domain site]
@[simp] theorem Device.unbacked_fuses (s : Device) (a : Nat) (prot : Bool) (dp ctl domain : Nat) (site : Site) : (s.unbacked a prot dp ctl domain site).fuses = s.fuses := by rw [Device.unbacked_only s a prot dp ctl domain site]
@[simp] theorem Device.unbacked_mps (s : Device) (a : Nat) (prot : Bool) (dp ctl domain : Nat) (site : Site) : (s.unbacked a prot dp ctl domain site).mps = s.mps := by rw [Device.unbacked_only s a prot dp ctl domain site]
@[simp] theorem Device.unbacked_boot (s : Device) (a : Nat) (prot : Bool) (dp ctl domain : Nat) (site : Site) : (s.unbacked a prot dp ctl domain site).boot = s.boot := by rw [Device.unbacked_only s a prot dp ctl domain site]
@[simp] theorem Device.unbacked_power (s : Device) (a : Nat) (prot : Bool) (dp ctl domain : Nat) (site : Site) : (s.unbacked a prot dp ctl domain site).power = s.power := by rw [Device.unbacked_only s a prot dp ctl domain site]
@[simp] theorem Device.unbacked_panel (s : Device) (a : Nat) (prot : Bool) (dp ctl domain : Nat) (site : Site) : (s.unbacked a prot dp ctl domain site).panel = s.panel := by rw [Device.unbacked_only s a prot dp ctl domain site]
@[simp] theorem Device.unbacked_job (s : Device) (a : Nat) (prot : Bool) (dp ctl domain : Nat) (site : Site) : (s.unbacked a prot dp ctl domain site).job = s.job := by rw [Device.unbacked_only s a prot dp ctl domain site]
@[simp] theorem Device.unbacked_ops (s : Device) (a : Nat) (prot : Bool) (dp ctl domain : Nat) (site : Site) : (s.unbacked a prot dp ctl domain site).ops = s.ops := by rw [Device.unbacked_only s a prot dp ctl domain site]
@[simp] theorem Device.unbacked_endedOps (s : Device) (a : Nat) (prot : Bool) (dp ctl domain : Nat) (site : Site) : (s.unbacked a prot dp ctl domain site).endedOps = s.endedOps := by rw [Device.unbacked_only s a prot dp ctl domain site]
@[simp] theorem Device.unbacked_serials (s : Device) (a : Nat) (prot : Bool) (dp ctl domain : Nat) (site : Site) : (s.unbacked a prot dp ctl domain site).serials = s.serials := by rw [Device.unbacked_only s a prot dp ctl domain site]
@[simp] theorem Device.unbacked_clusters (s : Device) (a : Nat) (prot : Bool) (dp ctl domain : Nat) (site : Site) : (s.unbacked a prot dp ctl domain site).clusters = s.clusters := by rw [Device.unbacked_only s a prot dp ctl domain site]
@[simp] theorem Device.unbacked_quads (s : Device) (a : Nat) (prot : Bool) (dp ctl domain : Nat) (site : Site) : (s.unbacked a prot dp ctl domain site).quads = s.quads := by rw [Device.unbacked_only s a prot dp ctl domain site]
@[simp] theorem Device.unbacked_dies (s : Device) (a : Nat) (prot : Bool) (dp ctl domain : Nat) (site : Site) : (s.unbacked a prot dp ctl domain site).dies = s.dies := by rw [Device.unbacked_only s a prot dp ctl domain site]
@[simp] theorem Device.unbacked_stripes (s : Device) (a : Nat) (prot : Bool) (dp ctl domain : Nat) (site : Site) : (s.unbacked a prot dp ctl domain site).stripes = s.stripes := by rw [Device.unbacked_only s a prot dp ctl domain site]
@[simp] theorem Device.unbacked_ingest (s : Device) (a : Nat) (prot : Bool) (dp ctl domain : Nat) (site : Site) : (s.unbacked a prot dp ctl domain site).ingest = s.ingest := by rw [Device.unbacked_only s a prot dp ctl domain site]
@[simp] theorem Device.unbacked_pdies (s : Device) (a : Nat) (prot : Bool) (dp ctl domain : Nat) (site : Site) : (s.unbacked a prot dp ctl domain site).pdies = s.pdies := by rw [Device.unbacked_only s a prot dp ctl domain site]
@[simp] theorem Device.unbacked_reduction (s : Device) (a : Nat) (prot : Bool) (dp ctl domain : Nat) (site : Site) : (s.unbacked a prot dp ctl domain site).reduction = s.reduction := by rw [Device.unbacked_only s a prot dp ctl domain site]
@[simp] theorem Device.unbacked_stepTokens (s : Device) (a : Nat) (prot : Bool) (dp ctl domain : Nat) (site : Site) : (s.unbacked a prot dp ctl domain site).stepTokens = s.stepTokens := by rw [Device.unbacked_only s a prot dp ctl domain site]
@[simp] theorem Device.unbacked_streamTokens (s : Device) (a : Nat) (prot : Bool) (dp ctl domain : Nat) (site : Site) : (s.unbacked a prot dp ctl domain site).streamTokens = s.streamTokens := by rw [Device.unbacked_only s a prot dp ctl domain site]
@[simp] theorem Device.unbacked_frozen (s : Device) (a : Nat) (prot : Bool) (dp ctl domain : Nat) (site : Site) : (s.unbacked a prot dp ctl domain site).frozen = s.frozen := by rw [Device.unbacked_only s a prot dp ctl domain site]
@[simp] theorem Device.unbacked_corrected (s : Device) (a : Nat) (prot : Bool) (dp ctl domain : Nat) (site : Site) : (s.unbacked a prot dp ctl domain site).corrected = s.corrected := by rw [Device.unbacked_only s a prot dp ctl domain site]
@[simp] theorem Device.unbacked_correctedFrom (s : Device) (a : Nat) (prot : Bool) (dp ctl domain : Nat) (site : Site) : (s.unbacked a prot dp ctl domain site).correctedFrom = s.correctedFrom := by rw [Device.unbacked_only s a prot dp ctl domain site]
@[simp] theorem Device.unbacked_cluster (s : Device) (a : Nat) (prot : Bool) (dp ctl domain : Nat) (site : Site) (i : Nat) : (s.unbacked a prot dp ctl domain site).cluster i = s.cluster i := by rw [Device.unbacked_only s a prot dp ctl domain site]; rfl
@[simp] theorem Device.unbacked_quad (s : Device) (a : Nat) (prot : Bool) (dp ctl domain : Nat) (site : Site) (i j : Nat) : (s.unbacked a prot dp ctl domain site).quad i j = s.quad i j := by rw [Device.unbacked_only s a prot dp ctl domain site]; rfl
@[simp] theorem Device.unbacked_die (s : Device) (a : Nat) (prot : Bool) (dp ctl domain : Nat) (site : Site) (i : Nat) : (s.unbacked a prot dp ctl domain site).die i = s.die i := by rw [Device.unbacked_only s a prot dp ctl domain site]; rfl
@[simp] theorem Device.unbacked_stripe (s : Device) (a : Nat) (prot : Bool) (dp ctl domain : Nat) (site : Site) (i : Nat) : (s.unbacked a prot dp ctl domain site).stripe i = s.stripe i := by rw [Device.unbacked_only s a prot dp ctl domain site]; rfl
@[simp] theorem Device.unbacked_pdie (s : Device) (a : Nat) (prot : Bool) (dp ctl domain : Nat) (site : Site) (i : Nat) : (s.unbacked a prot dp ctl domain site).pdie i = s.pdie i := by rw [Device.unbacked_only s a prot dp ctl domain site]; rfl
@[simp] theorem Device.unbacked_mp (s : Device) (a : Nat) (prot : Bool) (dp ctl domain : Nat) (site : Site) (i : Nat) : (s.unbacked a prot dp ctl domain site).mp i = s.mp i := by rw [Device.unbacked_only s a prot dp ctl domain site]; rfl
@[simp] theorem Device.unbacked_fuse (s : Device) (a : Nat) (prot : Bool) (dp ctl domain : Nat) (site : Site) (i : Nat) : (s.unbacked a prot dp ctl domain site).fuse i = s.fuse i := by rw [Device.unbacked_only s a prot dp ctl domain site]; rfl
@[simp] theorem Device.unbacked_ctx (s : Device) (a : Nat) (prot : Bool) (dp ctl domain : Nat) (site : Site) (i j : Nat) : (s.unbacked a prot dp ctl domain site).ctx i j = s.ctx i j := by rw [Device.unbacked_only s a prot dp ctl domain site]; rfl

/-! `post` -/

@[simp] theorem Device.post_mem (s : Device) (tok : Nat) : (s.post tok).mem = s.mem := by rw [Device.post_only s tok]
@[simp] theorem Device.post_damaged (s : Device) (tok : Nat) : (s.post tok).damaged = s.damaged := by rw [Device.post_only s tok]
@[simp] theorem Device.post_ident (s : Device) (tok : Nat) : (s.post tok).ident = s.ident := by rw [Device.post_only s tok]
@[simp] theorem Device.post_fuses (s : Device) (tok : Nat) : (s.post tok).fuses = s.fuses := by rw [Device.post_only s tok]
@[simp] theorem Device.post_mps (s : Device) (tok : Nat) : (s.post tok).mps = s.mps := by rw [Device.post_only s tok]
@[simp] theorem Device.post_boot (s : Device) (tok : Nat) : (s.post tok).boot = s.boot := by rw [Device.post_only s tok]
@[simp] theorem Device.post_power (s : Device) (tok : Nat) : (s.post tok).power = s.power := by rw [Device.post_only s tok]
@[simp] theorem Device.post_panel (s : Device) (tok : Nat) : (s.post tok).panel = s.panel := by rw [Device.post_only s tok]
@[simp] theorem Device.post_log (s : Device) (tok : Nat) : (s.post tok).log = s.log := by rw [Device.post_only s tok]
@[simp] theorem Device.post_net (s : Device) (tok : Nat) : (s.post tok).net = s.net := by rw [Device.post_only s tok]
@[simp] theorem Device.post_job (s : Device) (tok : Nat) : (s.post tok).job = s.job := by rw [Device.post_only s tok]
@[simp] theorem Device.post_ops (s : Device) (tok : Nat) : (s.post tok).ops = s.ops := by rw [Device.post_only s tok]
@[simp] theorem Device.post_endedOps (s : Device) (tok : Nat) : (s.post tok).endedOps = s.endedOps := by rw [Device.post_only s tok]
@[simp] theorem Device.post_serials (s : Device) (tok : Nat) : (s.post tok).serials = s.serials := by rw [Device.post_only s tok]
@[simp] theorem Device.post_clusters (s : Device) (tok : Nat) : (s.post tok).clusters = s.clusters := by rw [Device.post_only s tok]
@[simp] theorem Device.post_quads (s : Device) (tok : Nat) : (s.post tok).quads = s.quads := by rw [Device.post_only s tok]
@[simp] theorem Device.post_dies (s : Device) (tok : Nat) : (s.post tok).dies = s.dies := by rw [Device.post_only s tok]
@[simp] theorem Device.post_stripes (s : Device) (tok : Nat) : (s.post tok).stripes = s.stripes := by rw [Device.post_only s tok]
@[simp] theorem Device.post_ingest (s : Device) (tok : Nat) : (s.post tok).ingest = s.ingest := by rw [Device.post_only s tok]
@[simp] theorem Device.post_pdies (s : Device) (tok : Nat) : (s.post tok).pdies = s.pdies := by rw [Device.post_only s tok]
@[simp] theorem Device.post_reduction (s : Device) (tok : Nat) : (s.post tok).reduction = s.reduction := by rw [Device.post_only s tok]
@[simp] theorem Device.post_frozen (s : Device) (tok : Nat) : (s.post tok).frozen = s.frozen := by rw [Device.post_only s tok]
@[simp] theorem Device.post_corrected (s : Device) (tok : Nat) : (s.post tok).corrected = s.corrected := by rw [Device.post_only s tok]
@[simp] theorem Device.post_correctedFrom (s : Device) (tok : Nat) : (s.post tok).correctedFrom = s.correctedFrom := by rw [Device.post_only s tok]
@[simp] theorem Device.post_fresh (s : Device) (tok : Nat) : (s.post tok).fresh = s.fresh := by rw [Device.post_only s tok]
@[simp] theorem Device.post_cluster (s : Device) (tok : Nat) (i : Nat) : (s.post tok).cluster i = s.cluster i := by rw [Device.post_only s tok]; rfl
@[simp] theorem Device.post_quad (s : Device) (tok : Nat) (i j : Nat) : (s.post tok).quad i j = s.quad i j := by rw [Device.post_only s tok]; rfl
@[simp] theorem Device.post_die (s : Device) (tok : Nat) (i : Nat) : (s.post tok).die i = s.die i := by rw [Device.post_only s tok]; rfl
@[simp] theorem Device.post_stripe (s : Device) (tok : Nat) (i : Nat) : (s.post tok).stripe i = s.stripe i := by rw [Device.post_only s tok]; rfl
@[simp] theorem Device.post_pdie (s : Device) (tok : Nat) (i : Nat) : (s.post tok).pdie i = s.pdie i := by rw [Device.post_only s tok]; rfl
@[simp] theorem Device.post_mp (s : Device) (tok : Nat) (i : Nat) : (s.post tok).mp i = s.mp i := by rw [Device.post_only s tok]; rfl
@[simp] theorem Device.post_fuse (s : Device) (tok : Nat) (i : Nat) : (s.post tok).fuse i = s.fuse i := by rw [Device.post_only s tok]; rfl
@[simp] theorem Device.post_ctx (s : Device) (tok : Nat) (i j : Nat) : (s.post tok).ctx i j = s.ctx i j := by rw [Device.post_only s tok]; rfl

/-! `takeToken` -/

@[simp] theorem Device.takeToken_mem (s : Device) (tok : Nat) : (s.takeToken tok).mem = s.mem := by rw [Device.takeToken_only s tok]
@[simp] theorem Device.takeToken_damaged (s : Device) (tok : Nat) : (s.takeToken tok).damaged = s.damaged := by rw [Device.takeToken_only s tok]
@[simp] theorem Device.takeToken_ident (s : Device) (tok : Nat) : (s.takeToken tok).ident = s.ident := by rw [Device.takeToken_only s tok]
@[simp] theorem Device.takeToken_fuses (s : Device) (tok : Nat) : (s.takeToken tok).fuses = s.fuses := by rw [Device.takeToken_only s tok]
@[simp] theorem Device.takeToken_mps (s : Device) (tok : Nat) : (s.takeToken tok).mps = s.mps := by rw [Device.takeToken_only s tok]
@[simp] theorem Device.takeToken_boot (s : Device) (tok : Nat) : (s.takeToken tok).boot = s.boot := by rw [Device.takeToken_only s tok]
@[simp] theorem Device.takeToken_power (s : Device) (tok : Nat) : (s.takeToken tok).power = s.power := by rw [Device.takeToken_only s tok]
@[simp] theorem Device.takeToken_panel (s : Device) (tok : Nat) : (s.takeToken tok).panel = s.panel := by rw [Device.takeToken_only s tok]
@[simp] theorem Device.takeToken_log (s : Device) (tok : Nat) : (s.takeToken tok).log = s.log := by rw [Device.takeToken_only s tok]
@[simp] theorem Device.takeToken_net (s : Device) (tok : Nat) : (s.takeToken tok).net = s.net := by rw [Device.takeToken_only s tok]
@[simp] theorem Device.takeToken_job (s : Device) (tok : Nat) : (s.takeToken tok).job = s.job := by rw [Device.takeToken_only s tok]
@[simp] theorem Device.takeToken_ops (s : Device) (tok : Nat) : (s.takeToken tok).ops = s.ops := by rw [Device.takeToken_only s tok]
@[simp] theorem Device.takeToken_endedOps (s : Device) (tok : Nat) : (s.takeToken tok).endedOps = s.endedOps := by rw [Device.takeToken_only s tok]
@[simp] theorem Device.takeToken_serials (s : Device) (tok : Nat) : (s.takeToken tok).serials = s.serials := by rw [Device.takeToken_only s tok]
@[simp] theorem Device.takeToken_clusters (s : Device) (tok : Nat) : (s.takeToken tok).clusters = s.clusters := by rw [Device.takeToken_only s tok]
@[simp] theorem Device.takeToken_quads (s : Device) (tok : Nat) : (s.takeToken tok).quads = s.quads := by rw [Device.takeToken_only s tok]
@[simp] theorem Device.takeToken_dies (s : Device) (tok : Nat) : (s.takeToken tok).dies = s.dies := by rw [Device.takeToken_only s tok]
@[simp] theorem Device.takeToken_stripes (s : Device) (tok : Nat) : (s.takeToken tok).stripes = s.stripes := by rw [Device.takeToken_only s tok]
@[simp] theorem Device.takeToken_ingest (s : Device) (tok : Nat) : (s.takeToken tok).ingest = s.ingest := by rw [Device.takeToken_only s tok]
@[simp] theorem Device.takeToken_pdies (s : Device) (tok : Nat) : (s.takeToken tok).pdies = s.pdies := by rw [Device.takeToken_only s tok]
@[simp] theorem Device.takeToken_reduction (s : Device) (tok : Nat) : (s.takeToken tok).reduction = s.reduction := by rw [Device.takeToken_only s tok]
@[simp] theorem Device.takeToken_stepTokens (s : Device) (tok : Nat) : (s.takeToken tok).stepTokens = s.stepTokens := by rw [Device.takeToken_only s tok]
@[simp] theorem Device.takeToken_counters (s : Device) (tok : Nat) : (s.takeToken tok).counters = s.counters := by rw [Device.takeToken_only s tok]
@[simp] theorem Device.takeToken_frozen (s : Device) (tok : Nat) : (s.takeToken tok).frozen = s.frozen := by rw [Device.takeToken_only s tok]
@[simp] theorem Device.takeToken_corrected (s : Device) (tok : Nat) : (s.takeToken tok).corrected = s.corrected := by rw [Device.takeToken_only s tok]
@[simp] theorem Device.takeToken_correctedFrom (s : Device) (tok : Nat) : (s.takeToken tok).correctedFrom = s.correctedFrom := by rw [Device.takeToken_only s tok]
@[simp] theorem Device.takeToken_fresh (s : Device) (tok : Nat) : (s.takeToken tok).fresh = s.fresh := by rw [Device.takeToken_only s tok]
@[simp] theorem Device.takeToken_cluster (s : Device) (tok : Nat) (i : Nat) : (s.takeToken tok).cluster i = s.cluster i := by rw [Device.takeToken_only s tok]; rfl
@[simp] theorem Device.takeToken_quad (s : Device) (tok : Nat) (i j : Nat) : (s.takeToken tok).quad i j = s.quad i j := by rw [Device.takeToken_only s tok]; rfl
@[simp] theorem Device.takeToken_die (s : Device) (tok : Nat) (i : Nat) : (s.takeToken tok).die i = s.die i := by rw [Device.takeToken_only s tok]; rfl
@[simp] theorem Device.takeToken_stripe (s : Device) (tok : Nat) (i : Nat) : (s.takeToken tok).stripe i = s.stripe i := by rw [Device.takeToken_only s tok]; rfl
@[simp] theorem Device.takeToken_pdie (s : Device) (tok : Nat) (i : Nat) : (s.takeToken tok).pdie i = s.pdie i := by rw [Device.takeToken_only s tok]; rfl
@[simp] theorem Device.takeToken_mp (s : Device) (tok : Nat) (i : Nat) : (s.takeToken tok).mp i = s.mp i := by rw [Device.takeToken_only s tok]; rfl
@[simp] theorem Device.takeToken_fuse (s : Device) (tok : Nat) (i : Nat) : (s.takeToken tok).fuse i = s.fuse i := by rw [Device.takeToken_only s tok]; rfl
@[simp] theorem Device.takeToken_ctx (s : Device) (tok : Nat) (i j : Nat) : (s.takeToken tok).ctx i j = s.ctx i j := by rw [Device.takeToken_only s tok]; rfl

end Sys2Proof.Machine
end

