-- ==== Sys2Proof/WellFormed.lean ====
section
/-! DEFINITION. The well-formed commands: every operand that names a part of the module, a field of a message or a field of a
program command lies in the range the spec gives it. -/

namespace Sys2Proof

/-- A received message (R409, R410, R414): port 0 to 16 (16 is the management port), the header's field widths and the largest
payload. -/
def Msg.wf (m : Msg) : Bool :=
  decide (m.port < 17) && decide (m.version < 16) && decide (m.flow < 4096) && decide (m.grant < 65536) &&
    decide (m.payload.length ≤ 9114) && (!m.mp1 || decide (m.port = 16))

/-- A program command (R354): quadrant `q` of die `d`, play 0 to 7, a 16-bit token and a 32-bit index. -/
def ProgCmd.wf (c : ProgCmd) : Bool :=
  decide (c.d < 4) && decide (c.q < 4) && decide (c.play < 8) && decide (c.token < 65536) && decide (c.index < 2 ^ 32)

/-- The units of R21, R22, R287: 576 clusters, two move engines per quadrant, 16 decode engines per P-die. -/
def Consumer.wf : Consumer → Bool
  | .array g ctx => decide (g < 576) && decide (ctx < 4)
  | .vector g ctx => decide (g < 576) && decide (ctx < 4)
  | .pipe g ctx => decide (g < 576) && decide (ctx < 4)
  | .move d q e => decide (d < 4) && decide (q < 4) && decide (e < 2)
  | .reductionSender p => decide (p < 2)
  | .update p => decide (p < 2)
  | .engine p e => decide (p < 2) && decide (e < 16)
  | .aligner => true
  | .carousel d dir => decide (d < 4) && decide (dir < 2)
  | .stage _ => true
  | .loadr d q play => decide (d < 4) && decide (q < 4) && decide (play < 8)
  | .multicast d q ctx => decide (d < 4) && decide (q < 4) && decide (ctx < 4)
  | .thermos p => decide (p < 2)
  | .host => true

def ReduceInput.wf : ReduceInput → Bool
  | .remote m => m.wf
  | .own p bundle _ => decide (p < 2) && decide (bundle < 2 ^ 32)

/-- 24 stripes, 2 P-dies, 12 stacks (R1, R21). -/
def ThermalPart.wf : ThermalPart → Bool
  | .stripe t => decide (t < 24)
  | .pdie p => decide (p < 2)
  | .pdieHot p => decide (p < 2)
  | .stack k => decide (k < 12)

def Rail.wf : Rail → Bool
  | .aCore d => decide (d < 4)
  | .pCore p => decide (p < 2)
  | .hbm => true
  | .lpddr => true
  | .serdes => true
  | .other => true

/-- 4 dies, 12 stacks, 12 LPDDR5X devices, 17 ports (R1, R3). -/
def Part.wf : Part → Bool
  | .die d => decide (d < 4)
  | .stack k => decide (k < 12)
  | .device k => decide (k < 12)
  | .rail r => r.wf
  | .port n => decide (n < 17)

/-- The bound of a flow key: pairs 0 to 10, 4,096 flows each, 1,024 peers. -/
def keyBound : Nat := 11 * 4096 * 1024

/-- A well-formed command (DESIGN CHOICE, assumption 5). -/
def Instr.wf : Instr → Bool
  | .inputBankReadServed g => decide (g < 576)
  | .moveStart d q => decide (d < 4) && decide (q < 4)
  | .moveComplete d q e => decide (d < 4) && decide (q < 4) && decide (e < 2)
  | .memoryReadReturn u _ addr _ => u.wf && decide (addr < 2 ^ 48)
  | .patrolScrubGranule u _ => decide (u < 6)
  | .hostScrubChunk serial _ => decide (serial < 2 ^ 24)
  | .itemStart g _ _ => decide (g < 576)
  | .formatHoldRelease g ctx => decide (g < 576) && decide (ctx < 4)
  | .arrayIssueCycle g half _ _ => decide (g < 576) && decide (half < 2)
  | .passComplete g half => decide (g < 576) && decide (half < 2)
  | .readoutRow g half _ => decide (g < 576) && decide (half < 2)
  | .shapeChange g => decide (g < 576)
  | .shapeReconfigDone g => decide (g < 576)
  | .weightQueueFill g ctx _ => decide (g < 576) && decide (ctx < 4)
  | .frameLoad g ctx => decide (g < 576) && decide (ctx < 4)
  | .table c => c.wf
  | .tableComplete d q ctx => decide (d < 4) && decide (q < 4) && decide (ctx < 4)
  | .multicastDelivery d q ctx _ => decide (d < 4) && decide (q < 4) && decide (ctx < 4)
  | .vectorInvocationStart g => decide (g < 576)
  | .vNop g _ => decide (g < 576)
  | .vEnd g _ => decide (g < 576)
  | .jmp g _ => decide (g < 576)
  | .jany g _ => decide (g < 576)
  | .jnone g _ => decide (g < 576)
  | .vIn g _ => decide (g < 576)
  | .inc g _ => decide (g < 576)
  | .vOut g _ => decide (g < 576)
  | .outr g _ => decide (g < 576)
  | .rowbase g _ => decide (g < 576)
  | .sys g _ => decide (g < 576)
  | .ldr g _ => decide (g < 576)
  | .str g _ => decide (g < 576)
  | .mov g _ => decide (g < 576)
  | .movi g _ => decide (g < 576)
  | .sel g _ => decide (g < 576)
  | .fadd g _ => decide (g < 576)
  | .fsub g _ => decide (g < 576)
  | .fmul g _ => decide (g < 576)
  | .ffma g _ => decide (g < 576)
  | .fmin g _ => decide (g < 576)
  | .fmax g _ => decide (g < 576)
  | .faddi g _ => decide (g < 576)
  | .fmuli g _ => decide (g < 576)
  | .fabs g _ => decide (g < 576)
  | .fneg g _ => decide (g < 576)
  | .fcmp g _ => decide (g < 576)
  | .vExp g _ => decide (g < 576)
  | .vLog g _ => decide (g < 576)
  | .rcp g _ => decide (g < 576)
  | .rsq g _ => decide (g < 576)
  | .tanh g _ => decide (g < 576)
  | .erf g _ => decide (g < 576)
  | .iadd g _ => decide (g < 576)
  | .isub g _ => decide (g < 576)
  | .imul g _ => decide (g < 576)
  | .iand g _ => decide (g < 576)
  | .ior g _ => decide (g < 576)
  | .ixor g _ => decide (g < 576)
  | .ishl g _ => decide (g < 576)
  | .ishr g _ => decide (g < 576)
  | .isra g _ => decide (g < 576)
  | .iaddi g _ => decide (g < 576)
  | .icmp g _ => decide (g < 576)
  | .imin g _ => decide (g < 576)
  | .imax g _ => decide (g < 576)
  | .itof g _ => decide (g < 576)
  | .ftoi g _ => decide (g < 576)
  | .cvt g _ => decide (g < 576)
  | .cvtf g _ => decide (g < 576)
  | .rsum g _ => decide (g < 576)
  | .rmax g _ => decide (g < 576)
  | .rmin g _ => decide (g < 576)
  | .rargmax g _ => decide (g < 576)
  | .pand g _ => decide (g < 576)
  | .por g _ => decide (g < 576)
  | .pxor g _ => decide (g < 576)
  | .pnot g _ => decide (g < 576)
  | .pfirst g _ => decide (g < 576)
  | .psys g _ => decide (g < 576)
  | .vecRunaway g => decide (g < 576)
  | .walk c => c.wf
  | .walkDescriptorEmit d q c _ => decide (d < 4) && decide (q < 4) && decide (c < 2)
  | .attPageLate d q ctx => decide (d < 4) && decide (q < 4) && decide (ctx < 4)
  | .softmaxPipeGroup g ctx => decide (g < 576) && decide (ctx < 4)
  | .walkComplete d q ctx => decide (d < 4) && decide (q < 4) && decide (ctx < 4)
  | .seal c => c.wf
  | .sealResume d q => decide (d < 4) && decide (q < 4)
  | .tour c => c.wf
  | .tourStart d => decide (d < 4)
  | .carouselPageSend d dir => decide (d < 4) && decide (dir < 2)
  | .carouselPage m => m.wf
  | .tourReleaseFrames d => decide (d < 4)
  | .carouselGradSend d path => decide (d < 4) && decide (path < 2)
  | .carouselGrad m => m.wf
  | .carLapTimeout d flow => decide (d < 4) && decide (flow < 4)
  | .senderCreditTimeout d flow => decide (d < 4) && decide (flow < 4)
  | .sample m => m.wf
  | .decodeStart p => decide (p < 2)
  | .decodeComplete p e _ => decide (p < 2) && decide (e < 16)
  | .ingBudgetExceeded p e => decide (p < 2) && decide (e < 16)
  | .concealmentFill p e => decide (p < 2) && decide (e < 16)
  | .periodEnd => true
  | .recordDeliver => true
  | .ingestCredit pair => decide (pair < 8)
  | .reductionSendBundle p => decide (p < 2)
  | .reduceChunk i => i.wf
  | .roundWindowClose p bundle _ => decide (p < 2) && decide (bundle < 2 ^ 32)
  | .gatherChunk m => m.wf
  | .updateBundle p => decide (p < 2)
  | .jobLoad m => m.wf
  | .admissionComplete => true
  | .jobStart m => m.wf
  | .jobStartRestore m => m.wf
  | .jobStartThermos m => m.wf
  | .jobStartScrub m => m.wf
  | .deferredJobStart => true
  | .hello m => m.wf
  | .helloResend k => decide (k < keyBound)
  | .jobPeerSilent k => decide (k < keyBound)
  | .programNop c => c.wf
  | .vpass c => c.wf
  | .field c => c.wf
  | .move c => c.wf
  | .wait c => c.wf
  | .post c => c.wf
  | .setr c => c.wf
  | .loadr c => c.wf
  | .sendAct c => c.wf
  | .sendGrad c => c.wf
  | .recvAct c => c.wf
  | .recvGrad c => c.wf
  | .drain c => c.wf
  | .stepEnd c => c.wf
  | .waitSatisfied d q play => decide (d < 4) && decide (q < 4) && decide (play < 8)
  | .drainSatisfied d q play => decide (d < 4) && decide (q < 4) && decide (play < 8)
  | .deferredIssue d q play => decide (d < 4) && decide (q < 4) && decide (play < 8)
  | .stepBoundary => true
  | .contextRotation g ctx => decide (g < 576) && decide (ctx < 4)
  | .stageMessageSend _ => true
  | .stageAct m => m.wf
  | .stageGrad m => m.wf
  | .opSuspend m => m.wf
  | .opResume m => m.wf
  | .opCancel m => m.wf
  | .opState m => m.wf
  | .operationStopPoint handle => decide (handle < 2 ^ 32)
  | .thermosRecordWrite p => decide (p < 2)
  | .thermosMirrorSend p => decide (p < 2)
  | .thermosMirror m => m.wf
  | .mirrorTimeout => true
  | .thermosRestoreRecord p => decide (p < 2)
  | .energyRefill t _ _ => decide (t < 24)
  | .donorTransfer d => decide (d < 4)
  | .priorityRequest g ctx _ => decide (g < 576) && decide (ctx < 4)
  | .pwrCreditStarved g ctx _ => decide (g < 576) && decide (ctx < 4)
  | .profileReq m => m.wf
  | .clockStep d => decide (d < 4)
  | .thermalTrip part => part.wf
  | .thermalRecover part => part.wf
  | .railCondition r percent => r.wf && decide (percent < 256)
  | .railConditionClear r percent => r.wf && decide (percent < 256)
  | .stripeOvercurrent t => decide (t < 24)
  | .inputThresholdCrossed _ => true
  | .inputThresholdRecovered _ => true
  | .shedLevelActions => true
  | .dieParked d => decide (d < 4)
  | .dieUnparked d => decide (d < 4)
  | .powerRemoval => true
  | .inputOvervoltage _ => true
  | .dieIdle d => decide (d < 4)
  | .foreignPacket port => decide (port < 17)
  | .neighbourDiscovery port _ _ => decide (port < 17)
  | .pauseFrame port priority _ => decide (port < 17) && decide (priority < 8)
  | .ecnRateRaise k => decide (k < keyBound)
  | .icvanUnknownType m => m.wf
  | .ack m => m.wf
  | .ackDelayExpiry k => decide (k < keyBound)
  | .retransmitTimeout k => decide (k < keyBound)
  | .linkDown port => decide (port < 17)
  | .replayRound pair => decide (pair < 8)
  | .linkReturn port => decide (port < 17)
  | .read m => m.wf
  | .write m => m.wf
  | .status m => m.wf
  | .statusChangeReport => true
  | .errorReport => true
  | .hostDecisionRetry m => m.wf
  | .hostDecisionAbort m => m.wf
  | .hostDecisionSkip m => m.wf
  | .hostDecisionWait m => m.wf
  | .hostDecisionPrimaryMp0 m => m.wf
  | .hostDecisionPrimaryMp1 m => m.wf
  | .attendGrant m => m.wf
  | .attendRefuse m => m.wf
  | .attendReqResend => true
  | .inferReq m => m.wf
  | .mailboxPoll => true
  | .powerOn strap => decide (strap < 2)
  | .mpRelease p => decide (p < 2)
  | .partBringUpComplete part _ => part.wf
  | .strollService _ => true
  | .fullService => true
  | .bootFullLate => true
  | .bringUpDeadline => true
  | .heartbeat p => decide (p < 2)
  | .heartbeatLost => true
  | .heartbeatRestored => true
  | .endorsementSigned p => decide (p < 2)
  | .attestReq m => m.wf
  | .attestQuote p => decide (p < 2)
  | .warmReset m => m.wf
  | .warmResetComplete => true
  | .portReset m => m.wf
  | .portResetComplete port => decide (port < 17)
  | .jobReset m => m.wf
  | .hamperUpdate m => m.wf
  | .hamperSectorWritten => true
  | .enterStandby m => m.wf
  | .standbyEntered => true
  | .leaveStandby m => m.wf
  | .moduleReset strap => decide (strap < 2)
  | .attendPress => true
  | .ejectorLift => true
  | .ejectorLower => true
  | .opticChange port _ _ => decide (port < 17)
  | .inputOvercurrent => true
  | .coolantSample _ _ _ _ => true
  | .strapChange level => decide (level < 2)
  | .i2cRead _ => true
  | .i2cWrite offset _ => decide (offset < 256)
  | .refclockLoss _ => true
  | .lightTest m => m.wf
  | .lightTestExpiry => true
  | .logClear m => m.wf
  | .counterFreeze m => m.wf
  | .counterUnfreeze m => m.wf
  | .logSavePeriodic => true
  | .logSaveComplete => true
  | .registerWriteOther m => m.wf
  | .jobResetComplete => true
  | .i2cSnapshotRefresh _ => true

end Sys2Proof
end

