-- ==== Sys2Proof/Laws/PerInstr.lean ====
section
/-! SUPPORT. Per command: a well-formed command names a cluster of the module (R1, R21) and carries a well-formed message
(R409, R414). -/

namespace Sys2Proof.Laws

/-- The cluster a command acts on, when it names one. -/
def Shape.clusterOf : Instr → Option Nat
  | .inputBankReadServed g => some g
  | .itemStart g _ _ => some g
  | .formatHoldRelease g _ => some g
  | .arrayIssueCycle g _ _ _ => some g
  | .passComplete g _ => some g
  | .readoutRow g _ _ => some g
  | .shapeChange g => some g
  | .shapeReconfigDone g => some g
  | .weightQueueFill g _ _ => some g
  | .frameLoad g _ => some g
  | .vectorInvocationStart g => some g
  | .vNop g _ => some g
  | .vEnd g _ => some g
  | .jmp g _ => some g
  | .jany g _ => some g
  | .jnone g _ => some g
  | .vIn g _ => some g
  | .inc g _ => some g
  | .vOut g _ => some g
  | .outr g _ => some g
  | .rowbase g _ => some g
  | .sys g _ => some g
  | .ldr g _ => some g
  | .str g _ => some g
  | .mov g _ => some g
  | .movi g _ => some g
  | .sel g _ => some g
  | .fadd g _ => some g
  | .fsub g _ => some g
  | .fmul g _ => some g
  | .ffma g _ => some g
  | .fmin g _ => some g
  | .fmax g _ => some g
  | .faddi g _ => some g
  | .fmuli g _ => some g
  | .fabs g _ => some g
  | .fneg g _ => some g
  | .fcmp g _ => some g
  | .vExp g _ => some g
  | .vLog g _ => some g
  | .rcp g _ => some g
  | .rsq g _ => some g
  | .tanh g _ => some g
  | .erf g _ => some g
  | .iadd g _ => some g
  | .isub g _ => some g
  | .imul g _ => some g
  | .iand g _ => some g
  | .ior g _ => some g
  | .ixor g _ => some g
  | .ishl g _ => some g
  | .ishr g _ => some g
  | .isra g _ => some g
  | .iaddi g _ => some g
  | .icmp g _ => some g
  | .imin g _ => some g
  | .imax g _ => some g
  | .itof g _ => some g
  | .ftoi g _ => some g
  | .cvt g _ => some g
  | .cvtf g _ => some g
  | .rsum g _ => some g
  | .rmax g _ => some g
  | .rmin g _ => some g
  | .rargmax g _ => some g
  | .pand g _ => some g
  | .por g _ => some g
  | .pxor g _ => some g
  | .pnot g _ => some g
  | .pfirst g _ => some g
  | .psys g _ => some g
  | .vecRunaway g => some g
  | .softmaxPipeGroup g _ => some g
  | .contextRotation g _ => some g
  | .priorityRequest g _ _ => some g
  | .pwrCreditStarved g _ _ => some g
  | _ => none

/-- The message a command carries, when it is one received. -/
def Shape.messageOf : Instr → Option Msg
  | .carouselPage m => some m
  | .carouselGrad m => some m
  | .sample m => some m
  | .gatherChunk m => some m
  | .jobLoad m => some m
  | .jobStart m => some m
  | .jobStartRestore m => some m
  | .jobStartThermos m => some m
  | .jobStartScrub m => some m
  | .hello m => some m
  | .stageAct m => some m
  | .stageGrad m => some m
  | .opSuspend m => some m
  | .opResume m => some m
  | .opCancel m => some m
  | .opState m => some m
  | .thermosMirror m => some m
  | .profileReq m => some m
  | .icvanUnknownType m => some m
  | .ack m => some m
  | .read m => some m
  | .write m => some m
  | .status m => some m
  | .hostDecisionRetry m => some m
  | .hostDecisionAbort m => some m
  | .hostDecisionSkip m => some m
  | .hostDecisionWait m => some m
  | .hostDecisionPrimaryMp0 m => some m
  | .hostDecisionPrimaryMp1 m => some m
  | .attendGrant m => some m
  | .attendRefuse m => some m
  | .inferReq m => some m
  | .attestReq m => some m
  | .warmReset m => some m
  | .portReset m => some m
  | .jobReset m => some m
  | .hamperUpdate m => some m
  | .enterStandby m => some m
  | .leaveStandby m => some m
  | .lightTest m => some m
  | .logClear m => some m
  | .counterFreeze m => some m
  | .counterUnfreeze m => some m
  | .registerWriteOther m => some m
  | _ => none

/-- The shape of a well-formed command. -/
def Shape.Statement (i : Instr) : Prop :=
  i.wf = true → (∀ g, Shape.clusterOf i = some g → g < 576) ∧ (∀ m, Shape.messageOf i = some m → m.wf = true)

theorem Shape.inputBankReadServed (g : Nat) : Shape.Statement (.inputBankReadServed g) := fun h =>
  ⟨(fun _ e => Option.some.inj e ▸ of_decide_eq_true (p := g < 576) h), (fun _ e => nomatch (show none = some _ from e))⟩
theorem Shape.moveStart (d : Nat) (q : Nat) : Shape.Statement (.moveStart d q) := fun _ =>
  ⟨(fun _ e => nomatch (show none = some _ from e)), (fun _ e => nomatch (show none = some _ from e))⟩
theorem Shape.moveComplete (d : Nat) (q : Nat) (e : Nat) : Shape.Statement (.moveComplete d q e) := fun _ =>
  ⟨(fun _ e => nomatch (show none = some _ from e)), (fun _ e => nomatch (show none = some _ from e))⟩
theorem Shape.memoryReadReturn (u : Consumer) (store : Store) (addr : Nat) (res : Check) : Shape.Statement (.memoryReadReturn u store addr res) := fun _ =>
  ⟨(fun _ e => nomatch (show none = some _ from e)), (fun _ e => nomatch (show none = some _ from e))⟩
theorem Shape.patrolScrubGranule (u : Nat) (found : List (Nat × Check)) : Shape.Statement (.patrolScrubGranule u found) := fun _ =>
  ⟨(fun _ e => nomatch (show none = some _ from e)), (fun _ e => nomatch (show none = some _ from e))⟩
theorem Shape.hostScrubChunk (serial : Nat) (found : List (Nat × Check)) : Shape.Statement (.hostScrubChunk serial found) := fun _ =>
  ⟨(fun _ e => nomatch (show none = some _ from e)), (fun _ e => nomatch (show none = some _ from e))⟩
theorem Shape.itemStart (g : Nat) (vector : Bool) (order : List Nat) : Shape.Statement (.itemStart g vector order) := fun h =>
  ⟨(fun _ e => Option.some.inj e ▸ of_decide_eq_true (p := g < 576) h), (fun _ e => nomatch (show none = some _ from e))⟩
theorem Shape.formatHoldRelease (g : Nat) (ctx : Nat) : Shape.Statement (.formatHoldRelease g ctx) := fun h =>
  ⟨(fun _ e => Option.some.inj e ▸ of_decide_eq_true (p := g < 576) (Bool.and_eq_true_iff.mp h).1), (fun _ e => nomatch (show none = some _ from e))⟩
theorem Shape.arrayIssueCycle (g : Nat) (half : Nat) (weightWait : Nat) (wait : EdgeWait) : Shape.Statement (.arrayIssueCycle g half weightWait wait) := fun h =>
  ⟨(fun _ e => Option.some.inj e ▸ of_decide_eq_true (p := g < 576) (Bool.and_eq_true_iff.mp h).1), (fun _ e => nomatch (show none = some _ from e))⟩
theorem Shape.passComplete (g : Nat) (half : Nat) : Shape.Statement (.passComplete g half) := fun h =>
  ⟨(fun _ e => Option.some.inj e ▸ of_decide_eq_true (p := g < 576) (Bool.and_eq_true_iff.mp h).1), (fun _ e => nomatch (show none = some _ from e))⟩
theorem Shape.readoutRow (g : Nat) (half : Nat) (waited : Nat) : Shape.Statement (.readoutRow g half waited) := fun h =>
  ⟨(fun _ e => Option.some.inj e ▸ of_decide_eq_true (p := g < 576) (Bool.and_eq_true_iff.mp h).1), (fun _ e => nomatch (show none = some _ from e))⟩
theorem Shape.shapeChange (g : Nat) : Shape.Statement (.shapeChange g) := fun h =>
  ⟨(fun _ e => Option.some.inj e ▸ of_decide_eq_true (p := g < 576) h), (fun _ e => nomatch (show none = some _ from e))⟩
theorem Shape.shapeReconfigDone (g : Nat) : Shape.Statement (.shapeReconfigDone g) := fun h =>
  ⟨(fun _ e => Option.some.inj e ▸ of_decide_eq_true (p := g < 576) h), (fun _ e => nomatch (show none = some _ from e))⟩
theorem Shape.weightQueueFill (g : Nat) (ctx : Nat) (bytes : Nat) : Shape.Statement (.weightQueueFill g ctx bytes) := fun h =>
  ⟨(fun _ e => Option.some.inj e ▸ of_decide_eq_true (p := g < 576) (Bool.and_eq_true_iff.mp h).1), (fun _ e => nomatch (show none = some _ from e))⟩
theorem Shape.frameLoad (g : Nat) (ctx : Nat) : Shape.Statement (.frameLoad g ctx) := fun h =>
  ⟨(fun _ e => Option.some.inj e ▸ of_decide_eq_true (p := g < 576) (Bool.and_eq_true_iff.mp h).1), (fun _ e => nomatch (show none = some _ from e))⟩
theorem Shape.table (c : ProgCmd) : Shape.Statement (.table c) := fun _ =>
  ⟨(fun _ e => nomatch (show none = some _ from e)), (fun _ e => nomatch (show none = some _ from e))⟩
theorem Shape.tableComplete (d : Nat) (q : Nat) (ctx : Nat) : Shape.Statement (.tableComplete d q ctx) := fun _ =>
  ⟨(fun _ e => nomatch (show none = some _ from e)), (fun _ e => nomatch (show none = some _ from e))⟩
theorem Shape.multicastDelivery (d : Nat) (q : Nat) (ctx : Nat) (waits : List (Nat × Nat)) : Shape.Statement (.multicastDelivery d q ctx waits) := fun _ =>
  ⟨(fun _ e => nomatch (show none = some _ from e)), (fun _ e => nomatch (show none = some _ from e))⟩
theorem Shape.vectorInvocationStart (g : Nat) : Shape.Statement (.vectorInvocationStart g) := fun h =>
  ⟨(fun _ e => Option.some.inj e ▸ of_decide_eq_true (p := g < 576) h), (fun _ e => nomatch (show none = some _ from e))⟩
theorem Shape.vNop (g : Nat) (f : VFields) : Shape.Statement (.vNop g f) := fun h =>
  ⟨(fun _ e => Option.some.inj e ▸ of_decide_eq_true (p := g < 576) h), (fun _ e => nomatch (show none = some _ from e))⟩
theorem Shape.vEnd (g : Nat) (f : VFields) : Shape.Statement (.vEnd g f) := fun h =>
  ⟨(fun _ e => Option.some.inj e ▸ of_decide_eq_true (p := g < 576) h), (fun _ e => nomatch (show none = some _ from e))⟩
theorem Shape.jmp (g : Nat) (f : VFields) : Shape.Statement (.jmp g f) := fun h =>
  ⟨(fun _ e => Option.some.inj e ▸ of_decide_eq_true (p := g < 576) h), (fun _ e => nomatch (show none = some _ from e))⟩
theorem Shape.jany (g : Nat) (f : VFields) : Shape.Statement (.jany g f) := fun h =>
  ⟨(fun _ e => Option.some.inj e ▸ of_decide_eq_true (p := g < 576) h), (fun _ e => nomatch (show none = some _ from e))⟩
theorem Shape.jnone (g : Nat) (f : VFields) : Shape.Statement (.jnone g f) := fun h =>
  ⟨(fun _ e => Option.some.inj e ▸ of_decide_eq_true (p := g < 576) h), (fun _ e => nomatch (show none = some _ from e))⟩
theorem Shape.vIn (g : Nat) (f : VFields) : Shape.Statement (.vIn g f) := fun h =>
  ⟨(fun _ e => Option.some.inj e ▸ of_decide_eq_true (p := g < 576) h), (fun _ e => nomatch (show none = some _ from e))⟩
theorem Shape.inc (g : Nat) (f : VFields) : Shape.Statement (.inc g f) := fun h =>
  ⟨(fun _ e => Option.some.inj e ▸ of_decide_eq_true (p := g < 576) h), (fun _ e => nomatch (show none = some _ from e))⟩
theorem Shape.vOut (g : Nat) (f : OutFields) : Shape.Statement (.vOut g f) := fun h =>
  ⟨(fun _ e => Option.some.inj e ▸ of_decide_eq_true (p := g < 576) h), (fun _ e => nomatch (show none = some _ from e))⟩
theorem Shape.outr (g : Nat) (f : OutFields) : Shape.Statement (.outr g f) := fun h =>
  ⟨(fun _ e => Option.some.inj e ▸ of_decide_eq_true (p := g < 576) h), (fun _ e => nomatch (show none = some _ from e))⟩
theorem Shape.rowbase (g : Nat) (base : BitVec 48) : Shape.Statement (.rowbase g base) := fun h =>
  ⟨(fun _ e => Option.some.inj e ▸ of_decide_eq_true (p := g < 576) h), (fun _ e => nomatch (show none = some _ from e))⟩
theorem Shape.sys (g : Nat) (f : VFields) : Shape.Statement (.sys g f) := fun h =>
  ⟨(fun _ e => Option.some.inj e ▸ of_decide_eq_true (p := g < 576) h), (fun _ e => nomatch (show none = some _ from e))⟩
theorem Shape.ldr (g : Nat) (f : VFields) : Shape.Statement (.ldr g f) := fun h =>
  ⟨(fun _ e => Option.some.inj e ▸ of_decide_eq_true (p := g < 576) h), (fun _ e => nomatch (show none = some _ from e))⟩
theorem Shape.str (g : Nat) (f : VFields) : Shape.Statement (.str g f) := fun h =>
  ⟨(fun _ e => Option.some.inj e ▸ of_decide_eq_true (p := g < 576) h), (fun _ e => nomatch (show none = some _ from e))⟩
theorem Shape.mov (g : Nat) (f : VFields) : Shape.Statement (.mov g f) := fun h =>
  ⟨(fun _ e => Option.some.inj e ▸ of_decide_eq_true (p := g < 576) h), (fun _ e => nomatch (show none = some _ from e))⟩
theorem Shape.movi (g : Nat) (f : VFields) : Shape.Statement (.movi g f) := fun h =>
  ⟨(fun _ e => Option.some.inj e ▸ of_decide_eq_true (p := g < 576) h), (fun _ e => nomatch (show none = some _ from e))⟩
theorem Shape.sel (g : Nat) (f : VFields) : Shape.Statement (.sel g f) := fun h =>
  ⟨(fun _ e => Option.some.inj e ▸ of_decide_eq_true (p := g < 576) h), (fun _ e => nomatch (show none = some _ from e))⟩
theorem Shape.fadd (g : Nat) (f : VFields) : Shape.Statement (.fadd g f) := fun h =>
  ⟨(fun _ e => Option.some.inj e ▸ of_decide_eq_true (p := g < 576) h), (fun _ e => nomatch (show none = some _ from e))⟩
theorem Shape.fsub (g : Nat) (f : VFields) : Shape.Statement (.fsub g f) := fun h =>
  ⟨(fun _ e => Option.some.inj e ▸ of_decide_eq_true (p := g < 576) h), (fun _ e => nomatch (show none = some _ from e))⟩
theorem Shape.fmul (g : Nat) (f : VFields) : Shape.Statement (.fmul g f) := fun h =>
  ⟨(fun _ e => Option.some.inj e ▸ of_decide_eq_true (p := g < 576) h), (fun _ e => nomatch (show none = some _ from e))⟩
theorem Shape.ffma (g : Nat) (f : VFields) : Shape.Statement (.ffma g f) := fun h =>
  ⟨(fun _ e => Option.some.inj e ▸ of_decide_eq_true (p := g < 576) h), (fun _ e => nomatch (show none = some _ from e))⟩
theorem Shape.fmin (g : Nat) (f : VFields) : Shape.Statement (.fmin g f) := fun h =>
  ⟨(fun _ e => Option.some.inj e ▸ of_decide_eq_true (p := g < 576) h), (fun _ e => nomatch (show none = some _ from e))⟩
theorem Shape.fmax (g : Nat) (f : VFields) : Shape.Statement (.fmax g f) := fun h =>
  ⟨(fun _ e => Option.some.inj e ▸ of_decide_eq_true (p := g < 576) h), (fun _ e => nomatch (show none = some _ from e))⟩
theorem Shape.faddi (g : Nat) (f : VFields) : Shape.Statement (.faddi g f) := fun h =>
  ⟨(fun _ e => Option.some.inj e ▸ of_decide_eq_true (p := g < 576) h), (fun _ e => nomatch (show none = some _ from e))⟩
theorem Shape.fmuli (g : Nat) (f : VFields) : Shape.Statement (.fmuli g f) := fun h =>
  ⟨(fun _ e => Option.some.inj e ▸ of_decide_eq_true (p := g < 576) h), (fun _ e => nomatch (show none = some _ from e))⟩
theorem Shape.fabs (g : Nat) (f : VFields) : Shape.Statement (.fabs g f) := fun h =>
  ⟨(fun _ e => Option.some.inj e ▸ of_decide_eq_true (p := g < 576) h), (fun _ e => nomatch (show none = some _ from e))⟩
theorem Shape.fneg (g : Nat) (f : VFields) : Shape.Statement (.fneg g f) := fun h =>
  ⟨(fun _ e => Option.some.inj e ▸ of_decide_eq_true (p := g < 576) h), (fun _ e => nomatch (show none = some _ from e))⟩
theorem Shape.fcmp (g : Nat) (f : VFields) : Shape.Statement (.fcmp g f) := fun h =>
  ⟨(fun _ e => Option.some.inj e ▸ of_decide_eq_true (p := g < 576) h), (fun _ e => nomatch (show none = some _ from e))⟩
theorem Shape.vExp (g : Nat) (f : VFields) : Shape.Statement (.vExp g f) := fun h =>
  ⟨(fun _ e => Option.some.inj e ▸ of_decide_eq_true (p := g < 576) h), (fun _ e => nomatch (show none = some _ from e))⟩
theorem Shape.vLog (g : Nat) (f : VFields) : Shape.Statement (.vLog g f) := fun h =>
  ⟨(fun _ e => Option.some.inj e ▸ of_decide_eq_true (p := g < 576) h), (fun _ e => nomatch (show none = some _ from e))⟩
theorem Shape.rcp (g : Nat) (f : VFields) : Shape.Statement (.rcp g f) := fun h =>
  ⟨(fun _ e => Option.some.inj e ▸ of_decide_eq_true (p := g < 576) h), (fun _ e => nomatch (show none = some _ from e))⟩
theorem Shape.rsq (g : Nat) (f : VFields) : Shape.Statement (.rsq g f) := fun h =>
  ⟨(fun _ e => Option.some.inj e ▸ of_decide_eq_true (p := g < 576) h), (fun _ e => nomatch (show none = some _ from e))⟩
theorem Shape.tanh (g : Nat) (f : VFields) : Shape.Statement (.tanh g f) := fun h =>
  ⟨(fun _ e => Option.some.inj e ▸ of_decide_eq_true (p := g < 576) h), (fun _ e => nomatch (show none = some _ from e))⟩
theorem Shape.erf (g : Nat) (f : VFields) : Shape.Statement (.erf g f) := fun h =>
  ⟨(fun _ e => Option.some.inj e ▸ of_decide_eq_true (p := g < 576) h), (fun _ e => nomatch (show none = some _ from e))⟩
theorem Shape.iadd (g : Nat) (f : VFields) : Shape.Statement (.iadd g f) := fun h =>
  ⟨(fun _ e => Option.some.inj e ▸ of_decide_eq_true (p := g < 576) h), (fun _ e => nomatch (show none = some _ from e))⟩
theorem Shape.isub (g : Nat) (f : VFields) : Shape.Statement (.isub g f) := fun h =>
  ⟨(fun _ e => Option.some.inj e ▸ of_decide_eq_true (p := g < 576) h), (fun _ e => nomatch (show none = some _ from e))⟩
theorem Shape.imul (g : Nat) (f : VFields) : Shape.Statement (.imul g f) := fun h =>
  ⟨(fun _ e => Option.some.inj e ▸ of_decide_eq_true (p := g < 576) h), (fun _ e => nomatch (show none = some _ from e))⟩
theorem Shape.iand (g : Nat) (f : VFields) : Shape.Statement (.iand g f) := fun h =>
  ⟨(fun _ e => Option.some.inj e ▸ of_decide_eq_true (p := g < 576) h), (fun _ e => nomatch (show none = some _ from e))⟩
theorem Shape.ior (g : Nat) (f : VFields) : Shape.Statement (.ior g f) := fun h =>
  ⟨(fun _ e => Option.some.inj e ▸ of_decide_eq_true (p := g < 576) h), (fun _ e => nomatch (show none = some _ from e))⟩
theorem Shape.ixor (g : Nat) (f : VFields) : Shape.Statement (.ixor g f) := fun h =>
  ⟨(fun _ e => Option.some.inj e ▸ of_decide_eq_true (p := g < 576) h), (fun _ e => nomatch (show none = some _ from e))⟩
theorem Shape.ishl (g : Nat) (f : VFields) : Shape.Statement (.ishl g f) := fun h =>
  ⟨(fun _ e => Option.some.inj e ▸ of_decide_eq_true (p := g < 576) h), (fun _ e => nomatch (show none = some _ from e))⟩
theorem Shape.ishr (g : Nat) (f : VFields) : Shape.Statement (.ishr g f) := fun h =>
  ⟨(fun _ e => Option.some.inj e ▸ of_decide_eq_true (p := g < 576) h), (fun _ e => nomatch (show none = some _ from e))⟩
theorem Shape.isra (g : Nat) (f : VFields) : Shape.Statement (.isra g f) := fun h =>
  ⟨(fun _ e => Option.some.inj e ▸ of_decide_eq_true (p := g < 576) h), (fun _ e => nomatch (show none = some _ from e))⟩
theorem Shape.iaddi (g : Nat) (f : VFields) : Shape.Statement (.iaddi g f) := fun h =>
  ⟨(fun _ e => Option.some.inj e ▸ of_decide_eq_true (p := g < 576) h), (fun _ e => nomatch (show none = some _ from e))⟩
theorem Shape.icmp (g : Nat) (f : VFields) : Shape.Statement (.icmp g f) := fun h =>
  ⟨(fun _ e => Option.some.inj e ▸ of_decide_eq_true (p := g < 576) h), (fun _ e => nomatch (show none = some _ from e))⟩
theorem Shape.imin (g : Nat) (f : VFields) : Shape.Statement (.imin g f) := fun h =>
  ⟨(fun _ e => Option.some.inj e ▸ of_decide_eq_true (p := g < 576) h), (fun _ e => nomatch (show none = some _ from e))⟩
theorem Shape.imax (g : Nat) (f : VFields) : Shape.Statement (.imax g f) := fun h =>
  ⟨(fun _ e => Option.some.inj e ▸ of_decide_eq_true (p := g < 576) h), (fun _ e => nomatch (show none = some _ from e))⟩
theorem Shape.itof (g : Nat) (f : VFields) : Shape.Statement (.itof g f) := fun h =>
  ⟨(fun _ e => Option.some.inj e ▸ of_decide_eq_true (p := g < 576) h), (fun _ e => nomatch (show none = some _ from e))⟩
theorem Shape.ftoi (g : Nat) (f : VFields) : Shape.Statement (.ftoi g f) := fun h =>
  ⟨(fun _ e => Option.some.inj e ▸ of_decide_eq_true (p := g < 576) h), (fun _ e => nomatch (show none = some _ from e))⟩
theorem Shape.cvt (g : Nat) (f : VFields) : Shape.Statement (.cvt g f) := fun h =>
  ⟨(fun _ e => Option.some.inj e ▸ of_decide_eq_true (p := g < 576) h), (fun _ e => nomatch (show none = some _ from e))⟩
theorem Shape.cvtf (g : Nat) (f : VFields) : Shape.Statement (.cvtf g f) := fun h =>
  ⟨(fun _ e => Option.some.inj e ▸ of_decide_eq_true (p := g < 576) h), (fun _ e => nomatch (show none = some _ from e))⟩
theorem Shape.rsum (g : Nat) (f : VFields) : Shape.Statement (.rsum g f) := fun h =>
  ⟨(fun _ e => Option.some.inj e ▸ of_decide_eq_true (p := g < 576) h), (fun _ e => nomatch (show none = some _ from e))⟩
theorem Shape.rmax (g : Nat) (f : VFields) : Shape.Statement (.rmax g f) := fun h =>
  ⟨(fun _ e => Option.some.inj e ▸ of_decide_eq_true (p := g < 576) h), (fun _ e => nomatch (show none = some _ from e))⟩
theorem Shape.rmin (g : Nat) (f : VFields) : Shape.Statement (.rmin g f) := fun h =>
  ⟨(fun _ e => Option.some.inj e ▸ of_decide_eq_true (p := g < 576) h), (fun _ e => nomatch (show none = some _ from e))⟩
theorem Shape.rargmax (g : Nat) (f : VFields) : Shape.Statement (.rargmax g f) := fun h =>
  ⟨(fun _ e => Option.some.inj e ▸ of_decide_eq_true (p := g < 576) h), (fun _ e => nomatch (show none = some _ from e))⟩
theorem Shape.pand (g : Nat) (f : VFields) : Shape.Statement (.pand g f) := fun h =>
  ⟨(fun _ e => Option.some.inj e ▸ of_decide_eq_true (p := g < 576) h), (fun _ e => nomatch (show none = some _ from e))⟩
theorem Shape.por (g : Nat) (f : VFields) : Shape.Statement (.por g f) := fun h =>
  ⟨(fun _ e => Option.some.inj e ▸ of_decide_eq_true (p := g < 576) h), (fun _ e => nomatch (show none = some _ from e))⟩
theorem Shape.pxor (g : Nat) (f : VFields) : Shape.Statement (.pxor g f) := fun h =>
  ⟨(fun _ e => Option.some.inj e ▸ of_decide_eq_true (p := g < 576) h), (fun _ e => nomatch (show none = some _ from e))⟩
theorem Shape.pnot (g : Nat) (f : VFields) : Shape.Statement (.pnot g f) := fun h =>
  ⟨(fun _ e => Option.some.inj e ▸ of_decide_eq_true (p := g < 576) h), (fun _ e => nomatch (show none = some _ from e))⟩
theorem Shape.pfirst (g : Nat) (f : VFields) : Shape.Statement (.pfirst g f) := fun h =>
  ⟨(fun _ e => Option.some.inj e ▸ of_decide_eq_true (p := g < 576) h), (fun _ e => nomatch (show none = some _ from e))⟩
theorem Shape.psys (g : Nat) (f : VFields) : Shape.Statement (.psys g f) := fun h =>
  ⟨(fun _ e => Option.some.inj e ▸ of_decide_eq_true (p := g < 576) h), (fun _ e => nomatch (show none = some _ from e))⟩
theorem Shape.vecRunaway (g : Nat) : Shape.Statement (.vecRunaway g) := fun h =>
  ⟨(fun _ e => Option.some.inj e ▸ of_decide_eq_true (p := g < 576) h), (fun _ e => nomatch (show none = some _ from e))⟩
theorem Shape.walk (c : ProgCmd) : Shape.Statement (.walk c) := fun _ =>
  ⟨(fun _ e => nomatch (show none = some _ from e)), (fun _ e => nomatch (show none = some _ from e))⟩
theorem Shape.walkDescriptorEmit (d : Nat) (q : Nat) (c : Nat) (waited : Nat) : Shape.Statement (.walkDescriptorEmit d q c waited) := fun _ =>
  ⟨(fun _ e => nomatch (show none = some _ from e)), (fun _ e => nomatch (show none = some _ from e))⟩
theorem Shape.attPageLate (d : Nat) (q : Nat) (ctx : Nat) : Shape.Statement (.attPageLate d q ctx) := fun _ =>
  ⟨(fun _ e => nomatch (show none = some _ from e)), (fun _ e => nomatch (show none = some _ from e))⟩
theorem Shape.softmaxPipeGroup (g : Nat) (ctx : Nat) : Shape.Statement (.softmaxPipeGroup g ctx) := fun h =>
  ⟨(fun _ e => Option.some.inj e ▸ of_decide_eq_true (p := g < 576) (Bool.and_eq_true_iff.mp h).1), (fun _ e => nomatch (show none = some _ from e))⟩
theorem Shape.walkComplete (d : Nat) (q : Nat) (ctx : Nat) : Shape.Statement (.walkComplete d q ctx) := fun _ =>
  ⟨(fun _ e => nomatch (show none = some _ from e)), (fun _ e => nomatch (show none = some _ from e))⟩
theorem Shape.seal (c : ProgCmd) : Shape.Statement (.seal c) := fun _ =>
  ⟨(fun _ e => nomatch (show none = some _ from e)), (fun _ e => nomatch (show none = some _ from e))⟩
theorem Shape.sealResume (d : Nat) (q : Nat) : Shape.Statement (.sealResume d q) := fun _ =>
  ⟨(fun _ e => nomatch (show none = some _ from e)), (fun _ e => nomatch (show none = some _ from e))⟩
theorem Shape.tour (c : ProgCmd) : Shape.Statement (.tour c) := fun _ =>
  ⟨(fun _ e => nomatch (show none = some _ from e)), (fun _ e => nomatch (show none = some _ from e))⟩
theorem Shape.tourStart (d : Nat) : Shape.Statement (.tourStart d) := fun _ =>
  ⟨(fun _ e => nomatch (show none = some _ from e)), (fun _ e => nomatch (show none = some _ from e))⟩
theorem Shape.carouselPageSend (d : Nat) (dir : Nat) : Shape.Statement (.carouselPageSend d dir) := fun _ =>
  ⟨(fun _ e => nomatch (show none = some _ from e)), (fun _ e => nomatch (show none = some _ from e))⟩
theorem Shape.carouselPage (m : Msg) : Shape.Statement (.carouselPage m) := fun h =>
  ⟨(fun _ e => nomatch (show none = some _ from e)), (fun _ e => Option.some.inj e ▸ h)⟩
theorem Shape.tourReleaseFrames (d : Nat) : Shape.Statement (.tourReleaseFrames d) := fun _ =>
  ⟨(fun _ e => nomatch (show none = some _ from e)), (fun _ e => nomatch (show none = some _ from e))⟩
theorem Shape.carouselGradSend (d : Nat) (path : Nat) : Shape.Statement (.carouselGradSend d path) := fun _ =>
  ⟨(fun _ e => nomatch (show none = some _ from e)), (fun _ e => nomatch (show none = some _ from e))⟩
theorem Shape.carouselGrad (m : Msg) : Shape.Statement (.carouselGrad m) := fun h =>
  ⟨(fun _ e => nomatch (show none = some _ from e)), (fun _ e => Option.some.inj e ▸ h)⟩
theorem Shape.carLapTimeout (d : Nat) (flow : Nat) : Shape.Statement (.carLapTimeout d flow) := fun _ =>
  ⟨(fun _ e => nomatch (show none = some _ from e)), (fun _ e => nomatch (show none = some _ from e))⟩
theorem Shape.senderCreditTimeout (d : Nat) (flow : Nat) : Shape.Statement (.senderCreditTimeout d flow) := fun _ =>
  ⟨(fun _ e => nomatch (show none = some _ from e)), (fun _ e => nomatch (show none = some _ from e))⟩
theorem Shape.sample (m : Msg) : Shape.Statement (.sample m) := fun h =>
  ⟨(fun _ e => nomatch (show none = some _ from e)), (fun _ e => Option.some.inj e ▸ h)⟩
theorem Shape.decodeStart (p : Nat) : Shape.Statement (.decodeStart p) := fun _ =>
  ⟨(fun _ e => nomatch (show none = some _ from e)), (fun _ e => nomatch (show none = some _ from e))⟩
theorem Shape.decodeComplete (p : Nat) (e : Nat) (cycles : Nat) : Shape.Statement (.decodeComplete p e cycles) := fun _ =>
  ⟨(fun _ e => nomatch (show none = some _ from e)), (fun _ e => nomatch (show none = some _ from e))⟩
theorem Shape.ingBudgetExceeded (p : Nat) (e : Nat) : Shape.Statement (.ingBudgetExceeded p e) := fun _ =>
  ⟨(fun _ e => nomatch (show none = some _ from e)), (fun _ e => nomatch (show none = some _ from e))⟩
theorem Shape.concealmentFill (p : Nat) (e : Nat) : Shape.Statement (.concealmentFill p e) := fun _ =>
  ⟨(fun _ e => nomatch (show none = some _ from e)), (fun _ e => nomatch (show none = some _ from e))⟩
theorem Shape.periodEnd : Shape.Statement (.periodEnd) := fun _ =>
  ⟨(fun _ e => nomatch (show none = some _ from e)), (fun _ e => nomatch (show none = some _ from e))⟩
theorem Shape.recordDeliver : Shape.Statement (.recordDeliver) := fun _ =>
  ⟨(fun _ e => nomatch (show none = some _ from e)), (fun _ e => nomatch (show none = some _ from e))⟩
theorem Shape.ingestCredit (pair : Nat) : Shape.Statement (.ingestCredit pair) := fun _ =>
  ⟨(fun _ e => nomatch (show none = some _ from e)), (fun _ e => nomatch (show none = some _ from e))⟩
theorem Shape.reductionSendBundle (p : Nat) : Shape.Statement (.reductionSendBundle p) := fun _ =>
  ⟨(fun _ e => nomatch (show none = some _ from e)), (fun _ e => nomatch (show none = some _ from e))⟩
theorem Shape.reduceChunk (i : ReduceInput) : Shape.Statement (.reduceChunk i) := fun _ =>
  ⟨(fun _ e => nomatch (show none = some _ from e)), (fun _ e => nomatch (show none = some _ from e))⟩
theorem Shape.roundWindowClose (p : Nat) (bundle : Nat) (partialPhase : Bool) : Shape.Statement (.roundWindowClose p bundle partialPhase) := fun _ =>
  ⟨(fun _ e => nomatch (show none = some _ from e)), (fun _ e => nomatch (show none = some _ from e))⟩
theorem Shape.gatherChunk (m : Msg) : Shape.Statement (.gatherChunk m) := fun h =>
  ⟨(fun _ e => nomatch (show none = some _ from e)), (fun _ e => Option.some.inj e ▸ h)⟩
theorem Shape.updateBundle (p : Nat) : Shape.Statement (.updateBundle p) := fun _ =>
  ⟨(fun _ e => nomatch (show none = some _ from e)), (fun _ e => nomatch (show none = some _ from e))⟩
theorem Shape.jobLoad (m : Msg) : Shape.Statement (.jobLoad m) := fun h =>
  ⟨(fun _ e => nomatch (show none = some _ from e)), (fun _ e => Option.some.inj e ▸ h)⟩
theorem Shape.admissionComplete : Shape.Statement (.admissionComplete) := fun _ =>
  ⟨(fun _ e => nomatch (show none = some _ from e)), (fun _ e => nomatch (show none = some _ from e))⟩
theorem Shape.jobStart (m : Msg) : Shape.Statement (.jobStart m) := fun h =>
  ⟨(fun _ e => nomatch (show none = some _ from e)), (fun _ e => Option.some.inj e ▸ h)⟩
theorem Shape.jobStartRestore (m : Msg) : Shape.Statement (.jobStartRestore m) := fun h =>
  ⟨(fun _ e => nomatch (show none = some _ from e)), (fun _ e => Option.some.inj e ▸ h)⟩
theorem Shape.jobStartThermos (m : Msg) : Shape.Statement (.jobStartThermos m) := fun h =>
  ⟨(fun _ e => nomatch (show none = some _ from e)), (fun _ e => Option.some.inj e ▸ h)⟩
theorem Shape.jobStartScrub (m : Msg) : Shape.Statement (.jobStartScrub m) := fun h =>
  ⟨(fun _ e => nomatch (show none = some _ from e)), (fun _ e => Option.some.inj e ▸ h)⟩
theorem Shape.deferredJobStart : Shape.Statement (.deferredJobStart) := fun _ =>
  ⟨(fun _ e => nomatch (show none = some _ from e)), (fun _ e => nomatch (show none = some _ from e))⟩
theorem Shape.hello (m : Msg) : Shape.Statement (.hello m) := fun h =>
  ⟨(fun _ e => nomatch (show none = some _ from e)), (fun _ e => Option.some.inj e ▸ h)⟩
theorem Shape.helloResend (k : Nat) : Shape.Statement (.helloResend k) := fun _ =>
  ⟨(fun _ e => nomatch (show none = some _ from e)), (fun _ e => nomatch (show none = some _ from e))⟩
theorem Shape.jobPeerSilent (k : Nat) : Shape.Statement (.jobPeerSilent k) := fun _ =>
  ⟨(fun _ e => nomatch (show none = some _ from e)), (fun _ e => nomatch (show none = some _ from e))⟩
theorem Shape.programNop (c : ProgCmd) : Shape.Statement (.programNop c) := fun _ =>
  ⟨(fun _ e => nomatch (show none = some _ from e)), (fun _ e => nomatch (show none = some _ from e))⟩
theorem Shape.vpass (c : ProgCmd) : Shape.Statement (.vpass c) := fun _ =>
  ⟨(fun _ e => nomatch (show none = some _ from e)), (fun _ e => nomatch (show none = some _ from e))⟩
theorem Shape.field (c : ProgCmd) : Shape.Statement (.field c) := fun _ =>
  ⟨(fun _ e => nomatch (show none = some _ from e)), (fun _ e => nomatch (show none = some _ from e))⟩
theorem Shape.move (c : ProgCmd) : Shape.Statement (.move c) := fun _ =>
  ⟨(fun _ e => nomatch (show none = some _ from e)), (fun _ e => nomatch (show none = some _ from e))⟩
theorem Shape.wait (c : ProgCmd) : Shape.Statement (.wait c) := fun _ =>
  ⟨(fun _ e => nomatch (show none = some _ from e)), (fun _ e => nomatch (show none = some _ from e))⟩
theorem Shape.post (c : ProgCmd) : Shape.Statement (.post c) := fun _ =>
  ⟨(fun _ e => nomatch (show none = some _ from e)), (fun _ e => nomatch (show none = some _ from e))⟩
theorem Shape.setr (c : ProgCmd) : Shape.Statement (.setr c) := fun _ =>
  ⟨(fun _ e => nomatch (show none = some _ from e)), (fun _ e => nomatch (show none = some _ from e))⟩
theorem Shape.loadr (c : ProgCmd) : Shape.Statement (.loadr c) := fun _ =>
  ⟨(fun _ e => nomatch (show none = some _ from e)), (fun _ e => nomatch (show none = some _ from e))⟩
theorem Shape.sendAct (c : ProgCmd) : Shape.Statement (.sendAct c) := fun _ =>
  ⟨(fun _ e => nomatch (show none = some _ from e)), (fun _ e => nomatch (show none = some _ from e))⟩
theorem Shape.sendGrad (c : ProgCmd) : Shape.Statement (.sendGrad c) := fun _ =>
  ⟨(fun _ e => nomatch (show none = some _ from e)), (fun _ e => nomatch (show none = some _ from e))⟩
theorem Shape.recvAct (c : ProgCmd) : Shape.Statement (.recvAct c) := fun _ =>
  ⟨(fun _ e => nomatch (show none = some _ from e)), (fun _ e => nomatch (show none = some _ from e))⟩
theorem Shape.recvGrad (c : ProgCmd) : Shape.Statement (.recvGrad c) := fun _ =>
  ⟨(fun _ e => nomatch (show none = some _ from e)), (fun _ e => nomatch (show none = some _ from e))⟩
theorem Shape.drain (c : ProgCmd) : Shape.Statement (.drain c) := fun _ =>
  ⟨(fun _ e => nomatch (show none = some _ from e)), (fun _ e => nomatch (show none = some _ from e))⟩
theorem Shape.stepEnd (c : ProgCmd) : Shape.Statement (.stepEnd c) := fun _ =>
  ⟨(fun _ e => nomatch (show none = some _ from e)), (fun _ e => nomatch (show none = some _ from e))⟩
theorem Shape.waitSatisfied (d : Nat) (q : Nat) (play : Nat) : Shape.Statement (.waitSatisfied d q play) := fun _ =>
  ⟨(fun _ e => nomatch (show none = some _ from e)), (fun _ e => nomatch (show none = some _ from e))⟩
theorem Shape.drainSatisfied (d : Nat) (q : Nat) (play : Nat) : Shape.Statement (.drainSatisfied d q play) := fun _ =>
  ⟨(fun _ e => nomatch (show none = some _ from e)), (fun _ e => nomatch (show none = some _ from e))⟩
theorem Shape.deferredIssue (d : Nat) (q : Nat) (play : Nat) : Shape.Statement (.deferredIssue d q play) := fun _ =>
  ⟨(fun _ e => nomatch (show none = some _ from e)), (fun _ e => nomatch (show none = some _ from e))⟩
theorem Shape.stepBoundary : Shape.Statement (.stepBoundary) := fun _ =>
  ⟨(fun _ e => nomatch (show none = some _ from e)), (fun _ e => nomatch (show none = some _ from e))⟩
theorem Shape.contextRotation (g : Nat) (ctx : Nat) : Shape.Statement (.contextRotation g ctx) := fun h =>
  ⟨(fun _ e => Option.some.inj e ▸ of_decide_eq_true (p := g < 576) (Bool.and_eq_true_iff.mp h).1), (fun _ e => nomatch (show none = some _ from e))⟩
theorem Shape.stageMessageSend (grad : Bool) : Shape.Statement (.stageMessageSend grad) := fun _ =>
  ⟨(fun _ e => nomatch (show none = some _ from e)), (fun _ e => nomatch (show none = some _ from e))⟩
theorem Shape.stageAct (m : Msg) : Shape.Statement (.stageAct m) := fun h =>
  ⟨(fun _ e => nomatch (show none = some _ from e)), (fun _ e => Option.some.inj e ▸ h)⟩
theorem Shape.stageGrad (m : Msg) : Shape.Statement (.stageGrad m) := fun h =>
  ⟨(fun _ e => nomatch (show none = some _ from e)), (fun _ e => Option.some.inj e ▸ h)⟩
theorem Shape.opSuspend (m : Msg) : Shape.Statement (.opSuspend m) := fun h =>
  ⟨(fun _ e => nomatch (show none = some _ from e)), (fun _ e => Option.some.inj e ▸ h)⟩
theorem Shape.opResume (m : Msg) : Shape.Statement (.opResume m) := fun h =>
  ⟨(fun _ e => nomatch (show none = some _ from e)), (fun _ e => Option.some.inj e ▸ h)⟩
theorem Shape.opCancel (m : Msg) : Shape.Statement (.opCancel m) := fun h =>
  ⟨(fun _ e => nomatch (show none = some _ from e)), (fun _ e => Option.some.inj e ▸ h)⟩
theorem Shape.opState (m : Msg) : Shape.Statement (.opState m) := fun h =>
  ⟨(fun _ e => nomatch (show none = some _ from e)), (fun _ e => Option.some.inj e ▸ h)⟩
theorem Shape.operationStopPoint (handle : Nat) : Shape.Statement (.operationStopPoint handle) := fun _ =>
  ⟨(fun _ e => nomatch (show none = some _ from e)), (fun _ e => nomatch (show none = some _ from e))⟩
theorem Shape.thermosRecordWrite (p : Nat) : Shape.Statement (.thermosRecordWrite p) := fun _ =>
  ⟨(fun _ e => nomatch (show none = some _ from e)), (fun _ e => nomatch (show none = some _ from e))⟩
theorem Shape.thermosMirrorSend (p : Nat) : Shape.Statement (.thermosMirrorSend p) := fun _ =>
  ⟨(fun _ e => nomatch (show none = some _ from e)), (fun _ e => nomatch (show none = some _ from e))⟩
theorem Shape.thermosMirror (m : Msg) : Shape.Statement (.thermosMirror m) := fun h =>
  ⟨(fun _ e => nomatch (show none = some _ from e)), (fun _ e => Option.some.inj e ▸ h)⟩
theorem Shape.mirrorTimeout : Shape.Statement (.mirrorTimeout) := fun _ =>
  ⟨(fun _ e => nomatch (show none = some _ from e)), (fun _ e => nomatch (show none = some _ from e))⟩
theorem Shape.thermosRestoreRecord (p : Nat) : Shape.Statement (.thermosRestoreRecord p) := fun _ =>
  ⟨(fun _ e => nomatch (show none = some _ from e)), (fun _ e => nomatch (show none = some _ from e))⟩
theorem Shape.energyRefill (t : Nat) (temp : Int) (current : Int) : Shape.Statement (.energyRefill t temp current) := fun _ =>
  ⟨(fun _ e => nomatch (show none = some _ from e)), (fun _ e => nomatch (show none = some _ from e))⟩
theorem Shape.donorTransfer (d : Nat) : Shape.Statement (.donorTransfer d) := fun _ =>
  ⟨(fun _ e => nomatch (show none = some _ from e)), (fun _ e => nomatch (show none = some _ from e))⟩
theorem Shape.priorityRequest (g : Nat) (ctx : Nat) (vector : Bool) : Shape.Statement (.priorityRequest g ctx vector) := fun h =>
  ⟨(fun _ e => Option.some.inj e ▸ of_decide_eq_true (p := g < 576) (Bool.and_eq_true_iff.mp h).1), (fun _ e => nomatch (show none = some _ from e))⟩
theorem Shape.pwrCreditStarved (g : Nat) (ctx : Nat) (vector : Bool) : Shape.Statement (.pwrCreditStarved g ctx vector) := fun h =>
  ⟨(fun _ e => Option.some.inj e ▸ of_decide_eq_true (p := g < 576) (Bool.and_eq_true_iff.mp h).1), (fun _ e => nomatch (show none = some _ from e))⟩
theorem Shape.profileReq (m : Msg) : Shape.Statement (.profileReq m) := fun h =>
  ⟨(fun _ e => nomatch (show none = some _ from e)), (fun _ e => Option.some.inj e ▸ h)⟩
theorem Shape.clockStep (d : Nat) : Shape.Statement (.clockStep d) := fun _ =>
  ⟨(fun _ e => nomatch (show none = some _ from e)), (fun _ e => nomatch (show none = some _ from e))⟩
theorem Shape.thermalTrip (part : ThermalPart) : Shape.Statement (.thermalTrip part) := fun _ =>
  ⟨(fun _ e => nomatch (show none = some _ from e)), (fun _ e => nomatch (show none = some _ from e))⟩
theorem Shape.thermalRecover (part : ThermalPart) : Shape.Statement (.thermalRecover part) := fun _ =>
  ⟨(fun _ e => nomatch (show none = some _ from e)), (fun _ e => nomatch (show none = some _ from e))⟩
theorem Shape.railCondition (r : Rail) (percent : Nat) : Shape.Statement (.railCondition r percent) := fun _ =>
  ⟨(fun _ e => nomatch (show none = some _ from e)), (fun _ e => nomatch (show none = some _ from e))⟩
theorem Shape.railConditionClear (r : Rail) (percent : Nat) : Shape.Statement (.railConditionClear r percent) := fun _ =>
  ⟨(fun _ e => nomatch (show none = some _ from e)), (fun _ e => nomatch (show none = some _ from e))⟩
theorem Shape.stripeOvercurrent (t : Nat) : Shape.Statement (.stripeOvercurrent t) := fun _ =>
  ⟨(fun _ e => nomatch (show none = some _ from e)), (fun _ e => nomatch (show none = some _ from e))⟩
theorem Shape.inputThresholdCrossed (volts : Nat) : Shape.Statement (.inputThresholdCrossed volts) := fun _ =>
  ⟨(fun _ e => nomatch (show none = some _ from e)), (fun _ e => nomatch (show none = some _ from e))⟩
theorem Shape.inputThresholdRecovered (volts : Nat) : Shape.Statement (.inputThresholdRecovered volts) := fun _ =>
  ⟨(fun _ e => nomatch (show none = some _ from e)), (fun _ e => nomatch (show none = some _ from e))⟩
theorem Shape.shedLevelActions : Shape.Statement (.shedLevelActions) := fun _ =>
  ⟨(fun _ e => nomatch (show none = some _ from e)), (fun _ e => nomatch (show none = some _ from e))⟩
theorem Shape.dieParked (d : Nat) : Shape.Statement (.dieParked d) := fun _ =>
  ⟨(fun _ e => nomatch (show none = some _ from e)), (fun _ e => nomatch (show none = some _ from e))⟩
theorem Shape.dieUnparked (d : Nat) : Shape.Statement (.dieUnparked d) := fun _ =>
  ⟨(fun _ e => nomatch (show none = some _ from e)), (fun _ e => nomatch (show none = some _ from e))⟩
theorem Shape.powerRemoval : Shape.Statement (.powerRemoval) := fun _ =>
  ⟨(fun _ e => nomatch (show none = some _ from e)), (fun _ e => nomatch (show none = some _ from e))⟩
theorem Shape.inputOvervoltage (volts : Nat) : Shape.Statement (.inputOvervoltage volts) := fun _ =>
  ⟨(fun _ e => nomatch (show none = some _ from e)), (fun _ e => nomatch (show none = some _ from e))⟩
theorem Shape.dieIdle (d : Nat) : Shape.Statement (.dieIdle d) := fun _ =>
  ⟨(fun _ e => nomatch (show none = some _ from e)), (fun _ e => nomatch (show none = some _ from e))⟩
theorem Shape.foreignPacket (port : Nat) : Shape.Statement (.foreignPacket port) := fun _ =>
  ⟨(fun _ e => nomatch (show none = some _ from e)), (fun _ e => nomatch (show none = some _ from e))⟩
theorem Shape.neighbourDiscovery (port : Nat) (src : BitVec 128) (target : BitVec 128) : Shape.Statement (.neighbourDiscovery port src target) := fun _ =>
  ⟨(fun _ e => nomatch (show none = some _ from e)), (fun _ e => nomatch (show none = some _ from e))⟩
theorem Shape.pauseFrame (port : Nat) (priority : Nat) (pause : Bool) : Shape.Statement (.pauseFrame port priority pause) := fun _ =>
  ⟨(fun _ e => nomatch (show none = some _ from e)), (fun _ e => nomatch (show none = some _ from e))⟩
theorem Shape.ecnRateRaise (k : Nat) : Shape.Statement (.ecnRateRaise k) := fun _ =>
  ⟨(fun _ e => nomatch (show none = some _ from e)), (fun _ e => nomatch (show none = some _ from e))⟩
theorem Shape.icvanUnknownType (m : Msg) : Shape.Statement (.icvanUnknownType m) := fun h =>
  ⟨(fun _ e => nomatch (show none = some _ from e)), (fun _ e => Option.some.inj e ▸ h)⟩
theorem Shape.ack (m : Msg) : Shape.Statement (.ack m) := fun h =>
  ⟨(fun _ e => nomatch (show none = some _ from e)), (fun _ e => Option.some.inj e ▸ h)⟩
theorem Shape.ackDelayExpiry (k : Nat) : Shape.Statement (.ackDelayExpiry k) := fun _ =>
  ⟨(fun _ e => nomatch (show none = some _ from e)), (fun _ e => nomatch (show none = some _ from e))⟩
theorem Shape.retransmitTimeout (k : Nat) : Shape.Statement (.retransmitTimeout k) := fun _ =>
  ⟨(fun _ e => nomatch (show none = some _ from e)), (fun _ e => nomatch (show none = some _ from e))⟩
theorem Shape.linkDown (port : Nat) : Shape.Statement (.linkDown port) := fun _ =>
  ⟨(fun _ e => nomatch (show none = some _ from e)), (fun _ e => nomatch (show none = some _ from e))⟩
theorem Shape.replayRound (pair : Nat) : Shape.Statement (.replayRound pair) := fun _ =>
  ⟨(fun _ e => nomatch (show none = some _ from e)), (fun _ e => nomatch (show none = some _ from e))⟩
theorem Shape.linkReturn (port : Nat) : Shape.Statement (.linkReturn port) := fun _ =>
  ⟨(fun _ e => nomatch (show none = some _ from e)), (fun _ e => nomatch (show none = some _ from e))⟩
theorem Shape.read (m : Msg) : Shape.Statement (.read m) := fun h =>
  ⟨(fun _ e => nomatch (show none = some _ from e)), (fun _ e => Option.some.inj e ▸ h)⟩
theorem Shape.write (m : Msg) : Shape.Statement (.write m) := fun h =>
  ⟨(fun _ e => nomatch (show none = some _ from e)), (fun _ e => Option.some.inj e ▸ h)⟩
theorem Shape.status (m : Msg) : Shape.Statement (.status m) := fun h =>
  ⟨(fun _ e => nomatch (show none = some _ from e)), (fun _ e => Option.some.inj e ▸ h)⟩
theorem Shape.statusChangeReport : Shape.Statement (.statusChangeReport) := fun _ =>
  ⟨(fun _ e => nomatch (show none = some _ from e)), (fun _ e => nomatch (show none = some _ from e))⟩
theorem Shape.errorReport : Shape.Statement (.errorReport) := fun _ =>
  ⟨(fun _ e => nomatch (show none = some _ from e)), (fun _ e => nomatch (show none = some _ from e))⟩
theorem Shape.hostDecisionRetry (m : Msg) : Shape.Statement (.hostDecisionRetry m) := fun h =>
  ⟨(fun _ e => nomatch (show none = some _ from e)), (fun _ e => Option.some.inj e ▸ h)⟩
theorem Shape.hostDecisionAbort (m : Msg) : Shape.Statement (.hostDecisionAbort m) := fun h =>
  ⟨(fun _ e => nomatch (show none = some _ from e)), (fun _ e => Option.some.inj e ▸ h)⟩
theorem Shape.hostDecisionSkip (m : Msg) : Shape.Statement (.hostDecisionSkip m) := fun h =>
  ⟨(fun _ e => nomatch (show none = some _ from e)), (fun _ e => Option.some.inj e ▸ h)⟩
theorem Shape.hostDecisionWait (m : Msg) : Shape.Statement (.hostDecisionWait m) := fun h =>
  ⟨(fun _ e => nomatch (show none = some _ from e)), (fun _ e => Option.some.inj e ▸ h)⟩
theorem Shape.hostDecisionPrimaryMp0 (m : Msg) : Shape.Statement (.hostDecisionPrimaryMp0 m) := fun h =>
  ⟨(fun _ e => nomatch (show none = some _ from e)), (fun _ e => Option.some.inj e ▸ h)⟩
theorem Shape.hostDecisionPrimaryMp1 (m : Msg) : Shape.Statement (.hostDecisionPrimaryMp1 m) := fun h =>
  ⟨(fun _ e => nomatch (show none = some _ from e)), (fun _ e => Option.some.inj e ▸ h)⟩
theorem Shape.attendGrant (m : Msg) : Shape.Statement (.attendGrant m) := fun h =>
  ⟨(fun _ e => nomatch (show none = some _ from e)), (fun _ e => Option.some.inj e ▸ h)⟩
theorem Shape.attendRefuse (m : Msg) : Shape.Statement (.attendRefuse m) := fun h =>
  ⟨(fun _ e => nomatch (show none = some _ from e)), (fun _ e => Option.some.inj e ▸ h)⟩
theorem Shape.attendReqResend : Shape.Statement (.attendReqResend) := fun _ =>
  ⟨(fun _ e => nomatch (show none = some _ from e)), (fun _ e => nomatch (show none = some _ from e))⟩
theorem Shape.inferReq (m : Msg) : Shape.Statement (.inferReq m) := fun h =>
  ⟨(fun _ e => nomatch (show none = some _ from e)), (fun _ e => Option.some.inj e ▸ h)⟩
theorem Shape.mailboxPoll : Shape.Statement (.mailboxPoll) := fun _ =>
  ⟨(fun _ e => nomatch (show none = some _ from e)), (fun _ e => nomatch (show none = some _ from e))⟩
theorem Shape.powerOn (strap : Nat) : Shape.Statement (.powerOn strap) := fun _ =>
  ⟨(fun _ e => nomatch (show none = some _ from e)), (fun _ e => nomatch (show none = some _ from e))⟩
theorem Shape.mpRelease (p : Nat) : Shape.Statement (.mpRelease p) := fun _ =>
  ⟨(fun _ e => nomatch (show none = some _ from e)), (fun _ e => nomatch (show none = some _ from e))⟩
theorem Shape.partBringUpComplete (part : Part) (ok : Bool) : Shape.Statement (.partBringUpComplete part ok) := fun _ =>
  ⟨(fun _ e => nomatch (show none = some _ from e)), (fun _ e => nomatch (show none = some _ from e))⟩
theorem Shape.strollService (ms : Nat) : Shape.Statement (.strollService ms) := fun _ =>
  ⟨(fun _ e => nomatch (show none = some _ from e)), (fun _ e => nomatch (show none = some _ from e))⟩
theorem Shape.fullService : Shape.Statement (.fullService) := fun _ =>
  ⟨(fun _ e => nomatch (show none = some _ from e)), (fun _ e => nomatch (show none = some _ from e))⟩
theorem Shape.bootFullLate : Shape.Statement (.bootFullLate) := fun _ =>
  ⟨(fun _ e => nomatch (show none = some _ from e)), (fun _ e => nomatch (show none = some _ from e))⟩
theorem Shape.bringUpDeadline : Shape.Statement (.bringUpDeadline) := fun _ =>
  ⟨(fun _ e => nomatch (show none = some _ from e)), (fun _ e => nomatch (show none = some _ from e))⟩
theorem Shape.heartbeat (p : Nat) : Shape.Statement (.heartbeat p) := fun _ =>
  ⟨(fun _ e => nomatch (show none = some _ from e)), (fun _ e => nomatch (show none = some _ from e))⟩
theorem Shape.heartbeatLost : Shape.Statement (.heartbeatLost) := fun _ =>
  ⟨(fun _ e => nomatch (show none = some _ from e)), (fun _ e => nomatch (show none = some _ from e))⟩
theorem Shape.heartbeatRestored : Shape.Statement (.heartbeatRestored) := fun _ =>
  ⟨(fun _ e => nomatch (show none = some _ from e)), (fun _ e => nomatch (show none = some _ from e))⟩
theorem Shape.endorsementSigned (p : Nat) : Shape.Statement (.endorsementSigned p) := fun _ =>
  ⟨(fun _ e => nomatch (show none = some _ from e)), (fun _ e => nomatch (show none = some _ from e))⟩
theorem Shape.attestReq (m : Msg) : Shape.Statement (.attestReq m) := fun h =>
  ⟨(fun _ e => nomatch (show none = some _ from e)), (fun _ e => Option.some.inj e ▸ h)⟩
theorem Shape.attestQuote (p : Nat) : Shape.Statement (.attestQuote p) := fun _ =>
  ⟨(fun _ e => nomatch (show none = some _ from e)), (fun _ e => nomatch (show none = some _ from e))⟩
theorem Shape.warmReset (m : Msg) : Shape.Statement (.warmReset m) := fun h =>
  ⟨(fun _ e => nomatch (show none = some _ from e)), (fun _ e => Option.some.inj e ▸ h)⟩
theorem Shape.warmResetComplete : Shape.Statement (.warmResetComplete) := fun _ =>
  ⟨(fun _ e => nomatch (show none = some _ from e)), (fun _ e => nomatch (show none = some _ from e))⟩
theorem Shape.portReset (m : Msg) : Shape.Statement (.portReset m) := fun h =>
  ⟨(fun _ e => nomatch (show none = some _ from e)), (fun _ e => Option.some.inj e ▸ h)⟩
theorem Shape.portResetComplete (port : Nat) : Shape.Statement (.portResetComplete port) := fun _ =>
  ⟨(fun _ e => nomatch (show none = some _ from e)), (fun _ e => nomatch (show none = some _ from e))⟩
theorem Shape.jobReset (m : Msg) : Shape.Statement (.jobReset m) := fun h =>
  ⟨(fun _ e => nomatch (show none = some _ from e)), (fun _ e => Option.some.inj e ▸ h)⟩
theorem Shape.hamperUpdate (m : Msg) : Shape.Statement (.hamperUpdate m) := fun h =>
  ⟨(fun _ e => nomatch (show none = some _ from e)), (fun _ e => Option.some.inj e ▸ h)⟩
theorem Shape.hamperSectorWritten : Shape.Statement (.hamperSectorWritten) := fun _ =>
  ⟨(fun _ e => nomatch (show none = some _ from e)), (fun _ e => nomatch (show none = some _ from e))⟩
theorem Shape.enterStandby (m : Msg) : Shape.Statement (.enterStandby m) := fun h =>
  ⟨(fun _ e => nomatch (show none = some _ from e)), (fun _ e => Option.some.inj e ▸ h)⟩
theorem Shape.standbyEntered : Shape.Statement (.standbyEntered) := fun _ =>
  ⟨(fun _ e => nomatch (show none = some _ from e)), (fun _ e => nomatch (show none = some _ from e))⟩
theorem Shape.leaveStandby (m : Msg) : Shape.Statement (.leaveStandby m) := fun h =>
  ⟨(fun _ e => nomatch (show none = some _ from e)), (fun _ e => Option.some.inj e ▸ h)⟩
theorem Shape.moduleReset (strap : Nat) : Shape.Statement (.moduleReset strap) := fun _ =>
  ⟨(fun _ e => nomatch (show none = some _ from e)), (fun _ e => nomatch (show none = some _ from e))⟩
theorem Shape.attendPress : Shape.Statement (.attendPress) := fun _ =>
  ⟨(fun _ e => nomatch (show none = some _ from e)), (fun _ e => nomatch (show none = some _ from e))⟩
theorem Shape.ejectorLift : Shape.Statement (.ejectorLift) := fun _ =>
  ⟨(fun _ e => nomatch (show none = some _ from e)), (fun _ e => nomatch (show none = some _ from e))⟩
theorem Shape.ejectorLower : Shape.Statement (.ejectorLower) := fun _ =>
  ⟨(fun _ e => nomatch (show none = some _ from e)), (fun _ e => nomatch (show none = some _ from e))⟩
theorem Shape.opticChange (port : Nat) (seated : Bool) (overPower : Bool) : Shape.Statement (.opticChange port seated overPower) := fun _ =>
  ⟨(fun _ e => nomatch (show none = some _ from e)), (fun _ e => nomatch (show none = some _ from e))⟩
theorem Shape.inputOvercurrent : Shape.Statement (.inputOvercurrent) := fun _ =>
  ⟨(fun _ e => nomatch (show none = some _ from e)), (fun _ e => nomatch (show none = some _ from e))⟩
theorem Shape.coolantSample (inlet : Int) (outlet : Int) (flow : Nat) (sustained : Bool) : Shape.Statement (.coolantSample inlet outlet flow sustained) := fun _ =>
  ⟨(fun _ e => nomatch (show none = some _ from e)), (fun _ e => nomatch (show none = some _ from e))⟩
theorem Shape.strapChange (level : Nat) : Shape.Statement (.strapChange level) := fun _ =>
  ⟨(fun _ e => nomatch (show none = some _ from e)), (fun _ e => nomatch (show none = some _ from e))⟩
theorem Shape.i2cRead (n : Nat) : Shape.Statement (.i2cRead n) := fun _ =>
  ⟨(fun _ e => nomatch (show none = some _ from e)), (fun _ e => nomatch (show none = some _ from e))⟩
theorem Shape.i2cWrite (offset : Nat) (data : List Byte) : Shape.Statement (.i2cWrite offset data) := fun _ =>
  ⟨(fun _ e => nomatch (show none = some _ from e)), (fun _ e => nomatch (show none = some _ from e))⟩
theorem Shape.refclockLoss (serdes : Bool) : Shape.Statement (.refclockLoss serdes) := fun _ =>
  ⟨(fun _ e => nomatch (show none = some _ from e)), (fun _ e => nomatch (show none = some _ from e))⟩
theorem Shape.lightTest (m : Msg) : Shape.Statement (.lightTest m) := fun h =>
  ⟨(fun _ e => nomatch (show none = some _ from e)), (fun _ e => Option.some.inj e ▸ h)⟩
theorem Shape.lightTestExpiry : Shape.Statement (.lightTestExpiry) := fun _ =>
  ⟨(fun _ e => nomatch (show none = some _ from e)), (fun _ e => nomatch (show none = some _ from e))⟩
theorem Shape.logClear (m : Msg) : Shape.Statement (.logClear m) := fun h =>
  ⟨(fun _ e => nomatch (show none = some _ from e)), (fun _ e => Option.some.inj e ▸ h)⟩
theorem Shape.counterFreeze (m : Msg) : Shape.Statement (.counterFreeze m) := fun h =>
  ⟨(fun _ e => nomatch (show none = some _ from e)), (fun _ e => Option.some.inj e ▸ h)⟩
theorem Shape.counterUnfreeze (m : Msg) : Shape.Statement (.counterUnfreeze m) := fun h =>
  ⟨(fun _ e => nomatch (show none = some _ from e)), (fun _ e => Option.some.inj e ▸ h)⟩
theorem Shape.logSavePeriodic : Shape.Statement (.logSavePeriodic) := fun _ =>
  ⟨(fun _ e => nomatch (show none = some _ from e)), (fun _ e => nomatch (show none = some _ from e))⟩
theorem Shape.logSaveComplete : Shape.Statement (.logSaveComplete) := fun _ =>
  ⟨(fun _ e => nomatch (show none = some _ from e)), (fun _ e => nomatch (show none = some _ from e))⟩
theorem Shape.registerWriteOther (m : Msg) : Shape.Statement (.registerWriteOther m) := fun h =>
  ⟨(fun _ e => nomatch (show none = some _ from e)), (fun _ e => Option.some.inj e ▸ h)⟩
theorem Shape.jobResetComplete : Shape.Statement (.jobResetComplete) := fun _ =>
  ⟨(fun _ e => nomatch (show none = some _ from e)), (fun _ e => nomatch (show none = some _ from e))⟩
theorem Shape.i2cSnapshotRefresh (power : Nat) : Shape.Statement (.i2cSnapshotRefresh power) := fun _ =>
  ⟨(fun _ e => nomatch (show none = some _ from e)), (fun _ e => nomatch (show none = some _ from e))⟩

end Sys2Proof.Laws
end

