-- ==== Sys2Proof/Laws/Vector.lean ====
section
/-! SUPPORT. The vector unit: what reading and writing lanes and predicates does, and what an instruction that retires leaves. -/

namespace Sys2Proof.Machine

@[simp] theorem lane_mkLanes (f : Nat → Word) (i : Nat) (h : i < 64) : lane (mkLanes f) i = f i := by
  unfold lane mkLanes; simp [h]

theorem Invocation.setReg_reg (v : Invocation) (f : VFields) (val : Nat → Word) (r : BitVec 5) :
    (v.setReg f val).reg r = if r = f.vd then
      mkLanes (fun i => if (v.pred f.pg.toNat).getLsbD i then val i else if f.zm then 0 else lane (v.reg f.vd) i)
    else v.reg r := by
  unfold Invocation.setReg Invocation.reg
  dsimp only
  rw [Tab.get_set]
  by_cases h : r = f.vd
  · subst h; rw [if_pos rfl, if_pos rfl]
  · rw [if_neg h, if_neg (fun e => h (BitVec.eq_of_toNat_eq e))]

theorem Invocation.reg_congr {v w : Invocation} (h : v.regs = w.regs) (r : BitVec 5) : v.reg r = w.reg r := by
  unfold Invocation.reg; rw [h]

theorem Invocation.pred_congr {v w : Invocation} (h : v.preds = w.preds) (p : Nat) : v.pred p = w.pred p := by
  unfold Invocation.pred; rw [h]

/-- A register write sets the lanes of its destination under the governing predicate, and nothing else. -/
theorem Invocation.setReg_lanes (v : Invocation) (f : VFields) (val : Nat → Word) :
    v.LanesSet { v.setReg f val with pc := v.pc + 1, executed := v.executed + 1 } f val := by
  generalize hx : ({ v.setReg f val with pc := v.pc + 1, executed := v.executed + 1 } : Invocation) = x
  have hr : x.regs = (v.setReg f val).regs := by rw [← hx]
  refine ⟨fun i hi => ?_, fun r hne => ?_, ?_⟩
  · rw [Invocation.reg_congr hr, v.setReg_reg f val f.vd, if_pos rfl, lane_mkLanes _ _ hi]
  · rw [Invocation.reg_congr hr, v.setReg_reg f val r, if_neg hne]
  · subst hx; simp only [Invocation.setReg]

theorem Invocation.setPredAll_pred (v : Invocation) (p : Nat) (b : BitVec 64) (r : Nat) :
    (v.setPredAll p b).pred r = if r % 8 = p % 8 ∧ p % 8 ≠ 0 then b else v.pred r := by
  unfold Invocation.setPredAll Invocation.pred
  by_cases hp : p % 8 = 0
  · simp [hp]
  · rw [if_neg hp]
    dsimp only
    rw [Tab.get_set]
    by_cases hr : r % 8 = p % 8
    · simp [hr, hp]
    · simp [hr]

theorem Invocation.setPredAll_set (v : Invocation) (p : Nat) (b : BitVec 64) :
    v.PredSet { v.setPredAll p b with pc := v.pc + 1, executed := v.executed + 1 } p (fun i => b.getLsbD i) := by
  generalize hx : ({ v.setPredAll p b with pc := v.pc + 1, executed := v.executed + 1 } : Invocation) = x
  have hr : x.preds = (v.setPredAll p b).preds := by rw [← hx]
  refine ⟨fun i hi => ?_, fun r hne => ?_, ?_⟩
  · rw [Invocation.pred_congr hr, v.setPredAll_pred]
    by_cases h : p % 8 = 0
    · rw [if_neg (by simp [h]), if_pos h]; unfold Invocation.pred; rw [if_pos h, BitVec.getLsbD_allOnes]; simpa using hi
    · rw [if_pos ⟨rfl, h⟩, if_neg h]
  · rw [Invocation.pred_congr hr, v.setPredAll_pred, if_neg (by simp [hne])]
  · rw [← hx]; unfold Invocation.setPredAll; split_ifs <;> rfl

theorem getLsbD_lanes (h : Nat → Bool) (i : Nat) (hi : i < 64) :
    ((BitVec.ofBoolListLE ((List.range 64).map h)).setWidth 64).getLsbD i = h i := by
  rw [BitVec.getLsbD_setWidth, BitVec.getLsbD_ofBoolListLE]
  simp [hi]

/-- A predicate write under the governing predicate (R158). -/
theorem Invocation.setPred_set (v : Invocation) (f : VFields) (p : Nat) (val : Nat → Bool) :
    v.PredSet { v.setPred f p val with pc := v.pc + 1, executed := v.executed + 1 } p
      (fun i => if (v.pred f.pg.toNat).getLsbD i then val i else if f.zm then false else (v.pred p).getLsbD i) := by
  unfold Invocation.setPred
  dsimp only
  obtain ⟨h1, h2, h3⟩ := v.setPredAll_set p ((BitVec.ofBoolListLE ((List.range 64).map (fun i =>
    if (v.pred f.pg.toNat).getLsbD i then val i else if f.zm then false else (v.pred p).getLsbD i))).setWidth 64)
  refine ⟨fun i hi => ?_, h2, h3⟩
  refine (h1 i hi).trans ?_
  dsimp only
  rw [getLsbD_lanes _ i hi]

theorem Device.AtWord.invAt {s : Device} {g w : Nat} {v : Invocation} (h : s.AtWord g w v) : s.invAt g w = some v := by
  obtain ⟨h1, h2, h3, h4⟩ := h
  unfold Device.invAt Device.inv
  rw [h1]
  have : ¬ 8192 ≤ v.executed := by omega
  simp [h2, this, h4]

/-- What an instruction that retires leaves (R159, R177). -/
theorem Device.retireTo_retired (s : State) (g : Nat) (v : Invocation) (pc n m : Nat) :
    s.Retired (s.onDev (fun d => d.retireTo g v pc n m)) g n m { v with pc := pc, executed := v.executed + 1 } := by
  refine ⟨rfl, rfl, ?_, fun h hh => ?_, fun o => ?_⟩
  · simp [Device.retireTo]
  · simp [Device.retireTo, Device.modCluster_cluster, hh]
  · simp only [State.onDev_dev, Device.retireTo, Device.bumpVec_eq, Device.bump_counter, Device.modCluster_counters]
    by_cases h1 : o = clusterBlock g + 0xC8
    · subst h1; simp
    · by_cases h2 : o = clusterBlock g + 0xD0
      · subst h2; simp
      · simp [h1, h2]

@[simp] theorem Invocation.setReg_pc (v : Invocation) (f : VFields) (val : Nat → Word) : (v.setReg f val).pc = v.pc := by
  simp only [Invocation.setReg]
@[simp] theorem Invocation.setReg_executed (v : Invocation) (f : VFields) (val : Nat → Word) :
    (v.setReg f val).executed = v.executed := by simp only [Invocation.setReg]
@[simp] theorem Invocation.setPredAll_pc (v : Invocation) (p : Nat) (b : BitVec 64) : (v.setPredAll p b).pc = v.pc := by
  unfold Invocation.setPredAll; split_ifs <;> rfl
@[simp] theorem Invocation.setPredAll_executed (v : Invocation) (p : Nat) (b : BitVec 64) :
    (v.setPredAll p b).executed = v.executed := by
  unfold Invocation.setPredAll; split_ifs <;> rfl
@[simp] theorem Invocation.setPred_pc (v : Invocation) (f : VFields) (p : Nat) (val : Nat → Bool) :
    (v.setPred f p val).pc = v.pc := by unfold Invocation.setPred; exact Invocation.setPredAll_pc _ _ _
@[simp] theorem Invocation.setPred_executed (v : Invocation) (f : VFields) (p : Nat) (val : Nat → Bool) :
    (v.setPred f p val).executed = v.executed := by unfold Invocation.setPred; exact Invocation.setPredAll_executed _ _ _

/-- An instruction that only changes the invocation, and not where it stands. -/
theorem Device.vreg_retired {s : State} {g op : Nat} {f : VFields} {v : Invocation} (h : s.dev.AtWord g (vword op f) v)
    (n : Nat) (k : Invocation → Invocation) (hp : (k v).pc = v.pc) (he : (k v).executed = v.executed) :
    s.Retired (s.onDev (fun d => d.vreg g op f n k)) g n 0 { k v with pc := v.pc + 1, executed := v.executed + 1 } := by
  have e : s.onDev (fun d => d.vreg g op f n k) = s.onDev (fun d => d.retireTo g (k v) (v.pc + 1) n 0) := by
    unfold State.onDev Device.vreg; dsimp only; rw [h.invAt]; dsimp only [Device.retire]; rw [hp]
  rw [e, ← he]; exact Device.retireTo_retired s g (k v) _ n 0

/-- An instruction that writes one register under the governing predicate. -/
theorem Device.vreg_lanes {s : State} {g op : Nat} {f : VFields} {v : Invocation} (h : s.dev.AtWord g (vword op f) v)
    (n : Nat) (val : Invocation → Nat → Word) :
    ∃ v', s.Retired (s.onDev (fun d => d.vreg g op f n (fun v => v.setReg f (val v)))) g n 0 v' ∧ v.LanesSet v' f (val v) :=
  ⟨_, Device.vreg_retired h n (fun v => v.setReg f (val v)) (v.setReg_pc f _) (v.setReg_executed f _),
    v.setReg_lanes f (val v)⟩

/-- An instruction of the special-function unit. -/
theorem Device.vSfu_lanes {s : State} {g op : Nat} {f : VFields} {v : Invocation} (h : s.dev.AtWord g (vword op f) v)
    (k : FVal → FVal) :
    ∃ v', s.Retired (s.onDev (fun d => d.vSfu g op f k)) g 2 2 v' ∧
      v.LanesSet v' f (fun i => enc32 (k (dec32 (lane (v.reg f.va) i)))) := by
  have e : s.onDev (fun d => d.vSfu g op f k) =
      s.onDev (fun d => d.retireTo g (v.setReg f (fun i => enc32 (k (dec32 (lane (v.reg f.va) i))))) (v.pc + 1) 2 2) := by
    unfold State.onDev Device.vSfu; dsimp only; rw [h.invAt]
  have r := Device.retireTo_retired s g (v.setReg f (fun i => enc32 (k (dec32 (lane (v.reg f.va) i))))) (v.pc + 1) 2 2
  rw [v.setReg_executed] at r
  rw [e]
  exact ⟨_, r, v.setReg_lanes f _⟩

/-- An instruction that writes one predicate. -/
theorem Device.vreg_pred {s : State} {g op : Nat} {f : VFields} {v : Invocation} (h : s.dev.AtWord g (vword op f) v)
    (p : Nat) (b : Invocation → BitVec 64) :
    ∃ v', s.Retired (s.onDev (fun d => d.vreg g op f 1 (fun v => v.setPredAll p (b v)))) g 1 0 v' ∧
      v.PredSet v' p (fun i => (b v).getLsbD i) :=
  ⟨_, Device.vreg_retired h 1 (fun v => v.setPredAll p (b v)) (v.setPredAll_pc p _) (v.setPredAll_executed p _),
    v.setPredAll_set p (b v)⟩

/-- A comparison, which writes one predicate under the governing predicate. -/
theorem Device.vreg_compare {s : State} {g op : Nat} {f : VFields} {v : Invocation} (h : s.dev.AtWord g (vword op f) v)
    (p : Nat) (val : Invocation → Nat → Bool) :
    ∃ v', s.Retired (s.onDev (fun d => d.vreg g op f 1 (fun v => v.setPred f p (val v)))) g 1 0 v' ∧
      v.PredSet v' p (fun i => if (v.pred f.pg.toNat).getLsbD i then val v i else if f.zm then false else (v.pred p).getLsbD i) :=
  ⟨_, Device.vreg_retired h 1 (fun v => v.setPred f p (val v)) (v.setPred_pc f p _) (v.setPred_executed f p _),
    v.setPred_set f p (val v)⟩

end Sys2Proof.Machine
end

