-- ==== Sys2Proof/Tests/Slice0.lean ====
section
/-! SUPPORT. Tests: small states built by hand, the effect of one command on each, and for every clause of a statement a state
that meets its hypotheses. Expected results come from the rules cited. -/

namespace Sys2Proof.Tests

open Sys2Proof Sys2Proof.Machine

set_option Elab.async false

/-- The module after one command. -/
def after (c : Instr) (s : Device) : Device :=
  match exec c ⟨s, []⟩ with
  | .next t => t.dev
  | _ => s

/-! ## States -/

def msg0 : Msg :=
  { port := 16, mp1 := false, src := 77, intact := true, ce := false, version := 1, ackReq := false, retx := false, last := true
    hold := false, flow := 0, seq := 0, ackSeq := 0, grant := 16, handle := 0, sub := 0, epoch := 0, payload := [] }

/-- Pair k has role k; host A is peer 0 at 500 and 501, the ring, the planes and the stages have one peer each. -/
def hamper0 : Hamper :=
  { primacy := 0, addresses := (List.range 17).map (fun i => BitVec.ofNat 128 (1000 + i)), roles := [0, 1, 2, 3, 4, 5, 6, 7]
    peers := (List.range 8).map (fun r => ⟨r, 0, BitVec.ofNat 128 (500 + 10 * r), BitVec.ofNat 128 (501 + 10 * r)⟩)
    udpPort := 47694, pfc := true, pfcPriority := 3, report := some 77, maxProfile := 0, defaultProfile := 1, inputCap := 0
    holdLimit := 1000, ceThreshold := 1024, patrolHours := 24, maxStaging := none, maxCompressed := none, outClusters := [] }

def portUp0 : Port := { Port.reset with link := true, inUse := true, rate := 2 }

/-- In full service: both processors run the same load, every die and port is up. -/
def up : Device :=
  { Device.reset with
    mps := [(0, { Mp.reset with run := 2, hamper := some hamper0 }), (1, { Mp.reset with run := 2, hamper := some hamper0 })]
    boot := { Boot.reset with service := 2, agreed := true }
    net := { Net.reset with ports := (List.range 17).map (fun n => (n, portUp0)) }
    dies := (List.range 4).map (fun d => (d, { Die.reset with power := 0, clock := 0 })) }

/-- With a job that runs step 1. -/
def job0 : Device := { up with job := { Job.reset with state := 6, epoch := 1, step := 1, firstStep := 1 } }

def withStores (s : Device) (l : List Section) : Device := { s with job := { s.job with stores := l } }

/-- Overwrite bytes of a structure. -/
def patch (l : List Byte) (off : Nat) (b : List Byte) : List Byte := l.take off ++ b ++ l.drop (off + b.length)
def patches (n : Nat) (l : List (Nat × Nat × Nat)) : List Byte :=
  l.foldl (fun b e => patch b e.1 (leBytes e.2.1 e.2.2)) (List.replicate n 0)

def granted (s : Device) (k : Nat) : Device :=
  { s with net := { s.net with flows := Tab.set Flow.reset s.net.flows k { Flow.reset with window := some 65536 } } }

/-! ## The vector unit -/

def f0 : VFields := { vd := 3, va := 1, vb := 2, vc := 1, pg := 0, zm := false, imm := 3 }

/-- Lane i of registers 1 and 2 is i and 1.5; predicate 1 is true in the even lanes. -/
def inv0 : Invocation :=
  { ctx := 0, kind := 1, item := 1, index := 0, pc := 0, executed := 0, rho := 5, n := 0, r := 5, cols := 64, segs := 1, segIn := 0, segCur := 0
    segOut := 0, rowBase := none, pass := none, row := (List.range 64).map (BitVec.ofNat 32)
    regs := [(1, Vector.ofFn (fun i => BitVec.ofNat 32 i.val)), (2, Vector.replicate 64 0x3FC00000)]
    preds := [(1, 0x5555555555555555)], nan := false, expo := 0, entry := [], undo := [] }

/-- Cluster 0 runs `v`, whose program has the one word `w`. -/
def vec (w : Nat) (v : Invocation) : Device :=
  { withStores job0 [⟨0x18, 0, 0, 0, 1, leBytes 8 w⟩] with clusters := [(0, { Cluster.reset with invocation := some v })] }

/-- What cluster 0 runs after an instruction. -/
def ran (op : Nat) (c : Instr) (f : VFields := f0) (v : Invocation := inv0) : Invocation :=
  ((after c (vec (vword op f) v)).cluster 0).invocation.getD inv0
abbrev at0 (op : Nat) (f : VFields := f0) (v : Invocation := inv0) : Prop := (vec (vword op f) v).AtWord 0 (vword op f) v

/-- Every vector word of R158 is at the cluster's program counter and writes lane 5 of register 3 (R159 to R166). -/
theorem test_vector_lanes :
    at0 0x11 ∧ lane ((ran 0x11 (.mov 0 f0)).reg 3) 5 = 5 ∧ at0 0x12 ∧ lane ((ran 0x12 (.movi 0 f0)).reg 3) 5 = 3 ∧
    at0 0x13 ∧ lane ((ran 0x13 (.sel 0 f0)).reg 3) 5 = 0x3FC00000 ∧ lane ((ran 0x13 (.sel 0 f0)).reg 3) 6 = 6 := by decide +kernel

theorem test_vector_integers :
    at0 0x40 ∧ lane ((ran 0x40 (.iadd 0 f0)).reg 3) 5 = 0x3FC00005 ∧ at0 0x41 ∧ lane ((ran 0x41 (.isub 0 f0)).reg 3) 5 = 0xC0400005 ∧
    at0 0x42 ∧ lane ((ran 0x42 (.imul 0 f0)).reg 3) 2 = 0x7F800000 ∧ at0 0x43 ∧ lane ((ran 0x43 (.iand 0 f0)).reg 3) 5 = 0 ∧
    at0 0x44 ∧ lane ((ran 0x44 (.ior 0 f0)).reg 3) 5 = 0x3FC00005 ∧ at0 0x45 ∧ lane ((ran 0x45 (.ixor 0 f0)).reg 3) 5 = 0x3FC00005 := by decide +kernel

theorem test_vector_shifts :
    at0 0x46 ∧ lane ((ran 0x46 (.ishl 0 f0)).reg 3) 5 = 40 ∧ at0 0x47 ∧ lane ((ran 0x47 (.ishr 0 f0)).reg 3) 63 = 7 ∧
    at0 0x48 ∧ lane ((ran 0x48 (.isra 0 f0)).reg 3) 63 = 7 ∧ at0 0x49 ∧ lane ((ran 0x49 (.iaddi 0 f0)).reg 3) 5 = 8 ∧
    at0 0x4B ∧ lane ((ran 0x4B (.imin 0 f0)).reg 3) 5 = 5 ∧ at0 0x4C ∧ lane ((ran 0x4C (.imax 0 f0)).reg 3) 5 = 0x3FC00000 ∧
    at0 0x4E ∧ lane ((ran 0x4E (.itof 0 f0)).reg 3) 5 = 0x40A00000 := by decide +kernel

/-- 1.5 against itself and against the immediate 2.0. -/
def f1 : VFields := { f0 with va := 2, vc := 2, imm := 0x40000000 }

theorem test_vector_floats :
    at0 0x20 f1 ∧ lane ((ran 0x20 (.fadd 0 f1) f1).reg 3) 5 = 0x40400000 ∧ at0 0x21 f1 ∧ lane ((ran 0x21 (.fsub 0 f1) f1).reg 3) 5 = 0 ∧
    at0 0x22 f1 ∧ lane ((ran 0x22 (.fmul 0 f1) f1).reg 3) 5 = 0x40100000 ∧
    at0 0x23 f1 ∧ lane ((ran 0x23 (.ffma 0 f1) f1).reg 3) 5 = 0x40700000 ∧
    at0 0x24 f1 ∧ lane ((ran 0x24 (.fmin 0 f1) f1).reg 3) 5 = 0x3FC00000 ∧ at0 0x25 f1 ∧ lane ((ran 0x25 (.fmax 0 f1) f1).reg 3) 5 = 0x3FC00000 ∧
    at0 0x26 f1 ∧ lane ((ran 0x26 (.faddi 0 f1) f1).reg 3) 5 = 0x40600000 ∧
    at0 0x27 f1 ∧ lane ((ran 0x27 (.fmuli 0 f1) f1).reg 3) 5 = 0x40400000 ∧
    at0 0x28 f1 ∧ lane ((ran 0x28 (.fabs 0 f1) f1).reg 3) 5 = 0x3FC00000 ∧ at0 0x29 f1 ∧ lane ((ran 0x29 (.fneg 0 f1) f1).reg 3) 5 = 0xBFC00000 := by
  decide +kernel

/-- The special functions of 0: exp gives 1, log -infinity, rcp and rsq +infinity, tanh and erf +0 (R163). -/
theorem test_vector_special :
    at0 0x30 ∧ lane ((ran 0x30 (.vExp 0 f0)).reg 3) 0 = 0x3F800000 ∧ at0 0x31 ∧ lane ((ran 0x31 (.vLog 0 f0)).reg 3) 0 = 0xFF800000 ∧
    at0 0x32 ∧ lane ((ran 0x32 (.rcp 0 f0)).reg 3) 0 = 0x7F800000 ∧ at0 0x33 ∧ lane ((ran 0x33 (.rsq 0 f0)).reg 3) 0 = 0x7F800000 ∧
    at0 0x34 ∧ lane ((ran 0x34 (.tanh 0 f0)).reg 3) 0 = 0 ∧ at0 0x35 ∧ lane ((ran 0x35 (.erf 0 f0)).reg 3) 0 = 0 := by decide +kernel

/-- Reductions over the even lanes: RARGMAX takes the lowest of equals; with no active lane the stated values (R164, R165). -/
def fEven : VFields := { f0 with pg := 1, va := 2 }
def fNone : VFields := { f0 with pg := 2, va := 2 }

theorem test_vector_reductions :
    at0 0x60 fEven ∧ lane ((ran 0x60 (.rsum 0 fEven) fEven).reg 3) 4 = 0x42400000 ∧ lane ((ran 0x60 (.rsum 0 fEven) fEven).reg 3) 5 = 0 ∧
    at0 0x61 fEven ∧ lane ((ran 0x61 (.rmax 0 fEven) fEven).reg 3) 4 = 0x3FC00000 ∧
    at0 0x62 fEven ∧ lane ((ran 0x62 (.rmin 0 fEven) fEven).reg 3) 4 = 0x3FC00000 ∧
    at0 0x63 fEven ∧ lane ((ran 0x63 (.rargmax 0 fEven) fEven).reg 3) 4 = 0 ∧
    at0 0x63 fNone ∧ (∀ i, i < 64 → (inv0.pred fNone.pg.toNat).getLsbD i = false) := by decide +kernel

theorem test_vector_conversions :
    at0 0x4F f1 ∧ lane ((ran 0x4F (.ftoi 0 f1) f1).reg 3) 5 = 2 ∧ at0 0x50 f1 ∧ at0 0x51 f1 ∧
    (after (.ftoi 0 { f0 with va := 1 }) (vec (vword 0x4F { f0 with va := 1 }) { inv0 with regs := [(1, Vector.replicate 64 0x7FC00000)] })).counters =
      [(clusterBlock 0 + 0x68, 64), (clusterBlock 0 + 0xC8, 1)] := by decide +kernel

theorem test_vector_predicates :
    at0 0x2A ∧ ((ran 0x2A (.fcmp 0 { f0 with imm := 1 }) { f0 with imm := 1 }).pred 3).getLsbD 5 = true ∧
    at0 0x4A ∧ ((ran 0x4A (.icmp 0 { f0 with imm := 1 }) { f0 with imm := 1 }).pred 3).getLsbD 5 = true ∧
    at0 0x70 ∧ ((ran 0x70 (.pand 0 f0)).pred 3) = 0 ∧ at0 0x71 ∧ ((ran 0x71 (.por 0 f0)).pred 3) = 0x5555555555555555 ∧
    at0 0x72 ∧ ((ran 0x72 (.pxor 0 f0)).pred 3) = 0x5555555555555555 ∧ at0 0x73 ∧ ((ran 0x73 (.pnot 0 f0)).pred 3) = 0xAAAAAAAAAAAAAAAA ∧
    at0 0x74 ∧ ((ran 0x74 (.pfirst 0 f0)).pred 3) = 7 ∧ at0 0x75 ∧ at0 0x70 { f0 with vd := 0 } ∧
    ((ran 0x70 (.pand 0 { f0 with vd := 0 }) { f0 with vd := 0 }).pred 0) = BitVec.allOnes 64 := by decide +kernel

theorem test_vector_control :
    at0 0x00 ∧ (ran 0x00 (.vNop 0 f0)).pc = 1 ∧ at0 0x02 ∧ (ran 0x02 (.jmp 0 f0)).pc = 3 ∧
    at0 0x03 ∧ (ran 0x03 (.jany 0 f0)).pc = 3 ∧ at0 0x04 ∧ (ran 0x04 (.jnone 0 f0)).pc = 1 ∧
    at0 0x03 fNone ∧ (ran 0x03 (.jany 0 fNone) fNone).pc = 1 ∧ at0 0x04 fNone ∧ (ran 0x04 (.jnone 0 fNone) fNone).pc = 3 ∧
    (∃ i, i < 64 ∧ (inv0.pred f0.pg.toNat).getLsbD i = true ∧ (inv0.pred f0.va.toNat).getLsbD i = true) ∧
    ¬(∃ i, i < 64 ∧ (inv0.pred fNone.pg.toNat).getLsbD i = true ∧ (inv0.pred fNone.va.toNat).getLsbD i = true) := by decide +kernel

/-- IN of a 40-column epilogue row: lanes beyond it read 0 and are not valid; SYS gives the row; LDR the scratch word. -/
def invRow : Invocation := { inv0 with kind := 0, cols := 40 }

theorem test_vector_row_input :
    at0 0x08 f0 invRow ∧ lane ((ran 0x08 (.vIn 0 f0) f0 invRow).reg 3) 39 = 39 ∧ lane ((ran 0x08 (.vIn 0 f0) f0 invRow).reg 3) 40 = 0 ∧
    ((ran 0x08 (.vIn 0 f0) f0 invRow).pred 1) = 0xFFFFFFFFFF ∧
    at0 0x0E { f0 with imm := 1 } ∧ lane ((ran 0x0E (.sys 0 { f0 with imm := 1 }) { f0 with imm := 1 }).reg 3) 9 = 5 ∧
    at0 0x0F ∧ lane ((ran 0x0F (.ldr 0 f0)).reg 3) 9 = 0 := by decide +kernel

/-- A row of a vector pass over two FP32 columns at `base`, whose row 5 lies 320 bytes on (R154); C lies there too. -/
def invTwo : Invocation := { inv0 with cols := 2 }
def rowDev (op base : Nat) (damaged : List Nat := []) (power : Nat := 0) : Device :=
  { withStores job0 [⟨0x18, 0, 0, 0, 1, leBytes 8 (vword op f0)⟩,
      ⟨0x1B, 0, 0, 255, 1, patches 32 [(8, 2, 2), (12, 6, base), (24, 6, base)]⟩] with
    clusters := [(0, { Cluster.reset with invocation := some invTwo })], mem := [(4420, 7)], damaged := damaged
    dies := Tab.set Die.reset job0.dies 0 { Die.reset with power := power, clock := 0 } }

theorem test_vector_row_memory :
    (rowDev 0x08 4096).AtWord 0 (vword 0x08 f0) invTwo ∧ (rowDev 0x08 4096).readWaits 4416 8 = false ∧
    (rowDev 0x08 4096).sound 4416 8 = true ∧ (rowDev 0x08 4096).backed 4416 8 = true ∧
    lane ((((after (.vIn 0 f0) (rowDev 0x08 4096)).cluster 0).invocation.getD inv0).reg 3) 1 = 7 ∧
    (rowDev 0x08 4096 [69]).sound 4416 8 = false ∧ after (.vIn 0 f0) (rowDev 0x08 4096 [69]) = rowDev 0x08 4096 [69] ∧
    (rowDev 0x08 4096 [] 2).readWaits 4416 8 = true ∧
    (rowDev 0x08 0x031000000000).readWaits (0x031000000000 + 320) 8 = false ∧
    (rowDev 0x08 0x031000000000).backed (0x031000000000 + 320) 8 = false ∧
    (after (.vIn 0 f0) (rowDev 0x08 0x031000000000)).isHeld (.vector 0 0) = true := by decide +kernel

theorem test_vector_row_c :
    (rowDev 0x09 4096).AtWord 0 (vword 0x09 f0) invTwo ∧
    (rowDev 0x09 4096).cRow 0 invTwo 0 2 = some ⟨0, 0, [(0, 0), (7, 0)], some 4416⟩ ∧ (rowDev 0x09 4096).readWaits 4416 1 = false ∧
    (rowDev 0x09 4096).sound 4416 (runBytes 0 2) = true ∧ (rowDev 0x09 4096).backed 4416 1 = true ∧
    lane ((((after (.inc 0 f0) (rowDev 0x09 4096)).cluster 0).invocation.getD inv0).reg 3) 1 = 7 ∧
    (rowDev 0x09 4096 [69]).sound 4416 (runBytes 0 2) = false ∧
    (rowDev 0x09 0x031000000000).backed (0x031000000000 + 320) 1 = false ∧
    (after (.inc 0 f0) (rowDev 0x09 0x031000000000)).isHeld (.vector 0 0) = true := by decide +kernel

def invBase : Invocation := { inv0 with rowBase := some 4096 }
/-- Offset 0, pitch 4, 32 bits. -/
def fOutr : VFields := { f0 with va := 2, imm := 4096 }

theorem test_vector_row_values :
    (vec (0x0D * 2 ^ 56 + 4096) inv0).AtWord 0 (0x0D * 2 ^ 56 + 4096) inv0 ∧
    (((after (.rowbase 0 4096) (vec (0x0D * 2 ^ 56 + 4096) inv0)).cluster 0).invocation.getD inv0).rowBase = some 4096 ∧
    at0 0x0C { fOutr with pg := 2 } invBase ∧ (inv0.pred 2).getLsbD 0 = false ∧
    at0 0x0C fOutr invBase ∧ (vec (vword 0x0C fOutr) invBase).writable (4096 + 5 * 4) 4 = true ∧
    (vec (vword 0x0C fOutr) invBase).writeWaits (4096 + 5 * 4) 4 = false ∧
    (vec (vword 0x0C fOutr) { invBase with rowBase := some 0x031000000000 }).writeWaits (0x031000000000 + 20) 4 = false ∧
    (after (.outr 0 ⟨fOutr, 2⟩) (vec (vword 0x0C fOutr) invBase)).mem = [(4118, 0xC0), (4119, 0x3F)] ∧
    (vec (vword 0x0C fOutr) { invBase with rowBase := some 0x031000000000 }).writable (0x031000000000 + 20) 4 = false ∧
    (after (.outr 0 ⟨fOutr, 2⟩) (vec (vword 0x0C fOutr) { invBase with rowBase := some 0x031000000000 })).isHeld (.vector 0 0) = true ∧
    at0 0x10 ∧ ((after (.str 0 { f0 with va := 2 }) (vec (vword 0x10 { f0 with va := 2 }) inv0)).cluster 0).scratch = [(23, 0x3FC00000)] := by
  decide +kernel

def fOut : VFields := { f0 with va := 2 }
def invOut : Invocation := { inv0 with cols := 2, rho := 0 }
/-- A vector pass with raw FP32 output at the given address. -/
def outDev (base : Nat) : Device :=
  { withStores job0 [⟨0x18, 0, 0, 0, 1, leBytes 8 (vword 0x0A fOut)⟩,
      ⟨0x1B, 0, 0, 255, 1, List.replicate 18 0 ++ leBytes 6 base ++ List.replicate 8 0⟩] with
    clusters := [(0, { Cluster.reset with invocation := some invOut })] }

theorem test_vector_out :
    (outDev 8192).AtWord 0 (vword 0x0A fOut) invOut ∧ ((outDev 8192).vpass 0 0 0).fmtO = 0 ∧ ((outDev 8192).vpass 0 0 0).baseO = 8192 ∧
    ((outDev 8192).outRuns 0 fOut invOut).map (·.1) = [8192, 8196] ∧ (outDev 8192).writable 8192 4 = true ∧
    (outDev 8192).writable 8196 4 = true ∧ (outDev 8192).writeWaits 8192 4 = false ∧ (outDev 8192).writeWaits 8196 4 = false ∧
    (after (.vOut 0 ⟨fOut, 2⟩) (outDev 8192)).mem = [(8194, 0xC0), (8195, 0x3F), (8198, 0xC0), (8199, 0x3F)] ∧
    (outDev 0x031000000000).AtWord 0 (vword 0x0A fOut) invOut ∧
    ((outDev 0x031000000000).outRuns 0 fOut invOut).any (fun r => !(outDev 0x031000000000).writable r.1 r.2.length) = true ∧
    ((outDev 0x031000000000).outRuns 0 fOut invOut).all (fun r => !(outDev 0x031000000000).writeWaits r.1 r.2.length) = true ∧
    (after (.vOut 0 ⟨fOut, 2⟩) (outDev 0x031000000000)).isHeld (.vector 0 0) = true := by decide +kernel

/-- An epilogue row waits for the free unit. -/
def epiPass : Pass :=
  { id := 1, ctx := 0, play := 0, item := 1, table := 0, point := 0, shape := 0, fmtA := 0xA, fmtB := 0xA, k0 := 0, len := 2, rows := 1
    cols := 1, slot := 0, init := true, readout := 3, source := 0, frame := 0, pitch := 64, red := 2, fmtO := 0, walk := false
    stage := 0, group := 0, part := 0, m := 0, n := 0, gOff := 0, addrO := 0x1000, addrC := 0, issued := 1, row := 1, nan := false
    overflowed := false, faulted := false, drained := false }

/-- An epilogue row of two FP32 columns at 0x1000, while its tile is read out, or when it is faulted. -/
def lateDev (faulted : Bool) : Device :=
  { withStores job0 [⟨0x18, 0, 0, 0, 1, leBytes 8 (vword 0x0A fOut)⟩] with clusters := [(0, { Cluster.reset with
    invocation := some { inv0 with kind := 0, r := 0, cols := 1, pass := some epiPass }
    readouts := if faulted then [] else [epiPass], draining := [{ epiPass with faulted := faulted }] })] }

theorem test_vector_out_late :
    (lateDev false).outRuns 0 fOut { inv0 with kind := 0, r := 0, cols := 1, pass := some epiPass } = [(0x1000, [0, 0, 0xC0, 0x3F])] ∧
    (after (.vOut 0 ⟨fOut, 2⟩) (lateDev false)).mem = [] ∧
    ((after (.vOut 0 ⟨fOut, 2⟩) (lateDev false)).cluster 0).outbuf = [(1, 0x1000, [0, 0, 0xC0, 0x3F])] ∧
    Tab.get 0 (after (.vOut 0 ⟨fOut, 2⟩) (lateDev false)).counters (clusterBlock 0 + 0xE8) = 2 ∧
    (after (.vOut 0 ⟨fOut, 2⟩) (lateDev true)).mem = [] ∧ ((after (.vOut 0 ⟨fOut, 2⟩) (lateDev true)).cluster 0).outbuf = [] := by
  decide +kernel

/-- The table of the epilogue: its entry is word 7. -/
def rowRun0 : RowRun := ⟨1, false, 0, 1, 0, false, 3, false⟩
def withItems (c : Cluster) (l : List Item) : Cluster := { c with ctxs := [(0, { Ctx.reset with items := l })] }
def tableRun0 : TableRun := ⟨1, 0, 1, 1, 1, 0, 0, 0, 1⟩

theorem test_vector_start :
    (let s := { job0 with clusters := [(0, { withItems Cluster.reset [.table tableRun0] with epilogue := [⟨epiPass, 0, [7]⟩] })] }
     (s.cluster 0).invocation = none ∧ (s.die 0).power ≠ 2 ∧
     (s.cluster 0).epilogue.find? (fun r => !s.isHeld (.vector 0 r.pass.ctx) &&
       (s.rowItem 0 r.pass.ctx).all (fun i => i.id == r.pass.item)) = some ⟨epiPass, 0, [7]⟩ ∧
     ((after (.vectorInvocationStart 0) s).cluster 0).invocation.map (fun v => (v.kind, v.row)) = some (0, [7]) ∧
     ((after (.vectorInvocationStart 0) s).cluster 0).epilogue = []) := by decide +kernel

/-- A vector pass's row begins with the exponent its group started with (R154); an invocation whose hold has ended goes on. -/
theorem test_vector_start_rows :
    (let s := { withStores job0 [⟨0x1B, 0, 0, 255, 1, patches 32 [(0, 2, 6), (4, 4, 4), (8, 2, 2)]⟩] with
       clusters := [(0, withItems Cluster.reset [.rows rowRun0])] }
     (s.cluster 0).rotation.findSome? (fun k => (s.nextClosing 0 k).map (fun e => (k, e))) = none ∧
     (s.cluster 0).rotation.findSome? (fun k => (s.nextRow 0 k).map (fun e => (k, e))) = some (0, rowRun0) ∧
     ((after (.vectorInvocationStart 0) s).cluster 0).invocation.map (fun v => (v.kind, v.pc, v.rho, v.expo)) = some (1, 6, 0, 3)) ∧
    (let s := { job0 with clusters := [(0, { Cluster.reset with stopped := [inv0] })] }
     (s.cluster 0).stopped.find? (fun v => !s.isHeld (.vector 0 v.ctx)) = some inv0 ∧
     (after (.vectorInvocationStart 0) s).cluster 0 = { Cluster.reset with invocation := some inv0 }) := by decide +kernel

theorem test_vector_invocations :
    at0 0x01 ∧ ((after (.vEnd 0 f0) (vec (vword 0x01 f0) inv0)).cluster 0).invocation = none ∧
    (let s := vec 0 { inv0 with executed := 8192 }
     (s.cluster 0).invocation = some { inv0 with executed := 8192 } ∧ s.isHeld (.vector 0 0) = false ∧ s.log.entries.length < 4096 ∧
     (after (.vecRunaway 0) s).isHeld (.vector 0 0) = true ∧
     ((after (.vectorInvocationStart 0) (after (.vecRunaway 0) s)).cluster 0).stopped = [{ inv0 with executed := 8192 }] ∧ ((after (.vecRunaway 0) s).log.entries.map (·.code)) = [0x0304]) := by
  decide +kernel

/-! ## The array and its dispatcher -/

/-- A 1 x 1 table of two INT8 products with raw output at 0x1000; A and B in the cluster's own store, or B shared. -/
def tabBytes (flags : Nat) : List Byte :=
  patches 256 ([(4, 1, 0xAA), (5, 1, flags), (6, 1, 4), (9, 1, 1), (10, 2, 1), (12, 2, 2), (22, 6, 4096), (34, 6, 0x1000), (48, 4, 1),
    (54, 2, 1), (56, 2, 1), (58, 2, 1), (60, 4, 1), (64, 4, 1), (72, 4, 1)] ++ (List.range 5).map (fun i => (101 + 32 * i, 1, 255)))
def tabOwn : List Byte := tabBytes 0xDD
def tabShared : List Byte := tabBytes 0x5D

def run0 : TableRun :=
  { item := 1, num := 0, lenM := 1, lenN := 1, lenK := 2, rank := 0, pos := 0, cNext := 0, outstanding := 0 }

/-- The pass of that table: 2 x 4 + 3 x 5 = 23. -/
def pass0 : Pass :=
  { id := 1, ctx := 0, play := 0, item := 1, table := 0, point := 0, shape := 0, fmtA := 0xA, fmtB := 0xA, k0 := 0, len := 2, rows := 1
    cols := 1, slot := 0, init := true, readout := 0, source := 0, frame := 0, pitch := 64, red := 2, fmtO := 0, walk := false
    stage := 0, group := 0, part := 0, m := 0, n := 0, gOff := 0, addrO := 0x1000, addrC := 0, issued := 0, row := 0, nan := false
    overflowed := false, faulted := false, drained := false }
def block0 : WBlock :=
  { ctx := 0, item := 1, point := 0, half := 0, feed := ⟨0, 64, 0xA, 0, 0, 2, 1⟩, bytes := 2, used := 0, slices := [[⟨4, 0⟩], [⟨5, 0⟩]] }

/-- Cluster 0 as given, one table, A = [2, 3] in the first frame. -/
def arr (tab : List Byte) (c : Cluster) : Device :=
  { withStores job0 [⟨0x10, 0, 255, 255, 1, tab⟩] with
    clusters := [(0, c)], mem := [(winBase + 0x300000, 2), (winBase + 0x300001, 3)] }
def ctxOf (l : List Item) : Tab Ctx := [(0, { Ctx.reset with items := l })]

theorem test_array_issue :
    (let s := arr tabOwn { Cluster.reset with issuing := [pass0], queue := [block0] }
     firstOfHalf (s.cluster 0).issuing 0 = some pass0 ∧ s.arrayHeld 0 0 = false ∧ (s.cluster 0).blockOf pass0 = some block0 ∧
     cycleIndices 0xA 2 0 = [0, 1] ∧ issueCycles 0xA 2 = 1 ∧
     (after (.arrayIssueCycle 0 0 1 ⟨0, 2⟩) s).read (accAddr 0 0 0) 4 = [23, 0, 0, 0] ∧
     ((after (.arrayIssueCycle 0 0 1 ⟨0, 2⟩) s).cluster 0).issuing = [] ∧ ((after (.arrayIssueCycle 0 0 1 ⟨0, 2⟩) s).cluster 0).queue = [] ∧
     ((after (.arrayIssueCycle 0 0 1 ⟨0, 2⟩) s).cluster 0).draining.map (·.issued) = [1] ∧
     (after (.arrayIssueCycle 0 0 1 ⟨0, 2⟩) s).counters =
       [(clusterBlock 0 + 0x40, 1), (clusterBlock 0 + 0x48, 1), (clusterBlock 0 + 0x58, 2)]) ∧
    (let s := arr tabOwn { Cluster.reset with issuing := [pass0], queue := [block0], readouts := [{ pass0 with id := 9 }] }
     after (.arrayIssueCycle 0 0 0 ⟨0, 0⟩) s = s) := by decide +kernel

def passRaw : Pass := { pass0 with readout := 1, issued := 1 }
def passEpi : Pass := { pass0 with readout := 3, issued := 1 }
def passTwo : Pass := { pass0 with readout := 1, issued := 1, rows := 2 }

theorem test_array_complete :
    (let s := arr tabOwn { Cluster.reset with draining := [pass0] }
     (s.cluster 0).draining.find? (fun p => p.half == 0 && !p.drained) = some pass0 ∧
     ((after (.passComplete 0 0) s).cluster 0).draining = []) ∧
    (let s := arr tabOwn { Cluster.reset with draining := [{ passEpi with len := 0 }] }
     ((after (.passComplete 0 0) s).cluster 0).draining.map (·.drained) = [true] ∧
     Tab.get 0 (after (.passComplete 0 0) s).counters (clusterBlock 0 + 0x80) = 1) := by decide +kernel

theorem test_array_readout :
    (let s := arr tabOwn { Cluster.reset with readouts := [passEpi] }
     firstOfHalf (s.cluster 0).readouts 0 = some passEpi ∧ (s.cluster 0).queueUnits 0 + 1 ≤ 64 ∧
     ((after (.readoutRow 0 0 0) s).cluster 0).epilogue.length = 1 ∧ ((after (.readoutRow 0 0 0) s).cluster 0).readouts = []) ∧
    (let s := arr tabOwn { Cluster.reset with readouts := [passEpi], epilogue := List.replicate 64 ⟨passEpi, 0, [0]⟩ }
     64 < (s.cluster 0).queueUnits 0 + 1 ∧ after (.readoutRow 0 0 0) s = s) ∧
    (let s := arr tabOwn { Cluster.reset with readouts := [passTwo] }
     firstOfHalf (s.cluster 0).readouts 0 = some passTwo ∧ passTwo.row + 1 < passTwo.rows ∧
     ((after (.readoutRow 0 0 0) s).cluster 0).readouts.map (·.row) = [1]) ∧
    (let s := arr tabOwn { Cluster.reset with readouts := [{ passRaw with readout := 5, item := 4, group := 2 }] }
     ((after (.readoutRow 0 0 0) s).cluster 0).pipe = [⟨4, 2, 0, 0, 0, [0]⟩] ∧ ((after (.readoutRow 0 0 0) s).cluster 0).readouts = []) := by
  decide +kernel

theorem test_array_store :
    (let s := { arr tabOwn { Cluster.reset with readouts := [passRaw] } with mem := [(accAddr 0 0 0, 23)] }
     firstOfHalf (s.cluster 0).readouts 0 = some passRaw ∧ s.writable 0x1000 4 = true ∧ s.writeWaits 0x1000 4 = false ∧
     (s.rowOut 0 (s.table 0 0) passRaw 1 0 0 [some 23]).runs = [(0x1000, [23, 0, 0, 0])] ∧
     (after (.readoutRow 0 0 0) s).mem = [(0x1000, 23), (accAddr 0 0 0, 23)]) ∧
    (let s := arr tabOwn { Cluster.reset with readouts := [{ passRaw with addrO := 0x031000000000 }] }
     s.writable 0x031000000000 4 = false ∧ s.writeWaits 0x031000000000 4 = false ∧ s.isHeld (.context 0 0) = false ∧
     (after (.readoutRow 0 0 0) s).isHeld (.context 0 0) = true) := by decide +kernel

/-- A walk's item needs brim (R111). -/
def walk0 : WalkRun :=
  { item := 1, num := 0, nAct := 1, rank := 0, size := 1, block := 0, pos := 0, cursor := 0, pair := [], pairs := 0, opened := []
    groupIndex := 0, nextId := 1, groups := [], closing := [], skipped := [], sawKey := [], emitted := false, nextSlot := 0
    prepared := none, nan := false, requeue := false, seq := 0 }

theorem test_array_shape :
    (let s := arr tabOwn { Cluster.reset with ctxs := ctxOf [.walk walk0] }
     ((List.range 4).filterMap (s.headShape 0)).find? (fun x => x != (s.cluster 0).shape) = some 1 ∧ (s.cluster 0).inFlight = [] ∧
     s.arrayHeld 0 0 = false ∧ s.arrayHeld 0 1 = false ∧ ((after (.shapeChange 0) s).cluster 0).target = some 1) ∧
    (let s := arr tabOwn { Cluster.reset with target := some 1 }
     ((after (.shapeReconfigDone 0) s).cluster 0).shape = 1 ∧ ((after (.shapeReconfigDone 0) s).cluster 0).target = none) := by
  decide +kernel

def armed (tab : List Byte) : Device := arr tab { Cluster.reset with ctxs := ctxOf [.table run0] }
theorem test_weight_fill :
    ((armed tabOwn).nextFetch 0 0).map (fun f => (f.item, f.point, f.feed.addr, f.feed.len, f.feed.cols, f.feed.size)) =
      some (1, 0, winBase + 4096, 2, 1, 2) ∧ (armed tabOwn).feedsLocal 0 0 1 = true ∧
    ((armed tabOwn).cluster 0).shapeOpen 0 = true ∧ (armed tabOwn).isHeld (.context 0 0) = false ∧
    2 ≤ ((armed tabOwn).cluster 0).queueFree 0 0 ∧ (armed tabOwn).readWaits (winBase + 4096) 1 = false ∧
    (armed tabOwn).sound (winBase + 4096) 2 = true ∧ (armed tabOwn).backed (winBase + 4096) 2 = true ∧
    (armed tabOwn).clusterStopped 0 = false ∧
    ((after (.weightQueueFill 0 0 1) (armed tabOwn)).cluster 0).queue.map (fun b => (b.bytes, b.slices.length)) = [(1, 1)] ∧
    ((after (.weightQueueFill 0 0 512) (armed tabOwn)).cluster 0).queue.map (fun b => (b.bytes, b.slices.length)) = [(2, 2)] := by
  decide +kernel

theorem test_frame_load :
    ((armed tabOwn).frameAhead 0 run0 (tableOf tabOwn) none (4 * (tableOf tabOwn).frames.2.2 + 1024) 0 []).isSome = true ∧
    ((armed tabOwn).cluster 0).freeFrame 0 64 2048 [] = some 0 ∧ (armed tabOwn).window 0 0 = none ∧
    (tableOf tabOwn).frames = (0, 64, 2048) ∧ (armed tabOwn).backed winBase 2 = true ∧
    (armed tabOwn).clusterStopped 0 = false ∧ (armed tabOwn).readWaits winBase 1 = false ∧ (armed tabOwn).readWaits (winBase + 1) 1 = false ∧
    ((after (.frameLoad 0 0) (armed tabOwn)).cluster 0).frames.map (fun f => (f.off, f.bytes, f.fresh)) = [(0, 64, true)] := by
  decide +kernel

def issue0 : Issue :=
  { id := 1, kind := 1, index := 0, ctx := 0, play := 0, token := 0xFFFF, members := [0], deferred := false, statsHeld := false, lens := []
    maskedAt := none }

/-- One member's issue of a table whose B, or whose C of one FP32 column at 0x2000, comes by multicast. -/
def castDev (tab : List Byte) : Device := { armed tab with quads := [(0, { Quadrant.reset with issues := [issue0] })] }

theorem test_multicast :
    (let s := castDev tabShared
     s.castIssues 0 0 0 = [issue0] ∧ issue0.members.Nodup ∧ s.isHeld (.multicast 0 0 0) = false ∧
     (nextCast (issue0.members.filterMap (fun c => s.memberNeed (gOf 0 0 c) 0 1))).map (fun e =>
       (e.g, e.here, e.fetch.feed.addr, e.fetch.feed.size, e.fetch.feed.cols)) = [(0, true, 4096, 2, 1)] ∧
     (s.cluster 0).shapeOpen 0 = true ∧ s.clusterStopped 0 = false ∧ s.readWaits 4096 1 = false ∧ s.sound 4096 2 = true ∧
     s.backed 4096 2 = true ∧ (s.cluster 0).queue = [] ∧ 2 ≤ (s.cluster 0).queueFree 0 0 ∧
     ((after (.multicastDelivery 0 0 0 [(0, 5)]) s).cluster 0).queue.map (·.bytes) = [2] ∧
     Tab.get 0 (after (.multicastDelivery 0 0 0 [(0, 5)]) s).counters (clusterBlock 0 + 0xC0) = 5) ∧
    (let s := { castDev tabShared with clusters := [(0, { Cluster.reset with ctxs := [(0, { Ctx.reset with other := [.table run0] })] })] }
     (nextCast (issue0.members.filterMap (fun c => s.memberNeed (gOf 0 0 c) 0 1))).map (·.here) = [false] ∧
     after (.multicastDelivery 0 0 0 []) s = s) := by decide +kernel

def tabCast : List Byte := patch (patch tabOwn 6 [0x90]) 28 (leBytes 6 0x2000)

theorem test_multicast_c :
    (let s := { castDev tabCast with mem := [(0x2000, 6)] }
     s.castIssues 0 0 0 = [] ∧ (s.quad 0 0).issues.filter (fun i => i.ctx == 0 && i.kind == 1 &&
       (let t := s.table 0 i.index; t.cPresent && t.reuseC == 1)) = [issue0] ∧
     ((run0.nextC (tableOf tabCast) 4096 0).map (fun e => (e.1, e.2.rows, e.2.cols))) = some (0, 1, 1) ∧
     (s.cluster 0).sides = [] ∧ s.readWaits 0x2000 1 = false ∧ s.backed 0x2000 1 = true ∧ s.sound 0x2000 4 = true ∧
     ((after (.multicastDelivery 0 0 0 [(0, 5)]) s).cluster 0).sides = [⟨0, 1, 0, [[(6, 0)]]⟩]) := by decide +kernel

/-- The table's pass can start: its frame is loaded and its stripe holds 100 nJ. -/
def readyPass : Device :=
  let s := after (.frameLoad 0 0) (armed tabOwn)
  { s with stripes := [(0, { Stripe.reset with pool := 100 })] }
def readyRows : Device :=
  { withStores job0 [⟨0x1B, 0, 0, 255, 1, patches 32 [(4, 3, 3), (8, 2, 64)]⟩] with
    clusters := [(0, { Cluster.reset with ctxs := ctxOf [.rows ⟨1, false, 0, 0, 0, false, 0, false⟩] })]
    stripes := [(0, { Stripe.reset with pool := 100 })] }

theorem test_item_start :
    (readyPass.headReady 0 0 false).isSome = true ∧ (∀ j, j < 4 → readyPass.noteHead 0 j = readyPass) ∧
    (∀ j, j < 4 → (readyPass.ctx 0 j).priority = false) ∧
    (readyPass.headReady 0 0 false).map (readyPass.charge 0) = some 1 ∧
    ((after (.itemStart 0 false [0]) readyPass).stripe 0).pool = 99 ∧
    ((after (.itemStart 0 false [0]) readyPass).cluster 0).issuing.length = 1 ∧
    (readyRows.headReady 0 0 true).isSome = true ∧ (∀ j, j < 4 → readyRows.noteHead 0 j = readyRows) := by decide +kernel

/-- The same with an empty pool, in the Full profile. -/
def dry : Device := { readyPass with stripes := [] }

theorem test_item_start_dry :
    (dry.headReady 0 0 false).isSome = true ∧ (∀ j, j < 4 → dry.noteHead 0 j = dry) ∧ (dry.stripe 0).pool < 1 ∧ 1 ≤ dry.poolCap 0 ∧
    (∀ j, j < 4 → j ≠ 0 → dry.headReady 0 j false = none) ∧ ((after (.itemStart 0 false [0]) dry).ctx 0 0).energyHeld = true ∧
    (let s := after (.itemStart 0 false [0]) dry
     (s.headReady 0 0 false).isSome = true ∧ (s.ctx 0 0).priority = false ∧ (s.ctx 0 0).starved = false ∧
     ((after (.priorityRequest 0 0 false) s).stripe 0).priorities = [requestKey 0 0] ∧
     ((after (.pwrCreditStarved 0 0 false) s).log.entries.map (·.code)) = [0x0C04]) := by decide +kernel

theorem test_context :
    (let s := { readyPass with log := { ErrLog.reset with holds := [⟨Code.arrFormatUnavailable, 0, 0, 0, .context 0 0⟩] } }
     s.formatOk (tableOf tabOwn).fmtA = true ∧ (s.head 0 0).isSome = true ∧ (after (.formatHoldRelease 0 0) s).log.holds = []) ∧
    (let s := arr tabOwn { Cluster.reset with ctxs := [(0, { Ctx.reset with items := [.table run0], other := [.table { run0 with item := 2 }] })] }
     s.atBoundary 0 0 = true ∧ ((after (.contextRotation 0 0) s).ctx 0 0).items.map Item.id = [2] ∧
     ((after (.contextRotation 0 0) s).ctx 0 0).resident = 1) := by decide +kernel

/-- A move of 512 bytes from 0 to 1024, posting token 3. -/
def move0 : List Byte := patches 32 [(6, 6, 1024), (12, 4, 512), (16, 2, 0xFFFF), (18, 2, 3), (20, 4, 0xFFFFFFFF)]
def moving (m : MoveRun) : Device :=
  { withStores job0 [⟨0x1A, 0, 0, 255, 1, move0⟩] with mem := [(511, 9)], quads := [(0, { Quadrant.reset with moves := [m] })] }

theorem test_moves :
    (let s := moving ⟨0, 0, 0, none, true, false⟩
     s.freeEngine 0 0 = some 0 ∧ s.moveEligible 0 0 ⟨0, 0, 0, none, true, false⟩ = true ∧ s.running = true ∧ s.dieParked 0 = false ∧
     s.backed 0 512 = true ∧ s.writable 1024 512 = true ∧
     ((after (.moveStart 0 0) s).quad 0 0).moves = [⟨0, 0, 0, some 0, true, false⟩]) ∧
    (let s := moving ⟨0, 0, 0, some 0, true, false⟩
     s.isHeld (.move 0 0 0) = false ∧ s.readWaits 0 512 = false ∧ s.writeWaits 1024 512 = false ∧
     (after (.moveComplete 0 0 0) s).mem = [(511, 9), (1535, 9)] ∧ ((after (.moveComplete 0 0 0) s).quad 0 0).moves = [] ∧
     (after (.moveComplete 0 0 0) s).tokenStep 3 = 1) ∧
    (let s := { moving ⟨0, 0, 0, some 0, true, false⟩ with
        job := { job0.job with stores := [⟨0x1A, 0, 0, 255, 1, patch move0 0 (leBytes 6 0x031000000000)⟩] } }
     s.readWaits 0x031000000000 512 = false ∧ s.writeWaits 1024 512 = false ∧ s.backed 0x031000000000 512 = false ∧
     (after (.moveComplete 0 0 0) s).isHeld (.move 0 0 0) = true) ∧
    (let s := (moving ⟨0, 0, 0, some 0, true, false⟩).modDie 0 (fun x => { x with power := 2 })
     s.waitsForDie 0 ≠ none ∧ after (.moveComplete 0 0 0) s = s) := by decide +kernel

theorem test_memory_reads :
    (job0.regionOf 128).isSome = true ∧ (job0.memIndex 128).1 = 0 ∧ job0.regionOf 0x031000000000 = none ∧
    after (.memoryReadReturn (.vector 0 0) .hbm 128 .clean) job0 = job0 ∧
    (after (.memoryReadReturn (.vector 0 0) .hbm 128 .uncorrectable) job0).damaged = [2] ∧
    (job0.consumerAt (.vector 0 0)).isSome = true ∧
    (after (.memoryReadReturn (.vector 0 0) .hbm 128 .uncorrectable) job0).isHeld (.vector 0 0) = true ∧
    (let s := { job0 with mem := [(128, 5)] }
     (after (.memoryReadReturn (.vector 0 0) .hbm 128 (.undetected 0x101)) s).mem = [(128, 4), (129, 1)]) ∧
    (let s := after (.memoryReadReturn (.vector 0 0) .hbm 128 .uncorrectable) job0
     128 / 64 ∈ s.damaged ∧ Tab.get 0 (after (.memoryReadReturn (.vector 0 0) .hbm 128 .clean) s).counters 0x60200 = 2) := by decide +kernel

/-- Damage to an accumulator of a pass being read out faults its tile and holds the array (R113). -/
theorem test_memory_reads_array :
    (let s := arr tabOwn { Cluster.reset with readouts := [passRaw], epilogue := [⟨passRaw, 0, [0]⟩] }
     s.passOf 0 0 (accAddr 0 0 0) .accumulator = some passRaw ∧ s.isHeld (.array 0 0) = false ∧
     (after (.memoryReadReturn (.array 0 0) .accumulator (accAddr 0 0 0) .uncorrectable) s).isHeld (.array 0 0) = true ∧
     ((after (.memoryReadReturn (.array 0 0) .accumulator (accAddr 0 0 0) .uncorrectable) s).cluster 0).epilogue = [] ∧
     ((after (.memoryReadReturn (.array 0 0) .accumulator (accAddr 0 0 0) .uncorrectable) s).cluster 0).readouts.map (·.faulted) =
       [true]) := by decide +kernel

def scrubOp : Op :=
  { handle := 5 * 2 ^ 24 + 1, state := 0, reason := 0, hostSuspended := false, code := 0, passed := 0, total := 1, step := 0, lo := 0
    hi := 0x100000, next := 0 }

theorem test_scrubs :
    up.dieServes 0 = true ∧ up.dieParked 0 = false ∧ ((after (.patrolScrubGranule 0 [(7, .uncorrectable)]) up).die 0).patrol = 1 ∧
    (after (.patrolScrubGranule 0 [(7, .uncorrectable)]) up).damaged = [7] ∧
    ((after (.patrolScrubGranule 4 []) up).pdie 0).patrol = 1 ∧
    ({ up with dies := [(0, { Die.reset with power := 2 })] } : Device).dieParked 0 = true ∧
    (let s := { up with ops := [scrubOp] }
     s.waitsForDie 0 = none ∧ s.backed 0 0x100000 = true ∧
     (after (.hostScrubChunk 1 []) s).endedOps.map (fun o => (o.state, o.passed)) = [(4, 1)]) ∧
    (let s := { up with ops := [{ scrubOp with hi := 0x200000 }] }
     (after (.hostScrubChunk 1 [(64, .uncorrectable)]) s).ops.map (·.next) = [0x100000] ∧
     (after (.hostScrubChunk 1 [(64, .uncorrectable)]) s).damaged = [1]) := by decide +kernel

/-! ## Job programs -/

/-- Play 0 of quadrant 0 of die 0. -/
def cmd (token index imm : Nat) (deferred : Bool := false) : ProgCmd :=
  { d := 0, q := 0, play := 0, deferred := deferred, token := token, index := index, imm := BitVec.ofNat 64 imm }
/-- The command's bytes as R354 lays them out. -/
def cmdBytes (op : Nat) (c : ProgCmd) : List Byte :=
  leBytes 1 op ++ leBytes 1 (c.play + if c.deferred then 8 else 0) ++ leBytes 2 c.token ++ leBytes 4 c.index ++ leBytes 8 c.imm.toNat
/-- A quadrant whose program is one command, with the stores `l`. -/
def prog (op : Nat) (c : ProgCmd) (l : List Section := []) : Device :=
  withStores job0 (⟨0x19, 0, 0, 255, 1, leBytes 4 1 ++ List.replicate 316 0 ++ cmdBytes op c⟩ :: l)
def pos0 (s : Device) : Nat := (s.play 0 0 0).pos

theorem test_prog_registers :
    (prog 0x00 (cmd 0 0 0)).canTake 0x00 (cmd 0 0 0) = some 0 ∧ pos0 (after (.programNop (cmd 0 0 0)) (prog 0x00 (cmd 0 0 0))) = 1 ∧
    (prog 0x0A (cmd 5 0 77)).canTake 0x0A (cmd 5 0 77) = some 0 ∧
    ((after (.setr (cmd 5 0 77)) (prog 0x0A (cmd 5 0 77))).quad 0 0).regs = [(5, 77)] ∧
    (let s := { prog 0x0B (cmd 5 0 64) with mem := [(65, 1)] }
     s.canTake 0x0B (cmd 5 0 64) = some 0 ∧ s.startHeld 0 0 0 = false ∧ s.readWaits 64 4 = false ∧ s.backed 64 4 = true ∧
     s.sound 64 4 = true ∧ after (.loadr (cmd 5 0 64)) { s with damaged := [1] } = { s with damaged := [1] } ∧
     ((after (.loadr (cmd 5 0 64)) s).quad 0 0).regs = [(5, 256)]) ∧
    (let c := cmd 5 0 0x031000000000
     (prog 0x0B c).canTake 0x0B c = some 0 ∧ (prog 0x0B c).readWaits 0x031000000000 4 = false ∧
     (prog 0x0B c).backed 0x031000000000 4 = false ∧ (after (.loadr c) (prog 0x0B c)).isHeld (.tableStart 0 0 0) = true) := by
  decide +kernel

theorem test_prog_tokens :
    (prog 0x09 (cmd 7 0 0)).canTake 0x09 (cmd 7 0 0) = some 0 ∧ (after (.post (cmd 7 0 0)) (prog 0x09 (cmd 7 0 0))).tokenStep 7 = 1 ∧
    (let c := cmd 0xF001 0 0
     (after (.post c) (prog 0x09 c)).streamTokens = [(0xF001, 1)] ∧
     (let s := { prog 0x08 c with streamTokens := [(0xF001, 2)] }
      s.canTake 0x08 c = some 0 ∧ s.tokenMet 0xF001 0 = true ∧ (after (.wait c) s).streamTokens = [(0xF001, 1)]) ∧
     (let s := prog 0x08 c
      s.canTake 0x08 c = some 0 ∧ s.tokenMet 0xF001 0 = false ∧ ((after (.wait c) s).play 0 0 0).waiting = some c ∧
      (let t := after (.wait c) s
       (t.nextCmd 0 0 0).map (·.1) = some 0 ∧ t.running = true ∧ after (.waitSatisfied 0 0 0) t = t ∧
       pos0 (after (.waitSatisfied 0 0 0) { t with streamTokens := [(0xF001, 1)] }) = 1))) := by decide +kernel

def vcmd : ProgCmd := cmd 9 0 0 true
/-- A play that stands before a DRAIN with one deferred vector pass, or wait, queued. -/
def queued (op : Nat) (c : ProgCmd) : Device :=
  let s := prog 0x10 (cmd 0 0 0)
  s.modPlay 0 0 0 (fun p => { p with deferredQ := [(op, c)] })

theorem test_prog_drain :
    (let c := cmd 0 0 0
     (prog 0x10 c).canTake 0x10 c = some 0 ∧ (prog 0x10 c).drained 0 0 0 = true ∧ pos0 (after (.drain c) (prog 0x10 c)) = 1 ∧
     (queued 3 vcmd).canTake 0x10 c = some 0 ∧ (queued 3 vcmd).drained 0 0 0 = false ∧
     ((after (.drain c) (queued 3 vcmd)).play 0 0 0).draining = true ∧
     (let t := { after (.drain c) (queued 3 vcmd) with quads := [(0, { Quadrant.reset with plays := [(0, { Play.reset with draining := true })] })] }
      (t.nextCmd 0 0 0).map (·.1) = some 0 ∧ t.drained 0 0 0 = true ∧ pos0 (after (.drainSatisfied 0 0 0) t) = 1)) ∧
    (queued 3 vcmd).blocked 0 0 0 = true ∧ (queued 3 vcmd).deferredBusy 0 0 0 = false ∧ (queued 3 vcmd).running = true ∧
    ((after (.deferredIssue 0 0 0) (queued 3 vcmd)).quad 0 0).issues.map (·.token) = [9] ∧
    (queued 8 vcmd).tokenMet 9 0 = false ∧ after (.deferredIssue 0 0 0) (queued 8 vcmd) = queued 8 vcmd ∧
    (let s := { queued 8 vcmd with stepTokens := [(9, 2)] }
     s.tokenMet 9 0 = true ∧ ((after (.deferredIssue 0 0 0) s).play 0 0 0).deferredQ = []) := by decide +kernel

theorem test_prog_step_end :
    (let c := cmd 0 0 0
     let s := prog 0x11 c
     (s.programCmds 0 0).getLast?.map (fits 0x11 c) = some true ∧ s.running = true ∧ (s.die 0).power ≤ 1 ∧
     (∀ p, p < 8 → s.nextCmd 0 0 p = none ∧ (s.play 0 0 p).stands = false ∧ (s.play 0 0 p).deferredQ = []) ∧
     ((after (.stepEnd c) s).quad 0 0).ended = true) := by decide +kernel

/-- A table of 64 rows at most, whose length comes from register 1. -/
def tabReg : List Byte := patch (patch tabOwn 64 (leBytes 4 64)) 70 (leBytes 1 0x81)
def tabDev (c : ProgCmd) (tab : List Byte) (len : Nat) : Device :=
  { prog 0x01 c [⟨0x10, 0, 255, 255, 1, tab⟩] with quads := [(0, { Quadrant.reset with regs := [(1, BitVec.ofNat 32 len)] })] }

theorem test_prog_table :
    (let c := cmd 7 0 0
     let s := tabDev c tabReg 2
     s.canTake 0x01 c = some 0 ∧ s.startHeld 0 0 0 = false ∧ s.badLength 0 0 (tableOf tabReg) = none ∧ s.window 0 0 = none ∧
     effLen (tableOf tabReg) none [(1, 2)] 0 = 2 ∧ effLen (tableOf tabReg) none [(1, 2)] 1 ≠ 0 ∧
     ((after (.table c) s).quad 0 0).issues.map (·.lens) = [[2, 1, 2]] ∧ ((after (.table c) s).ctx 0 0).items.length = 1) ∧
    (let c := cmd 7 0 0
     let s := tabDev c tabReg 0
     effLen (tableOf tabReg) none [] 0 = 0 ∧ s.canTake 0x01 c = some 0 ∧ s.badLength 0 0 (tableOf tabReg) = none ∧
     (after (.table c) s).tokenStep 7 = 1) ∧
    (let c := cmd 7 0 0
     let s := tabDev c tabReg 65
     (s.badLength 0 0 (tableOf tabReg)).isSome = true ∧ (after (.table c) s).isHeld (.tableStart 0 0 0) = true) ∧
    (let c := cmd 7 0 0 true
     (tabDev c tabReg 2).canTake 0x01 c = some 0 ∧ ((after (.table c) (tabDev c tabReg 2)).play 0 0 0).deferredQ = [(1, c)]) := by
  decide +kernel

theorem test_prog_table_done :
    (let s := { arr tabOwn { Cluster.reset with ctxs := ctxOf [.table { run0 with pos := 1 }] } with
        quads := [(0, { Quadrant.reset with issues := [{ issue0 with token := 7 }] })] }
     s.tableFinished 0 0 { issue0 with token := 7 } = true ∧ (after (.tableComplete 0 0 0) s).tokenStep 7 = 1 ∧
     ((after (.tableComplete 0 0 0) s).ctx 0 0).items = []) := by decide +kernel

/-- Geometry: FP16 pages of width 64, 512 tokens; a walk of cluster 0 whose length is in register 1. -/
def geo0 : List Byte := patches 64 [(0, 1, 1), (1, 1, 1), (3, 1, 64), (4, 4, 512), (8, 4, 128), (12, 4, 128), (16, 6, 0x100000), (28, 2, 0)]
def walkBytes (kind : Nat) : List Byte := patches 128 [(3, 1, kind), (16, 1, 1), (20, 4, 1)]
def walkDev (c : ProgCmd) (kind n : Nat) : Device :=
  { prog 0x02 c [⟨0x12, 0, 255, 255, 1, geo0⟩, ⟨0x13, 0, 255, 255, 1, walkBytes kind⟩] with
    quads := [(0, { Quadrant.reset with regs := [(1, BitVec.ofNat 32 n)] })] }

theorem test_prog_walk :
    (let c := cmd 7 0 0
     let s := walkDev c 0 16
     s.canTake 0x02 c = some 0 ∧ (s.geometry 0).nCap = 512 ∧ (s.walkRec 0 0).reg = 1 ∧ s.statsOk 0 (s.walkRec 0 0) = true ∧
     ((after (.walk c) s).quad 0 0).issues.map (·.lens) = [[16]] ∧ ((after (.walk c) s).ctx 0 0).items.length = 1 ∧
     (walkDev c 1 16).canTake 0x02 c = some 0 ∧ (walkDev c 1 16).statsOk 0 ((walkDev c 1 16).walkRec 0 0) = false ∧
     (after (.walk c) (walkDev c 1 16)).isHeld (.walkStats 0 0 0) = true ∧
     (after (.walk c) (walkDev c 0 513)).isHeld (.tableStart 0 0 0) = true) := by decide +kernel

theorem test_prog_items :
    (let c := cmd 7 0 3
     (prog 0x03 c).canTake 0x03 c = some 0 ∧ ((after (.vpass c) (prog 0x03 c)).ctx 3 0).items = [.rows ⟨1, false, 0, 0, 0, false, 0, false⟩] ∧
     (prog 0x04 c).canTake 0x04 c = some 0 ∧ ((prog 0x04 c).fieldDesc 0 0 0).rows = 0 ∧
     (after (.field c) (prog 0x04 c)).tokenStep 7 = 1 ∧
     Tab.get 0 (after (.field c) (prog 0x04 c)).counters (clusterBlock 3 + 0x110) = 1 ∧
     (let s := prog 0x04 c [⟨0x1C, 0, 0, 255, 1, patches 64 [(0, 1, 1), (4, 4, 4), (8, 4, 1), (12, 4, 1), (16, 4, 1), (20, 4, 1), (24, 4, 1), (28, 4, 1)]⟩]
      s.canTake 0x04 c = some 0 ∧ (s.fieldDesc 0 0 0).rows ≠ 0 ∧ ((after (.field c) s).ctx 3 0).items = [.rows ⟨1, true, 0, 0, 0, false, 0, false⟩]) ∧
     (prog 0x06 c).canTake 0x06 c = some 0 ∧ ((after (.move c) (prog 0x06 c)).quad 0 0).moves = [⟨0, 0, 0, none, false, false⟩] ∧
     (prog 0x07 c).canTake 0x07 c = some 0 ∧ ((after (.tour c) (prog 0x07 c)).die 0).tours = [(0, 7)]) ∧
    (let c := cmd 7 0 0
     let s := { prog 0x06 c with quads := [(0, { Quadrant.reset with moves := List.replicate 64 ⟨0, 0, 0, none, false, false⟩ })] }
     64 ≤ (s.quad 0 0).moves.length ∧ after (.move c) s = s) := by decide +kernel

/-- A seal of local page 0 by a register's length, without marks. -/
def sealDev (c : ProgCmd) (n : Nat) : Device :=
  { prog 0x05 c [⟨0x12, 0, 255, 255, 1, geo0⟩, ⟨0x1D, 0, 0, 255, 1, patches 16 [(4, 4, 1), (8, 1, 1)]⟩] with
    quads := [(0, { Quadrant.reset with regs := [(1, BitVec.ofNat 32 n)] })] }

theorem test_seal :
    (let c := cmd 7 0 0
     let s := sealDev c 5
     s.canTake 0x05 c = some 0 ∧ (s.quad 0 0).seals = [] ∧ s.sealBlocked 0 0 0 = false ∧ sealPages (s.sealBytes 0 0 0) = [0] ∧
     ((after (.seal c) s).page 0 0).filled = 5 ∧ ((after (.seal c) s).page 0 0).state = 1 ∧ (after (.seal c) s).tokenStep 7 = 1 ∧
     (sealDev c 0).sealBlocked 0 0 0 = false ∧ ((after (.seal c) (sealDev c 0)).page 0 0).state = 0) ∧
    (let c := cmd 7 0 0
     let s := { sealDev c 5 with quads := [(0, { Quadrant.reset with issues := [{ issue0 with kind := 2, lens := [16] }] })] }
     s.canTake 0x05 c = some 0 ∧ s.sealBlocked 0 0 0 = true ∧ ((after (.seal c) s).quad 0 0).seals = [(0, 7)] ∧
     after (.sealResume 0 0) (after (.seal c) s) = after (.seal c) s ∧
     (let t := { s with quads := [(0, { Quadrant.reset with regs := [(1, 5)], seals := [(0, 7)] })] }
      t.sealBlocked 0 0 0 = false ∧ t.dieStopped 0 = false ∧ sealPages (t.sealBytes 0 0 0) = [0] ∧ (after (.sealResume 0 0) t).tokenStep 7 = 1)) := by
  decide +kernel

theorem test_stage_commands :
    (let c := cmd 7 16 4096
     (prog 0x0C c).canTake 0x0C c = some 0 ∧ (prog 0x0C c).sendsDone false = (prog 0x0C c).transferNumber 0x0C 0 0 0 ∧
     (after (.sendAct c) (prog 0x0C c)).job.transfers = [⟨false, true, 0, 4096, 16, 0, 7, 0, 0, 0⟩] ∧
     (prog 0x0D c).canTake 0x0D c = some 0 ∧ (prog 0x0D c).sendsDone true = (prog 0x0D c).transferNumber 0x0D 0 0 0 ∧
     (after (.sendGrad c) (prog 0x0D c)).job.transfers.length = 1 ∧
     (prog 0x0E c).canTake 0x0E c = some 0 ∧ ((after (.recvAct c) (prog 0x0E c)).play 0 0 0).receiving = true ∧
     (prog 0x0F c).canTake 0x0F c = some 0 ∧ ((after (.recvGrad c) (prog 0x0F c)).play 0 0 0).receiving = true) ∧
    (let c := cmd 7 0 4096
     (prog 0x0C c).canTake 0x0C c = some 0 ∧ (after (.sendAct c) (prog 0x0C c)).tokenStep 7 = 1 ∧
     (prog 0x0D c).canTake 0x0D c = some 0 ∧ (after (.sendGrad c) (prog 0x0D c)).tokenStep 7 = 1 ∧
     (prog 0x0E c).canTake 0x0E c = some 0 ∧ (after (.recvAct c) (prog 0x0E c)).tokenStep 7 = 1 ∧
     (prog 0x0F c).canTake 0x0F c = some 0 ∧ (after (.recvGrad c) (prog 0x0F c)).tokenStep 7 = 1) := by decide +kernel

/-- The peer of each stage grants 64 KiB. -/
def stageDev (grad : Bool) (len : Nat) : Device :=
  let k := job0.stageOut grad
  { job0 with
    mem := [(4096, 5)]
    job := { job0.job with transfers := [⟨grad, true, 0, 4096, len, 0, 7, 0, 0, 0⟩] }
    net := { job0.net with flows := [(k, { Flow.reset with window := some 65536 })] } }

theorem test_stage_send :
    (stageDev false 16).running = true ∧ (stageDev false 16).hasCredit ((stageDev false 16).stageOut false) 32 = true ∧
    (stageDev false 16).readWaits 4096 16 = false ∧ (stageDev false 16).startHeld 0 0 0 = false ∧ (stageDev false 16).backed 4096 16 = true ∧
    (after (.stageMessageSend false) (stageDev false 16)).tokenStep 7 = 1 ∧
    (after (.stageMessageSend false) (stageDev false 16)).net.sent.map (·.payload) =
      [[1, 0, 0, 0, 0, 0, 0, 0, 0, 0, 0, 0, 0, 0, 0, 0, 5, 0, 0, 0, 0, 0, 0, 0, 0, 0, 0, 0, 0, 0, 0, 0]] ∧
    (stageDev true 8193).hasCredit ((stageDev true 8193).stageOut true) 8208 = true ∧ (stageDev true 8193).backed 4096 8192 = true ∧
    (stageDev true 8193).readWaits 4096 8192 = false ∧
    (after (.stageMessageSend true) (stageDev true 8193)).job.transfers.map (·.offset) = [8192] := by decide +kernel

/-! ## Attention and the carousel -/

/-- FP16 pages of width 8 over 64 tokens, homes from 0x100000. -/
def geoSmall : List Byte := patches 64 [(0, 1, 1), (1, 1, 1), (2, 1, 1), (3, 1, 8), (4, 4, 64), (8, 4, 16), (12, 4, 16), (16, 6, 0x100000),
  (22, 6, 0x200000), (28, 2, 4)]
/-- Walk 0 and 1: unit scale, one block, one head, in cluster 0's working area at 0. -/
def walkSmall : List Byte := patches 128 [(8, 4, 0x3F800000), (16, 1, 1), (28, 4, 1), (7, 1, 1)]
/-- A ring of two, this module at position 0, as the image's sections 0x01, 0x12, 0x13 and 0x14 say; tour `backward` or not. -/
def ring2 (back : Nat) (kind : Nat := 0) : Device :=
  { withStores job0 [⟨0x01, 255, 255, 255, 1, patches 64 [(2, 2, 2), (4, 2, 1)]⟩, ⟨0x12, 0, 255, 255, 1, geoSmall⟩,
      ⟨0x13, 0, 255, 255, 1, patch walkSmall 3 (leBytes 1 kind)⟩, ⟨0x14, 0, 255, 255, 1, patches 64 [(3, 1, back), (6, 2, 1), (8, 1, 1),
        (16, 6, 0x300000)]⟩] with
    quads := [(0, { Quadrant.reset with regs := [(1, 64)] })] }
def page (owner state : Nat) : PageEntry := ⟨if owner = 0 then 0x100000 else 0, 0xFFFF, 0, true, state, owner, 16, 0, 0⟩
/-- Pages 0 to 3 belong to positions 0, 1, 1, 0. -/
def paged (s : Device) (own other : Nat) : Device :=
  s.modDie 0 (fun x => { x with pages := [(0, page 0 own), (1, page 1 other), (2, page 1 other), (3, page 0 own)] })
def touring (s : Device) (r : TourRun) : Device := s.modDie 0 (fun x => { x with tours := [(0, 7)], tour := some r })
def tour0 : TourRun := ⟨0, 64, [], [], [], [], [], false, []⟩

/-- Walk 0 is issued in context 0 to cluster 0, which stands at its first block. -/
def walking (s : Device) (r : WalkRun) : Device :=
  { s with quads := [(0, { Quadrant.reset with issues := [{ issue0 with kind := 2, token := 7, lens := [1] }] })]
           clusters := [(0, { Cluster.reset with ctxs := ctxOf [.walk r] })] }

/-- The group of page 0, with one key, that ends its block. -/
def groupA : WGroup :=
  { id := 1, block := 0, index := 0, last := true
    descs := [⟨0, 0, true, true, true, false, 1, 0, 0, none, 0, 0, 0x100040, 0, 0, 0, List.replicate 16 0, []⟩]
    round := 0, rows := 1, scored := 2, formed := 0, valued := 0, ended := 0, factors := [] }
/-- A member's walk over one token with one group in the cluster and rows in the pipe. -/
def pipeDev (kind : Nat) (x : WGroup) (rows : List PipeRow) : Device :=
  (walking (ring2 0 kind) { walk0 with groups := [x] }).modCluster 0 (fun c => { c with pipe := rows })
def scoresA : List PipeRow := (List.range 16).map (fun i => ⟨1, 1, 0, i / 8, i % 8, [0]⟩)

theorem test_walk_emit :
    (let s := walking (paged (ring2 0) 1 2) walk0
     (s.streamMembers 0 0 0).map (·.1) = [0] ∧ s.dieStopped 0 = false ∧
     (match s.walkTurn 0 0 0 0 (s.walkRec 0 0) walk0 with
      | .emit _ n => (n.pages, n.last)
      | _ => ([], false)) = ([0], true) ∧ s.pageReady 0 0 = true ∧
     ((after (.walkDescriptorEmit 0 0 0 1) s).ctx 0 0).items.map (fun i => match i with
       | .walk r => r.groups.map (fun x => (x.last, x.descs.map (fun e => (e.page, e.first, e.lastOfWalk))))
       | _ => []) = [[(true, [(0, true, true)])]] ∧
     (after (.walkDescriptorEmit 0 0 0 1) s).counters =
       [(dieBlock 0 + 0x3000, 3), (dieBlock 0 + 0x3008, 1), (dieBlock 0 + 0x3010, 1)]) ∧
    (let s := walking (ring2 0) walk0
     s.walkTurn 0 0 0 0 (s.walkRec 0 0) walk0 = .unmapped 0 ∧ s.dieStopped 0 = false ∧
     (after (.walkDescriptorEmit 0 0 0 1) s).log.holds.map (fun h => (h.code, h.site)) = [(0x0601, .walkPage 0 0 0 0 0)]) := by
  decide +kernel

theorem test_walk_turns :
    (let s := walking (paged (ring2 0) 1 2) { walk0 with groups := [groupA, groupA] }
     s.walkTurn 0 0 0 0 (s.walkRec 0 0) { walk0 with groups := [groupA, groupA] } = .wait ∧
     (after (.walkDescriptorEmit 0 0 0 3) s).counters = [(dieBlock 0 + 0x3008, 3)]) ∧
    (let s := walking (paged (ring2 0 2) 1 2) { walk0 with pos := 2, cursor := 4, opened := [⟨0, 0, 0, 0, 0⟩] }
     (match s.walkTurn 0 0 0 0 (s.walkRec 0 0) { walk0 with pos := 2, cursor := 4, opened := [⟨0, 0, 0, 0, 0⟩] } with
      | .over r => r.emitted
      | _ => false) = true ∧
     ((after (.walkDescriptorEmit 0 0 0 0) s).ctx 0 0).items.map (fun i => match i with
       | .walk r => r.emitted
       | _ => false) = [true]) := by decide +kernel

theorem test_walk_late :
    (let s := walking (paged (ring2 0) 0 2) walk0
     ((s.openWalk 0 (s.walkRec 0 0) walk0).bind (fun r => s.nextGroup 0 (s.walkRec 0 0) r)).bind (fun n =>
       n.pages.find? (fun p => !walk0.skipped.contains p && decide ((s.page 0 p).owner = s.ringPos) &&
         decide ((s.page 0 p).state = 0) && !s.pageUnmapped 0 p)) = some 0 ∧ s.log.entries.length < 4096 ∧
     (after (.attPageLate 0 0 0) s).log.entries.map (·.code) = [0x0606]) := by decide +kernel

/-- The pass of a walk's group that can start: its frame is loaded, its rows are copied, and the pool holds enough. -/
def walkStart : Device :=
  let s := after (.frameLoad 0 0) ((walking (paged (ring2 0) 1 2) { walk0 with groups := [{ groupA with scored := 0 }] }).modCluster 0
    (fun c => { c with shape := 1 }))
  { after (.frameLoad 0 0) s with stripes := [(0, { Stripe.reset with pool := 100 })] }

theorem test_walk_pass_start :
    (match walkStart.headReady 0 0 false with | some (.walk _ n) => (n.pass.stage, n.pass.len, n.pass.cols) | _ => (9, 9, 9)) = (0, 8, 1) ∧
    (∀ j, j < 4 → walkStart.noteHead 0 j = walkStart) ∧
    ((after (.itemStart 0 false [0]) walkStart).cluster 0).issuing.map (fun p => (p.walk, p.rows, p.slot)) = [(true, 8, 0)] ∧
    (walkStart.nextFetch 0 0).map (fun f => f.feed.size) = some 16 := by decide +kernel

theorem test_walk_complete :
    (let s := walking (ring2 0) { walk0 with emitted := true }
     (s.quad 0 0).issues.find? (fun i => i.kind == 2 && i.ctx == 0 && !i.statsHeld && s.walkFinished 0 0 i) =
       some { issue0 with kind := 2, token := 7, lens := [1] } ∧ (s.die 0).tour = none ∧ (s.walkRec 0 0).kind = 0 ∧ s.dieStopped 0 = false ∧
     (after (.walkComplete 0 0 0) s).tokenStep 7 = 1 ∧ ((after (.walkComplete 0 0 0) s).die 0).statsValid = [0] ∧
     ((after (.walkComplete 0 0 0) s).ctx 0 0).items = []) := by decide +kernel

/-- One key of zeros: the score is 0, so from the pipe's -inf and 0 the row's maximum is 0 and its sum exp(0) = 1, as is P (R228). -/
theorem test_softmax_form :
    (let s := pipeDev 0 groupA scoresA
     let r := { walk0 with groups := [groupA] }
     (s.ctx 0 0).items.findSome? (fun i => match i with | .walk r => if r.groups.isEmpty then none else some r | _ => none) = some r ∧
     s.isHeld (.context 0 0) = false ∧ s.clusterStopped 0 = false ∧
     s.pipeMemory (s.walkRec 0 0) (s.geometry 0) ((s.blockRows 0 (s.walkRec 0 0) 1 0).take 1) = (false, none) ∧
     s.blockFree 0 r groupA = true ∧ (s.cluster 0).pipeRows 1 1 0 0 2 8 = some (List.replicate 16 [0]) ∧
     ((after (.softmaxPipeGroup 0 0) s).cluster 0).scratch = [(1, 0x3F800000)] ∧
     (after (.softmaxPipeGroup 0 0) s).read (workP 0 (s.walkRec 0 0) (s.geometry 0) 1) 4 = [0x80, 0x3F, 0, 0]) ∧
    after (.softmaxPipeGroup 0 0) (pipeDev 0 groupA []) = pipeDev 0 groupA [] := by decide +kernel

/-- Values of 1.0 with factor 1 are folded into the eight FP32 rows; the group leaves. -/
def groupB : WGroup := { groupA with last := false, formed := 1, factors := [some 0x3F800000] }
theorem test_softmax_fold :
    (let s := pipeDev 0 groupB ((List.range 8).map (fun i => ⟨1, 1, 2, 0, i, [0x3F800000]⟩))
     (s.cluster 0).pipeRows 1 1 2 0 1 8 = some (List.replicate 8 [0x3F800000]) ∧
     (after (.softmaxPipeGroup 0 0) s).read (workO 0 (s.walkRec 0 0) (s.geometry 0) + 7 * 1024) 4 = [0, 0, 0x80, 0x3F] ∧
     ((after (.softmaxPipeGroup 0 0) s).ctx 0 0).items.map (fun i => match i with | .walk r => r.groups.length | _ => 9) = [0]) := by
  decide +kernel

/-- Kind 2 with scores and dP of zero: p = exp(0 - c) with c = 0 is 1, ds is 0 (R233). -/
theorem test_softmax_backward :
    (let s := pipeDev 2 groupA ((List.range 16).flatMap (fun i => [⟨1, 1, 0, 0, i, [0]⟩, ⟨1, 1, 1, 0, i, [0]⟩]))
     (s.cluster 0).pipeRows 1 1 0 0 1 16 = some (List.replicate 16 [0]) ∧ (s.cluster 0).pipeRows 1 1 1 0 1 16 = some (List.replicate 16 [0]) ∧
     s.pipeMemory (s.walkRec 0 0) (s.geometry 0) ((s.blockRows 0 (s.walkRec 0 0) 1 0).take 1) = (false, none) ∧
     (s.geometry 0).eb = 2 ∧
     (after (.softmaxPipeGroup 0 0) s).read (workP 0 (s.walkRec 0 0) (s.geometry 0) 0) 2 = [0x80, 0x3F] ∧
     ((after (.softmaxPipeGroup 0 0) s).ctx 0 0).items.map (fun i => match i with | .walk r => r.groups.map (·.formed) | _ => []) =
       [[1]]) := by decide +kernel

/-- A closing row of a walk is an invocation of its own (R230). -/
theorem test_closing_row :
    (let r := { walk0 with closing := [0] }
     let s := walking (ring2 0) r
     s.nextClosing 0 0 = some (r, 0) ∧
     ((after (.vectorInvocationStart 0) s).cluster 0).invocation.map (fun v => (v.kind, v.rho, v.cols)) = some (2, 0, 8)) := by
  decide +kernel

theorem test_tour_start :
    (let s := paged ((ring2 0).modDie 0 (fun x => { x with tours := [(0, 7)] })) 1 0
     (s.die 0).tour = none ∧ s.running = true ∧ s.boot.service = 2 ∧ s.dieParked 0 = false ∧
     ((after (.tourStart 0) s).die 0).tour.map (·.nAct) = some 64 ∧ (s.geometry 0).nCap / 16 = 4 ∧
     (List.range 4).map (fun p => ((after (.tourStart 0) s).page 0 p).state) = [1, 2, 2, 1]) := by decide +kernel

def sentAll : TourRun := { tour0 with sent := [(0, 1), (1, 1)], due := [(0, 1), (1, 1)] }
theorem test_tour_release :
    (let s := touring (paged (ring2 0) 1 3) sentAll
     (s.tourDesc 0 0).records = [] ∧ (s.tourDesc 0 0).backward = false ∧ s.dieParked 0 = false ∧
     (∀ x, x < 2 → Tab.get 0 sentAll.sent x = (s.ownPages 0 64 x).length ∧ Tab.get 0 sentAll.due x = (s.duePages 0 64 x).length ∧
       (s.flow (s.pageOut 0 x)).waiting = []) ∧
     (List.range 4).map (fun p => ((after (.tourReleaseFrames 0) s).page 0 p).state) = [1, 4, 4, 1] ∧
     (after (.tourReleaseFrames 0) s).tokenStep 7 = 1 ∧ ((after (.tourReleaseFrames 0) s).die 0).tours = []) ∧
    (let s := touring (paged (ring2 0) 1 3) { sentAll with sent := [] }
     Tab.get 0 ([] : Tab Nat) 0 ≠ (s.ownPages 0 64 0).length ∧ after (.tourReleaseFrames 0) s = s) := by decide +kernel

/-- A backward tour of record 0: it is complete once the record is and its returns have gone and come. -/
def backTour : Device :=
  withStores (touring (paged (ring2 1 2) 1 3) sentAll)
    ((ring2 1 2).job.stores.map (fun x => if x.kind = 0x14 then { x with bytes := patch x.bytes 5 (leBytes 1 1) } else x))

theorem test_tour_release_backward :
    (let s := backTour
     (s.tourDesc 0 0).records = [0] ∧ (s.tourDesc 0 0).backward = true ∧ s.dieParked 0 = false ∧
     (s.die 0).walksDone.contains 0 = false ∧ after (.tourReleaseFrames 0) s = s ∧
     (let t := s.modDie 0 (fun x => { x with walksDone := [0] })
      0 ∈ (t.die 0).walksDone ∧ t.returnsDone 0 (t.tourDesc 0 0) sentAll = false ∧
      ((after (.tourReleaseFrames 0) t).die 0).tour.map (·.released) = some true)) := by decide +kernel

theorem test_tour_send :
    (let s := touring (paged (ring2 0) 1 2) tour0
     let s := granted s (s.pageOut 0 0)
     (s.nextPage 0 0).map (fun e => (e.1, e.2.1)) = some (tour0, ⟨1, 0, 0⟩) ∧ s.dieParked 0 = false ∧
     s.hasCredit (s.pageOut 0 0) (s.pagePayload 0 0 0 ⟨1, 0, 0⟩).length = true ∧
     ((after (.carouselPageSend 0 0) s).die 0).tour.map (·.sent) = some [(0, 1)] ∧
     Tab.get 0 (after (.carouselPageSend 0 0) s).counters (dieBlock 0 + 0x1000) = 1) ∧
    (let s := touring (paged (ring2 1) 1 2) tour0
     let s := granted s (s.gradOut 0 0)
     (s.nextGrad 0 0).map (fun e => (e.1, e.2.1)) = some (tour0, ⟨1, 2, 0, 0⟩) ∧ s.gradOutValue 0 0 tour0 ⟨1, 2, 0, 0⟩ = none ∧
     s.hasCredit (s.gradOut 0 0) 16 = true ∧
     ((after (.carouselGradSend 0 0) s).die 0).tour.map (·.retSent) = some [(0, 1)]) := by decide +kernel

theorem test_tour_timeouts :
    (let s := touring (paged (ring2 1) 1 2) tour0
     (s.dueOn 0 1).isSome = true ∧ tour0.timeouts.contains 1 = false ∧
     (after (.carLapTimeout 0 1) s).log.entries.map (fun e => (e.code, e.tag)) = [(0x0701, 0)] ∧
     (s.nextPage 0 1).isSome = true ∧ s.hasCredit (s.pageOut 0 1) (80 + (s.geometry 0).recBytes) = false ∧
     (after (.senderCreditTimeout 0 1) s).log.entries.map (fun e => (e.code, e.tag)) = [(0x0701, 19)] ∧
     (s.nextGrad 0 0).isSome = true ∧ s.hasCredit (s.gradOut 0 0) 16 = false ∧
     ((after (.senderCreditTimeout 0 2) s).die 0).tour.map (·.timeouts) = some [6]) := by decide +kernel

/-! ## Ingest -/

/-- One entry of two FP32 elements, one record a period, two slots of 4 KiB at 0x10000, release token 0xF002, row of 4 if packing. -/
def recipeBytes (packing : Nat) (nRec : Nat := 1) : List Byte :=
  patches 192 [(1, 1, 2 * packing), (2, 1, 1), (4, 4, 1000), (8, 2, nRec), (10, 2, 2 * nRec), (12, 4, 1), (22, 2, 0xF001), (24, 6, 0x10000),
    (30, 2, 0xF002), (32, 8, 4096), (46, 4, 4), (50, 4, 1024), (54, 4, 2048), (72, 8, 4096),
    (129, 1, 5), (136, 4, 2), (140, 4, 1), (144, 4, 1), (148, 4, 1), (152, 8, 64), (160, 4, 256), (164, 4, 1), (176, 4, 2), (180, 4, 1)]
def ing (packing : Nat) (g : Ingest) (nRec : Nat := 1) : Device :=
  { withStores job0 [⟨0x06, 255, 255, 255, 1, recipeBytes packing nRec⟩] with ingest := { g with running := true } }
/-- The raw use of key `n` with elements 1.0 and 2.0. -/
def use0 (n stage : Nat) : Use := ⟨0, n, 4, 0, 0, 0, [2, 1, 1, 1], 8, leBytes 4 0x3F800000 ++ leBytes 4 0x40000000, stage, 0, 0, 0⟩

theorem test_decode_start :
    (let s := { ing 0 { Ingest.reset with uses := [use0 0 1] } with streamTokens := [(0xF002, 1)] }
     s.recipe.isSome = true ∧ s.recipe.map (fun r => (s.absorbReleases r).slotFree r 0) = some true ∧
     ((List.range 16).find? (s.engineFree 0)) = some 0 ∧
     (after (.decodeStart 0) s).ingest.uses = [use0 0 2] ∧ (after (.decodeStart 0) s).ingest.slotsUsed = 1) := by decide +kernel

theorem test_decode_complete :
    (let s := ing 0 { Ingest.reset with uses := [use0 0 2] }
     s.ingest.uses.find? (fun u => u.pdie == 0 && u.engine == 0 && u.stage == 2) = some (use0 0 2) ∧ s.ingest.pendingKeys = [] ∧
     s.isHeld (.engine 0 0) = false ∧ s.recipe.map s.ringWaits = some false ∧ s.log.entries.length < 4096 ∧
     (after (.decodeComplete 0 0 100) s).ingest.uses.map (fun u => (u.stage, u.concealed, u.data)) =
       [(3, 0, [0, 0, 0x80, 0x3F, 0, 0, 0, 0x40])] ∧ (decodeUse (use0 0 2)).elems.any (·.2) = false ∧
     (after (.ingBudgetExceeded 0 0) s).ingest.uses = [] ∧
     (after (.ingBudgetExceeded 0 0) s).log.entries.map (·.code) = [0x0806]) ∧
    (let s := ing 0 { Ingest.reset with uses := [use0 0 5] }
     s.recipe.map (fun r => (s.absorbReleases r).ingest.uses.find? (fun u => u.pdie == 0 && u.stage == 5 && (r.packing || (s.absorbReleases r).slotFree r u.key))) =
       some (some (use0 0 5)) ∧ s.engineFree 0 0 = true ∧
     s.recipe.map (s.absorbReleases · |>.isHeld (.engine 0 0)) = some false ∧
     s.recipe.map (fun r => (s.absorbReleases r).ringWaits r) = some false ∧
     (after (.concealmentFill 0 0) s).ingest.uses.map (fun u => (u.stage, u.concealed)) = [(3, 2)]) := by decide +kernel

theorem test_record_deliver :
    (let s := ing 0 { Ingest.reset with uses := [use0 0 3] }
     s.isHeld .aligner = false ∧ s.recipe.map (fun r => (s.absorbReleases r).ringWaits r) = some false ∧
     s.recipe.map (·.packing) = some false ∧ s.ingest.complete 0 0 = true ∧
     s.recipe.map s.nextKey = some 0 ∧ (after .recordDeliver s).ingest.delivered = [0] ∧
     (after .recordDeliver s).read 0x10100 8 = [0, 0, 0x80, 0x3F, 0, 0, 0, 0x40] ∧
     (after .recordDeliver s).streamTokens = [(0xF001, 1)] ∧ (after .recordDeliver s).ingest.uses = []) ∧
    (let s := ing 0 { Ingest.reset with uses := [use0 0 2] }
     s.recipe.map (fun r => (s.absorbReleases r).ringWaits r) = some false ∧ s.ingest.complete 0 0 = false ∧ after .recordDeliver s = s) := by decide +kernel

/-- Under packing, with two records a period: a segment joins the row of four; the row of a period that is over is delivered. -/
theorem test_record_packing :
    (let s := ing 1 { Ingest.reset with uses := [use0 0 3] } 2
     s.recipe.map (·.packing) = some true ∧ s.recipe.map (fun r => (s.absorbReleases r).ringWaits r) = some false ∧
     firstUse s.ingest 0 0 = some (use0 0 3) ∧ (s.entry 0).tokens (use0 0 3) = 2 ∧ s.recipe.map (·.nRec) = some 2 ∧
     s.recipe.map (·.rowLen) = some 4 ∧ s.recipe.map (fun r => s.slotFree r 0) = some true ∧
     (after .recordDeliver s).ingest.rowSegs = [(0, 0)] ∧ (after .recordDeliver s).ingest.rowFilled = 2) ∧
    (let s := ing 1 { Ingest.reset with rowSegs := [(0, 0)], rowFilled := 2, delivered := [0], period := 1 }
     s.recipe.map (fun r => (s.absorbReleases r).ringWaits r) = some false ∧
     s.recipe.map (fun r => (s.nextKey r, r.nRec)) = some (1, 1) ∧ s.ingest.complete 1 0 = false ∧
     (after .recordDeliver s).ingest.rowSegs = [] ∧ (after .recordDeliver s).ingest.recordsDelivered = 1) := by decide +kernel

theorem test_period_end :
    (let s := ing 0 { Ingest.reset with uses := [use0 0 0] }
     s.recipe.map (·.nRec) = some 1 ∧ s.ingest.running = true ∧ (after .periodEnd s).ingest.period = 1 ∧
     (after .periodEnd s).ingest.creditDue = [0, 1] ∧ (after .periodEnd s).ingest.uses = [] ∧
     (let t := ing 0 { Ingest.reset with creditDue := [0, 1] }
      (t.peersOf (t.roleOf 0)).map (·.index) = [0] ∧ (after (.ingestCredit 0) t).ingest.creditDue = [1] ∧
      (after (.ingestCredit 0) t).net.sent.map (·.kind) = [0x21] ∧ 5 ∉ t.ingest.creditDue ∧ after (.ingestCredit 5) t = t)) := by
  decide +kernel

/-! ## Gradient exchange and update -/

/-- A plan of two tensors of one FP16 weight each, at ring 1 of two replicas: bundle 0 is this module's, bundle 1 the other's. -/
def planBytes : List Byte :=
  patches 448 [(2, 2, 2), (4, 4, 2), (24, 1, 1), (12, 6, 0x20000), (18, 6, 0x30000),
    (320, 2, 9), (322, 1, 2), (324, 4, 1), (328, 6, 0x8000), (336, 6, 0x9000), (366, 2, 1), (368, 2, 2), (370, 2, 3),
    (384, 2, 8), (386, 1, 2), (388, 4, 1), (392, 6, 0x8200), (400, 6, 0x9200), (434, 2, 3), (436, 4, 1)]
def red (p0 : Pdie) (x : Reduction) : Device :=
  { withStores job0 [⟨0x05, 255, 255, 255, 1, planBytes⟩, ⟨0x01, 255, 255, 255, 1, patches 64 [(2, 2, 1), (4, 2, 2)]⟩] with
    pdies := [(0, p0)], reduction := x }

def sendDev (i : Nat) : Device :=
  let s := { red { Pdie.reset with sendTensor := i } { Reduction.reset with readied := [0, 1] } with mem := [(0x8000, 7), (0x8200, 9)] }
  granted s (s.redFlow true false 1 1)
def tensor (i : Nat) : Option TensorRec := (sendDev i).tensorRecs[i]?

theorem test_bundle_send :
    (let s := sendDev 0
     s.running = true ∧ s.isHeld (.reductionSender 0) = false ∧ (tensor 0).bind (s.nextSend 0) = some 0 ∧ s.waitsForDie 0x8000 = none ∧
     s.backed 0x8000 512 = true ∧ s.shardOf 0 = s.replica ∧ s.isBackup = false ∧
     ((after (.reductionSendBundle 0) s).pdie 0).own.map (fun e => (e.1, e.2.1, e.2.2.mask, e.2.2.values.take 2)) = [(false, 0, 1, [7, 0])] ∧
     (after (.reductionSendBundle 0) s).mem = [(0x8200, 9)]) ∧
    (let s := sendDev 1
     (tensor 1).bind (s.nextSend 0) = some 0 ∧ s.shardOf 1 ≠ s.replica ∧ s.hasCredit (s.redFlow true false 1 1) 536 = true ∧
     (tensor 1).map (fun t => maskCount (s.readContribution t 0).1.mask) = some 1 ∧
     (after (.reductionSendBundle 0) s).net.sent.map (fun m => (m.kind, m.payload.length)) = [(0x32, 536)] ∧
     (after (.reductionSendBundle 0) s).mem = [(0x8000, 7)]) := by decide +kernel

/-- Weight 1.0, rate 0.5, decay 0, sign +1: the new weight is 0.5 (R331). -/
theorem test_update_bundle :
    (let x : SignedBundle := ⟨0, 1, 2, 0, [1]⟩
     let s := red { Pdie.reset with ready := [x] } Reduction.reset
     let s := withStores { s with mem := [(0x20002, 0x80), (0x20003, 0x3F)] }
       (s.job.stores.map (fun e => if e.kind = 5 then { e with bytes := patch e.bytes 312 (leBytes 4 0x3F000000) } else e))
     (s.tensorOfBundle 0).isSome = true ∧ s.isHeld (.update 0) = false ∧ s.power.level < 4 ∧ s.copyPending 0 0 = false ∧
     (tensor 0).map s.workingWaits = some false ∧
     (after (.updateBundle 0) s).read 0x20000 4 = [0, 0, 0, 0x3F] ∧ (after (.updateBundle 0) s).read 0x9000 2 = [0, 0x38] ∧
     ((after (.updateBundle 0) s).pdie 0).updated = 1 ∧ (after (.updateBundle 0) s).reduction.bundlesDone = [0]) := by decide +kernel

def input (place : Nat) (backup : Bool) : RoundInput := ⟨place, backup, 0, 0, 1, 0, []⟩
def round (ph : Bool) (l : List RoundInput) : Device :=
  red { Pdie.reset with rounds := [⟨1, 0, ph, l, [], false, false, false⟩] } Reduction.reset

theorem test_round_close :
    (let s := round false [input 0 false]
     (s.round 0 1 0 false).map (fun r => (s.places false).filter (fun x => (r.primary x).isNone && (r.backupOf x).isNone)) = some [1] ∧
     s.isHeld (.round 0 0 false) = false ∧ (after (.roundWindowClose 0 0 false) s).log.holds.map (·.code) = [Code.redContributionMissing]) ∧
    (let s := round false [input 0 false, input 1 true]
     s.homeOf 0 = s.ringPos ∧ ((after (.roundWindowClose 0 0 false) s).pdie 0).own.map (fun e => (e.1, e.2.2.contributors)) = [(true, 2)]) ∧
    (let s := round true [input 0 false]
     ((after (.roundWindowClose 0 0 true) s).pdie 0).ready.map (·.contributors) = [1]) ∧
    (let l : List RoundInput := [⟨0, false, 1, checksumOf (List.replicate 256 2), 1, 0, List.replicate 256 2⟩, input 1 false]
     (∀ i ∈ l, i.mask < 256 ∧ i.values.length = 256 * maskCount i.mask ∧ i.checksum = checksumOf i.values) ∧
     (combine l).checksum = 512) := by decide +kernel

/-! ## Jobs, operations and checkpoints -/

def programs16 : List Section := (List.range 16).map (fun i => ⟨0x19, i / 4, i % 4, 255, 1,
  leBytes 4 1 ++ List.replicate 316 0 ++ cmdBytes 0x11 (cmd 0xFFFF 0 0)⟩)
/-- A plan of one tensor of 256 FP16 elements with its master on P0. -/
def goodPlan : List Byte :=
  patches 384 ([(0, 1, 1), (2, 2, 1), (4, 4, 1), (12, 6, 0x10000100000), (18, 6, 0x16000100000), (24, 1, 1), (72, 4, 0x3F000000),
    (320, 2, 9), (322, 1, 2), (324, 4, 256), (328, 6, 0x100000), (336, 6, 0x104000), (366, 2, 1), (368, 2, 2), (370, 2, 3)] ++
    (List.range 15).map (fun i => (80 + 16 * i, 6, 0xFFFFFFFFFFFF)))
def mapping0 (ring : Nat) : Section := ⟨0x01, 255, 255, 255, 1, patches 64 [(0, 2, 1), (2, 2, ring), (4, 2, 1)]⟩
def ckpt0 (limit : Nat) : Section := ⟨0x04, 255, 255, 255, 1,
  patches 64 [(0, 6, 0x10000000000), (6, 6, 0x16000000000), (12, 6, 0x10000060000), (18, 6, 0x16000060000), (28, 6, limit)]⟩
/-- An image that passes the late steps: every program is one STEP_END, one tensor, regions around every range. -/
def image0 : List Section :=
  [mapping0 1,
   ⟨0x02, 255, 255, 255, 3, patches 160 [(0, 2, 3), (64, 6, 0x10000000000), (72, 8, 0x200000), (96, 6, 0x16000000000), (104, 8, 0x200000),
     (128, 6, 0x100000), (136, 8, 0x10000)]⟩,
   ⟨0x03, 255, 255, 255, 1, patches 32 [(0, 2, 9), (3, 1, 1), (4, 4, 256), (8, 4, 1), (12, 4, 1), (16, 4, 1)]⟩,
   ckpt0 0, ⟨0x05, 255, 255, 255, 1, goodPlan⟩] ++ programs16
def loaded (checked : Bool) (image : List Section) : Device :=
  { up with job := { Job.reset with state := 2, checked := checked, image := image } }

theorem test_admission_pass :
    (let s := loaded true image0
     s.job.state = 2 ∧ s.job.checked = true ∧ s.boot.service = 2 ∧ s.admitLate = [] ∧ (after .admissionComplete s).job.state = 3) := by
  decide +kernel

/-- Without a checkpoint plan step 5 fails; without an image of 4 KiB step 1 does. -/
theorem test_admission_fail :
    (let s := loaded true []
     s.admitLate ≠ [] ∧ (after .admissionComplete s).job.state = 4) ∧
    (let s := loaded false []
     s.job.state = 2 ∧ s.admitEarly.1 ≠ none ∧ (after .admissionComplete s).job.state = 4) := by decide +kernel

theorem test_job_starts :
    (let s := { up with job := { Job.reset with deferredStarts := [(5, msg0)] } }
     s.job.deferredStarts = [(5, msg0)] ∧ s.standoff = false ∧ s.job.state ≠ 2 ∧ (after .deferredJobStart s).job.deferredStarts = []) ∧
    (let s := { up with job := { Job.reset with deferredStarts := [(5, msg0)] }, boot := { Boot.reset with service := 1 } }
     s.boot.service ≠ 2 ∧ after .deferredJobStart s = s) ∧
    (let s := withStores { up with job := { Job.reset with state := 5, exchanging := true } } [mapping0 2]
     let k := flowKey 2 0 0
     s.job.exchanging = true ∧ k ∈ s.mappedPeers ∧ k ∉ s.job.answered ∧ (s.flow k).unacked = [] ∧
     (after (.jobPeerSilent k) s).log.entries.map (·.code) = [Code.jobPeerSilent] ∧
     (after (.helloResend k) s).net.sent.map (·.kind) = [0x01]) := by decide +kernel

def op (h st : Nat) : Op := ⟨h, st, 0, false, 0, 0, 0, 1, 0, 0, 0⟩
/-- Every program has ended its step. -/
def stepDone (limit : Nat) : Device :=
  { withStores job0 [ckpt0 limit] with
    ops := [op 0x01000001 0], serials := [(1, 1)]
    quads := (List.range 16).map (fun i => (i, { Quadrant.reset with ended := true })) }

theorem test_step_boundary :
    (let s := stepDone 0
     (∀ e ∈ s.net.flows, e.2.buffer = []) ∧ s.Quiet ∧ s.stepOver = true ∧ s.stepOp = some (op 0x01000001 0) ∧
     (∀ x ∈ s.ops, opKind x.handle = 1 → x.handle = 0x01000001) ∧ s.job.thermosAsked = false ∧ s.thermosInterval = 0 ∧ s.stepLimit = 0 ∧
     (after .stepBoundary s).job.step = 2 ∧ (after .stepBoundary s).ops.map (fun o => (o.handle, o.step)) = [(0x01000002, 2)] ∧
     (after .stepBoundary s).endedOps.map (fun o => (o.handle, o.state)) = [(0x01000001, 4)]) ∧
    (let s := stepDone 2
     s.stepOver = true ∧ s.stepLimit = s.job.step + 1 ∧ s.finalThermos = false ∧ (after .stepBoundary s).job.state = 8 ∧
     (after .stepBoundary s).job.resetting = true) ∧
    (let s := { stepDone 0 with quads := [] }
     s.stepOver = false ∧ after .stepBoundary s = s) ∧
    (let s := { up with mem := [(5, 1), (0x10000000000, 2)], job := { Job.reset with resetting := true } }
     s.job.resetting = true ∧ (after .jobResetComplete s).mem = [(0x10000000000, 2)]) := by decide +kernel

theorem test_stop_points :
    (let s := { job0 with ops := [op 0x05000001 1] }
     s.panel.removing = false ∧ s.job.ending = false ∧ (after (.operationStopPoint 0x05000001) s).ops.map (·.state) = [2]) ∧
    (let s := { job0 with ops := [op 0x01000001 1] }
     s.quiet = true ∧ (after (.operationStopPoint 0x01000001) s).ops.map (·.state) = [2]) ∧
    (let s := { job0 with ops := [op 0x05000001 3] }
     (after (.operationStopPoint 0x05000001) s).ops = [] ∧ (after (.operationStopPoint 0x05000001) s).endedOps.map (·.state) = [5]) ∧
    (let s := { job0 with ops := [op 0x01000001 3] }
     s.job.state = 6 ∧ s.quiet = true ∧ s.stageAcked = true ∧ s.job.cancelled = false ∧
     (after (.operationStopPoint 0x01000001) s).job.state = 7 ∧
     (after (.operationStopPoint 0x01000001) s).log.holds.map (·.code) = [Code.jobOpCancelled]) ∧
    (let s := { job0 with ops := [op 0x05000001 0] }
     (after (.operationStopPoint 0x05000001) s).ops = s.ops) := by decide +kernel

/-- A checkpoint of `ring` positions whose P-die 0 stands at record `i` and both at mirror message `j`. -/
def thermos (ring i j : Nat) : Device :=
  { withStores job0 [mapping0 ring, ckpt0 0, ⟨0x05, 255, 255, 255, 1, goodPlan⟩] with
    ops := [op 0x02000001 0]
    pdies := (List.range 2).map (fun p => (p, { Pdie.reset with copyNext := i, mirrorNext := j }))
    mem := [(0x10000100000, 9)] }

theorem test_thermos_write :
    (thermos 1 0 0).liveOp 2 = some (op 0x02000001 0) ∧ (thermos 1 0 0).job.thermosAsked = false ∧ (thermos 1 0 0).job.ending = false ∧
    (thermos 1 2 0).slotCount = 1 ∧ (thermos 1 2 0).slotWaits 0 0 = false ∧ (thermos 1 3 0).slotWaits 0 1 = false := by decide +kernel

theorem test_thermos_mirror :
    (let s := granted (thermos 2 4 0) (thermos 2 4 0).mirrorOut
     (op 0x02000001 0).lo ≠ 1 ∧ 1 < s.ringS ∧ (s.pdie 0).copyNext = s.slotCount + 3 ∧ (s.pdie 0).mirrorNext < s.mirrorCount ∧
     s.hasCredit s.mirrorOut 8208 = true) ∧
    (let s := { thermos 2 4 0 with net := Net.reset }
     s.pairUp s.mirrorOut = false ∧ (∀ p, p < 2 → (s.pdie p).copyNext = s.slotCount + 3) ∧
     (after .mirrorTimeout s).ops = [] ∧ (after .mirrorTimeout s).endedOps.map (·.state) = [4]) := by decide +kernel

/-- A job that starts by a restore whose next step is `i`. -/
def restoring (i : Nat) : Device :=
  let s := withStores job0 [mapping0 1, ckpt0 0, ⟨0x05, 255, 255, 255, 1, goodPlan⟩]
  { s with
    job := { s.job with state := 5 }, ops := [op 0x03000001 0]
    pdies := (List.range 2).map (fun p => (p, { Pdie.reset with restoreNext := i }))
    mem := [(0x10000000000, 0x4E), (0x10000000001, 0x4D), (0x10000000002, 0x4B), (0x10000000003, 0x54), (0x10000000004, 1), (0x10000000005, 1),
      (0x10000000028, 7),
      (0x16000000000, 0x4E), (0x16000000001, 0x4D), (0x16000000002, 0x4B), (0x16000000003, 0x54), (0x16000000004, 1), (0x16000000005, 1),
      (0x16000000028, 7)] }

theorem test_thermos_restore :
    (restoring 1).liveOp 3 = some (op 0x03000001 0) ∧ (restoring 1).job.state = 5 ∧ 0 < ((restoring 1).pdie 0).restoreNext ∧
    ((restoring 1).pdie 0).restoreNext < (restoring 1).slotCount + 1 ∧ (restoring 1).restoreWaits 0 0 = false ∧
    (let s := { restoring 0 with mem := [] }
     s.restoreOk = false ∧ s.ops.filter (fun x => opKind x.handle == 3) = [op 0x03000001 0] ∧
     (after (.thermosRestoreRecord 0) s).job.state = 3) := by decide +kernel

/-! A sound pair of generations exists (R372, R376): a header's digest covers neither itself nor what lies between it and the
tensor table, so writing it there makes the generation sound. -/

theorem test_block_length (a : Sheets) : (spongeBlock a).length = 136 := by
  unfold spongeBlock shakeRate
  rw [List.length_map, List.length_range]

theorem test_digest_length (l : List Byte) : (shake256 l 64).length = 64 := by
  unfold shake256 shakeRate
  rw [List.length_take]
  unfold spongeGive
  rw [List.length_append, test_block_length]
  omega

/-- A write inside bytes 96 to 159 of a generation, or far from it, leaves the digest's own input as it was. -/
theorem test_digest_congr (s : Device) (a : Nat) (l : List Byte) (b : Nat) (hl : l.length = 64)
    (h : a = b + 96 ∨ a + 64 ≤ b ∨ b + s.genLen ≤ a) (hg : 65536 ≤ s.genLen) : (s.write a l).genDigest b = s.genDigest b := by
  have hgl : (s.write a l).genLen = s.genLen := rfl
  have h1 : (s.write a l).read b 96 = s.read b 96 := memRead_congr _ _ _ _ (fun i hi => by
    rw [Device.write_memGet, if_neg (by omega)])
  have h2 : (s.write a l).read (b + 65536) (s.genLen - 65536) = s.read (b + 65536) (s.genLen - 65536) :=
    memRead_congr _ _ _ _ (fun i hi => by rw [Device.write_memGet, if_neg (by omega)])
  unfold Device.genDigest
  rw [hgl, h1, h2]

def genHead : List Byte := [0x4E, 0x4D, 0x4B, 0x54, 1, 1] ++ List.replicate 34 0 ++ [7] ++ List.replicate 55 0

theorem test_gen_numbers : (restoring 0).thermosBase 0 = 0x10000000000 ∧ (restoring 0).thermosBase 1 = 0x16000000000 ∧
    (restoring 0).genLen = 335872 ∧ (restoring 0).job.jobId = [] ∧ (restoring 0).job.digest = [] := by decide +kernel

/-- The first 96 bytes of both headers as `restoring` places them. -/
theorem test_gen_headers :
    (restoring 0).read 0x10000000000 96 = genHead ∧ (restoring 0).read 0x16000000000 96 = genHead := by decide +kernel

theorem test_read_append (m : Memory) (k n : Nat) : ∀ a, memRead m a (n + k) = memRead m a n ++ memRead m (a + n) k := by
  induction n with
  | zero => intro a; simp [memRead]
  | succ n ih =>
    intro a
    rw [show n + 1 + k = (n + k) + 1 by omega]
    simp only [memRead, List.cons_append]
    rw [ih, show a + 1 + n = a + (n + 1) by omega]

theorem test_digest_in_place (s : Device) (a : Nat) (l : List Byte) (hl : l.length = 64) :
    (s.write (a + 96) l).read a 160 = s.read a 96 ++ l := by
  unfold Device.read
  rw [show 160 = 96 + 64 from rfl, test_read_append]
  congr 1
  · exact memRead_congr _ _ _ _ (fun i hi => by rw [Device.write_memGet, if_neg (by omega)])
  · have := memRead_memWrite l s.mem (a + 96)
    rw [hl] at this
    exact this

/-- A generation whose header begins with `genHead` and whose digest field holds its digest is sound. -/
theorem test_gen_ok (s : Device) (a p : Nat) (l : List Byte) (hj : s.job.jobId = []) (hd : s.job.digest = []) (hl : l.length = 64)
    (ha : s.thermosBase p = a) (hdg : s.genDigest a = l) (hr : s.read a 160 = genHead ++ l) : s.genOk p = true := by
  have e : sub (genHead ++ l) 96 64 = l := by
    unfold sub
    rw [show (96 : Nat) = genHead.length from rfl, List.drop_left, List.take_of_length_le (by omega)]
    show l ++ List.replicate (64 - l.length) 0 = l
    rw [hl]; simp
  unfold Device.genOk
  simp only [ha, hdg, hj, hd, hr, e, Bool.and_eq_true, decide_eq_true_eq]
  exact ⟨⟨⟨⟨rfl, by show (1 : Nat) ≠ 0; omega⟩, rfl⟩, rfl⟩, trivial⟩

theorem test_write_plan (s : Device) (a : Nat) (l : List Byte) : (s.write a l).genLen = s.genLen ∧ (s.write a l).job = s.job ∧
    ∀ p, (s.write a l).thermosBase p = s.thermosBase p := ⟨rfl, rfl, fun _ => rfl⟩

/-- Two generations apart from each other, each with its digest written into its header. -/
theorem test_two_gens (s : Device) (a b : Nat) (ha : s.thermosBase 0 = a) (hb : s.thermosBase 1 = b) (hab : a + s.genLen ≤ b)
    (hg : 65536 ≤ s.genLen) (h0 : s.read a 96 = genHead) (h1 : s.read b 96 = genHead) (hj : s.job.jobId = [])
    (hd : s.job.digest = []) : ((s.write (a + 96) (s.genDigest a)).write (b + 96) (s.genDigest b)).restoreOk = true := by
  have hl : ∀ x, (s.genDigest x).length = 64 := fun x => test_digest_length _
  have ra : ((s.write (a + 96) (s.genDigest a)).write (b + 96) (s.genDigest b)).read a 160 = genHead ++ s.genDigest a := by
    rw [← h0, ← test_digest_in_place s a _ (hl a)]
    exact memRead_congr _ _ _ _ (fun i hi => by rw [Device.write_memGet, if_neg (by rw [hl]; omega)])
  have rb : ((s.write (a + 96) (s.genDigest a)).write (b + 96) (s.genDigest b)).read b 160 = genHead ++ s.genDigest b := by
    rw [test_digest_in_place _ b _ (hl b)]
    refine congrArg (· ++ s.genDigest b) ?_
    rw [← h1]
    exact memRead_congr _ _ _ _ (fun i hi => by rw [Device.write_memGet, if_neg (by rw [hl]; omega)])
  have gw : (s.write (a + 96) (s.genDigest a)).genLen = s.genLen := (test_write_plan _ _ _).1
  have da : ((s.write (a + 96) (s.genDigest a)).write (b + 96) (s.genDigest b)).genDigest a = s.genDigest a :=
    (test_digest_congr (s.write (a + 96) (s.genDigest a)) (b + 96) _ a (hl b)
      (by right; right; rw [gw]; omega) (by rw [gw]; exact hg)).trans (test_digest_congr s _ _ a (hl a) (by left; rfl) hg)
  have db : ((s.write (a + 96) (s.genDigest a)).write (b + 96) (s.genDigest b)).genDigest b = s.genDigest b :=
    (test_digest_congr (s.write (a + 96) (s.genDigest a)) (b + 96) _ b (hl b) (by left; rfl) (by rw [gw]; exact hg)).trans
      (test_digest_congr s _ _ b (hl a) (by right; left; omega) hg)
  have j2 : ((s.write (a + 96) (s.genDigest a)).write (b + 96) (s.genDigest b)).job = s.job := by
    rw [(test_write_plan _ _ _).2.1, (test_write_plan _ _ _).2.1]
  have a2 : ((s.write (a + 96) (s.genDigest a)).write (b + 96) (s.genDigest b)).thermosBase 0 = a := by
    rw [(test_write_plan _ _ _).2.2, (test_write_plan _ _ _).2.2]; exact ha
  have b2 : ((s.write (a + 96) (s.genDigest a)).write (b + 96) (s.genDigest b)).thermosBase 1 = b := by
    rw [(test_write_plan _ _ _).2.2, (test_write_plan _ _ _).2.2]; exact hb
  generalize ((s.write (a + 96) (s.genDigest a)).write (b + 96) (s.genDigest b)) = s2 at *
  have ok0 := test_gen_ok s2 a 0 _ (j2 ▸ hj) (j2 ▸ hd) (hl a) a2 da ra
  have ok1 := test_gen_ok s2 b 1 _ (j2 ▸ hj) (j2 ▸ hd) (hl b) b2 db rb
  have st : ∀ (x : Device) (c : Nat), x.read (c + 40) 6 = ((x.read c 160).drop 40).take 6 := by
    intro x c
    unfold Device.read
    rw [show 160 = 40 + (6 + 114) from rfl, test_read_append, test_read_append,
      List.drop_left' (memRead_length ..), List.take_left' (memRead_length ..)]
  unfold Device.restoreOk
  rw [ok0, ok1]
  show (true && true && decide (_ = _)) = true
  simp only [Bool.and_self, Bool.true_and, decide_eq_true_eq]
  have cut : ∀ l, ((genHead ++ l).drop 40).take 6 = (genHead.drop 40).take 6 := fun l => by
    rw [List.drop_append_of_le_length (by decide), List.take_append_of_le_length (by decide)]
  rw [a2, b2, st, st, ra, rb, cut, cut]

def soundGens : Device :=
  ((restoring 0).write (0x10000000000 + 96) ((restoring 0).genDigest 0x10000000000)).write (0x16000000000 + 96)
    ((restoring 0).genDigest 0x16000000000)

theorem test_restore_sound : soundGens.restoreOk = true ∧ soundGens.liveOp 3 = some (op 0x03000001 0) ∧ soundGens.job.state = 5 ∧
    (soundGens.pdie 0).restoreNext = 0 ∧ soundGens.job.ending = false := by
  obtain ⟨b0, b1, gl, ji, jd⟩ := test_gen_numbers
  have h := test_two_gens (restoring 0) _ _ b0 b1 (by rw [gl]; omega) (by rw [gl]; omega) test_gen_headers.1 test_gen_headers.2 ji jd
  refine ⟨?_, by decide +kernel, by decide +kernel, by decide +kernel, by decide +kernel⟩
  unfold soundGens
  exact h

/-! ## Messages -/

/-- `Due`, with the sender's peer number named. -/
def dueAt (s : Device) (kind : Nat) (m : Msg) (peer : Nat) : Bool :=
  let k := flowKey (s.pairAt m) m.flow peer
  decide (s.off = false ∧ (s.port m.port).inUse = true ∧ m.intact = true ∧ m.version = 1 ∧ (m.hold = false ∨ kind = 0x3F) ∧
    m.payload.length ≤ 9114 ∧ typeClass kind ≠ 6 ∧ s.peerIndex m.port m.src = some peer) &&
  decide (offsetUsed m.flow = true ∧ s.classOk m.port m.flow kind = true ∧
    (typeClass kind = 7 ∨ typeClass kind = flowClass m.flow ∧ typeOffset kind m.flow = true)) &&
  decide (kind ≠ 0x3F ∧ (flowClass m.flow = 0 ∨ m.epoch.toNat = (if s.hasJob then s.job.epoch else 0)) ∧
    m.seq = (s.flow k).rxDue ∧ (s.flow k).buffer = [] ∧ m.payload.length ≤ (s.flow k).granted m.flow ∧
    (s.flow k).rxHeld = false ∧ s.boot.warmReset = false)

theorem test_due_at (s : Device) (kind : Nat) (m : Msg) (peer : Nat) (h : dueAt s kind m peer = true) :
    s.Due kind (flowKey (s.pairAt m) m.flow peer) m := by
  unfold dueAt at h
  simp only [Bool.and_eq_true, decide_eq_true_eq] at h
  obtain ⟨⟨⟨a1, a2, a3, a4, a5, a6, a7, a8⟩, b1, b2, b3⟩, c⟩ := h
  exact ⟨⟨a1, a2, a3, a4, a5, a6, a7, ⟨peer, a8, rfl⟩, b1, b2, b3⟩, c⟩

/-- A message of host tooling on the management port; its flow is `key0`. -/
def mgmt (payload : List Byte) : Msg := { msg0 with payload := payload }
/-- The same from host A's port, whose session is not attested. -/
def host (payload : List Byte) : Msg := { msg0 with port := 0, src := 500, payload := payload }
def key0 : Nat := flowKey 8 0 1023
def keyA : Nat := flowKey 0 0 0
def access (a n : Nat) (data : List Byte) : List Byte := leBytes 6 a ++ [0, 0] ++ leBytes 4 n ++ [0, 0, 0, 0] ++ data
def sentBytes (s : Device) : List (Nat × List Byte) := s.net.sent.map (fun f => (f.kind, f.payload))

def full : Device := { up with mem := [(0x1000, 5)] }
/-- Cluster 0 is in the middle of a pass. -/
def midPass : Device := { full with clusters := [(0, { Cluster.reset with draining := [pass0], nextPass := pass0.id + 1 })] }

theorem test_read :
    (let m := mgmt (access 0x1000 2 [])
     dueAt full 0x04 m 1023 = true ∧ full.Quiet ∧ accessOk false m = true ∧ inStatus 0x1000 = false ∧ full.mustWait 0x04 (full.readGate (accessAddr m)) m = false ∧
     full.backed 0x1000 2 = true ∧ full.trusted key0 m = true ∧ full.damaged = [] ∧
     (6, access 0x1000 2 [5, 0]) ∈ sentBytes (after (.read m) full)) ∧
    (let m := host (access 0x1000 2 [])
     dueAt full 0x04 m 0 = true ∧ full.trusted keyA m = false ∧
     (6, replyBytes m Code.netAccessDenied []) ∈ sentBytes (after (.read m) full)) ∧
    (let m := mgmt (access 0xFFFFFFFFFF 1 [])
     dueAt full 0x04 m 1023 = true ∧ full.mustWait 0x04 (full.readGate (accessAddr m)) m = false ∧ full.backed 0xFFFFFFFFFF 1 = false ∧
     (6, replyBytes m Code.memAddressUnbacked []) ∈ sentBytes (after (.read m) full)) ∧
    (let m := mgmt (access (winBase + 0x320000) 4 [])
     dueAt midPass 0x04 m 1023 = true ∧ midPass.mustWait 0x04 (midPass.readGate (accessAddr m)) m = true ∧ (after (.read m) midPass).net.requests = [(key0 * 256 + 4, midPass.readGate (accessAddr m), m)] ∧
     (let s := { full with net := { full.net with requests := [(key0 * 256 + 4, midPass.readGate (accessAddr m), m)] } }
      (midPass.cluster 0).midPass 0 = false ∧ (s.cluster 0).midPass (midPass.readGate (accessAddr m)) = false ∧ s.mustWait 0x04 (midPass.readGate (accessAddr m)) m = false ∧ (6, access (winBase + 0x320000) 4 [0, 0, 0, 0]) ∈
        sentBytes (after (.inputBankReadServed 0) s))) := by decide +kernel

theorem test_status :
    (let m := mgmt []
     dueAt up 0x07 m 1023 = true ∧ m.payload = [] ∧ (after (.status m) up).net.sent.any (fun f => f.kind == 7) = true) := by decide +kernel

def regWrite (a v : Nat) : Msg := mgmt (access a 4 (leBytes 4 v))
def hostWrite (a v : Nat) : Msg := host (access a 4 (leBytes 4 v))

theorem test_write :
    (let m := mgmt (access 0x1000 2 [7, 8])
     dueAt full 0x05 m 1023 = true ∧ accessOk true m = true ∧ full.mustWait 0x05 0 m = false ∧ full.writable 0x1000 2 = true ∧
     full.writeDenied 0x1000 2 = false ∧ full.trusted key0 m = true ∧ (after (.write m) full).mem = [(0x1000, 7), (0x1001, 8)] ∧
     (6, replyBytes m 0 []) ∈ sentBytes (after (.write m) full)) ∧
    (let m := host (access 0x1000 2 [7, 8])
     dueAt full 0x05 m 0 = true ∧ full.trusted keyA m = false ∧ (after (.write m) full).mem = full.mem) ∧
    (let m := mgmt (access (winBase + 0x320000) 2 [7, 8])
     full.writable (winBase + 0x320000) 2 = false ∧ full.mustWait 0x05 0 m = false ∧ (after (.write m) full).mem = full.mem ∧
     (6, replyBytes m Code.memAddressUnbacked []) ∈ sentBytes (after (.write m) full)) ∧
    (let m := regWrite (statusBase + 0x14) 0
     inStatus (statusBase + 0x14) = true ∧ writableReg (statusBase + 0x14) = false ∧ dueAt full 0x05 m 1023 = true ∧
     (6, replyBytes m Code.netAccessDenied []) ∈ sentBytes (after (.registerWriteOther m) full)) := by decide +kernel

theorem test_register_write :
    (dueAt full 0x05 (regWrite counterFreeze 1) 1023 = true ∧ accessOk true (regWrite counterFreeze 1) = true ∧
     (after (.counterFreeze (regWrite counterFreeze 1)) { full with counters := [(0x50100, 4)] }).frozen.map (Tab.get 0 · 0x50100) = some 4 ∧
     (after (.counterUnfreeze (regWrite counterFreeze 0)) { full with frozen := some [] }).frozen = none) ∧
    ((after (.lightTest (regWrite lightTest 7)) full).panel.lightMode = 3 ∧
     (after (.lightTest (regWrite lightTest 7)) full).panel.lightDuration = 1 ∧
     (after (.profileReq (regWrite profileReq 2)) full).power.request = 2 ∧
     (after (.profileReq (regWrite profileReq 3)) full).power.request = full.power.request) ∧
    (full.trusted keyA (hostWrite profileReq 2) = false ∧ dueAt full 0x05 (hostWrite profileReq 2) 0 = true ∧
     (after (.profileReq (hostWrite profileReq 2)) full).power.request = full.power.request) ∧
    (let m := regWrite logClearReg 0x6C0E0001
     let s := { full with log := { full.log with lost := 3 } }
     dueAt s 0x05 m 1023 = true ∧ s.trusted key0 m = true ∧ s.log.saving = false ∧ (after (.logClear m) s).log.lost = 0 ∧
     (let t := { s with log := { s.log with saving := true } }
      t.log.saving = true ∧ (after (.logClear m) t).log.clearAfterSave = true)) := by decide +kernel

/-- RESET_CTRL with its key. -/
def reset (v : Nat) : Msg := regWrite resetCtrl (0x4B7E0000 + v)

theorem test_resets :
    (let s := { job0 with mem := [(5, 1), (lpBase, 2)] }
     dueAt s 0x05 (reset 1) 1023 = true ∧ s.Quiet ∧ accessOk true (reset 1) = true ∧ (after (.warmReset (reset 1)) s).mem = [(lpBase, 2)] ∧
     (after (.warmReset (reset 1)) s).boot.warmReset = true) ∧
    (let s := { full with net := { full.net with ports := [(16, portUp0), (2, { portUp0 with optic := true })] } }
     dueAt s 0x05 (reset 0x22) 1023 = true ∧ (s.port 2).optic = true ∧ (s.port 10).inUse = false ∧
     ((after (.portReset (reset 0x22)) s).port 2).training = true) ∧
    (dueAt job0 0x05 (reset 3) 1023 = true ∧ job0.hasJob = true ∧ (after (.jobReset (reset 3)) job0).job.resetting = true ∧
     full.hasJob = false ∧ (after (.jobReset (reset 3)) full).job = full.job) ∧
    (full.updateRefused (full.answerer key0) 0 ≠ none ∧ (after (.hamperUpdate (reset 4)) full).boot = full.boot) ∧
    (job0.standbyRefused = true ∧ (after (.enterStandby (reset 5)) job0).boot.standbyEntry = false) ∧
    (let s := full
     s.standbyRefused = false ∧ (after (.enterStandby (reset 5)) s).boot.standbyEntry = true) ∧
    (let s := { full with boot := { full.boot with service := 4 } }
     dueAt s 0x05 (reset 6) 1023 = true ∧ (after (.leaveStandby (reset 6)) s).boot.service = 0) ∧
    (after (.leaveStandby (reset 6)) full).boot.service = 2 := by decide +kernel

/-! ## Decisions, Attend, jobs and sessions -/

def decision (h : Hold) (dec : Nat) : List Byte :=
  leBytes 2 (Code.wire h.code) ++ [BitVec.ofNat 8 dec, 0] ++ leBytes 4 h.dataPath.toNat ++ leBytes 8 h.position.toNat ++ List.replicate 16 0
def holding (s : Device) (h : Hold) : Device := { s with log := { s.log with holds := [h] } }
def result (s : Device) : List Byte := (s.net.sent.filter (fun f => f.kind == 0x16)).flatMap (fun f => f.payload.drop 3 |>.take 1)
def holdMove : Hold := ⟨Code.memAddressUnbacked, 5, 9, 0, .move 0 0 0⟩
def holdTable : Hold := ⟨Code.loopActualLengthInvalid, 5, 9, 0, .tableStart 0 0 0⟩
def holdRound : Hold := ⟨Code.redContributionMissing, 5, 0, 0, .round 0 0 false⟩
def holdStandoff : Hold := ⟨Code.bootStandoff, 5, 0, 0, .standoff 0⟩

theorem test_decisions :
    (let m := mgmt (decision holdMove 0)
     let s := holding job0 holdMove
     dueAt s 0x16 m 1023 = true ∧ s.Quiet ∧ m.payload.length = 32 ∧ zeros m.payload 3 1 = true ∧ zeros m.payload 16 16 = true ∧
     Code.offers holdMove.code 0 false 0 = true ∧ (after (.hostDecisionRetry m) s).log.holds = [] ∧
     result (after (.hostDecisionRetry m) s) = [0] ∧
     result (after (.hostDecisionRetry m) job0) = [1] ∧ dueAt job0 0x16 m 1023 = true) ∧
    (let m := mgmt (decision holdMove 3)
     let s := holding job0 holdMove
     Code.offers holdMove.code 0 false 3 = false ∧ result (after (.hostDecisionWait m) s) = [2] ∧ (after (.hostDecisionWait m) s).log = s.log) ∧
    (let m := mgmt (decision holdMove 1)
     Code.offers holdMove.code 0 false 1 = true ∧ (after (.hostDecisionAbort m) (holding job0 holdMove)).job.resetting = true ∧
     (after (.hostDecisionAbort m) (holding job0 holdMove)).log.holds = []) := by decide +kernel

theorem test_decision_skip :
    (let m := mgmt (decision holdTable 2)
     let s := holding { job0 with quads := [(0, { Quadrant.reset with issues := [{ issue0 with token := 7, statsHeld := true }] })] } holdTable
     dueAt s 0x16 m 1023 = true ∧ Code.offers holdTable.code 0 false 2 = true ∧
     s.heldIssue 0 0 0 1 = some { issue0 with token := 7, statsHeld := true } ∧ (after (.hostDecisionSkip m) s).tokenStep 7 = 1 ∧
     (after (.hostDecisionSkip m) s).log.holds = []) ∧
    (let m := mgmt (decision holdRound 3)
     let s := holding { round false [input 0 false] with log := ErrLog.reset } holdRound
     dueAt s 0x16 m 1023 = true ∧ Code.offers holdRound.code 0 false 3 = true ∧ 1 ∈ s.places false ∧
     (s.round 0 1 0 false).map (fun r => r.settled 1) = some false ∧ ((after (.hostDecisionWait m) s).round 0 1 0 false).map (·.waitOk) = some true) := by
  decide +kernel

/-- Both processors stand in Standoff; the session with MP0 is attested and the heartbeat has not come back. -/
def standoff0 : Device :=
  { holding up holdStandoff with
    mps := [(0, { Mp.reset with run := 2, hamper := some hamper0, standoff := true }), (1, { Mp.reset with run := 2, hamper := some hamper0, standoff := true })]
    boot := { up.boot with heartbeatLost := true }
    net := { up.net with attested := [(key0, 77), (flowKey 10 0 1023, 77)] } }

theorem test_decision_primary :
    (let m := mgmt (decision holdStandoff 4)
     dueAt standoff0 0x16 m 1023 = true ∧ standoff0.Quiet ∧ keyPair key0 = 8 ∧ (key0, m.src) ∈ standoff0.net.attested ∧
     Code.offers holdStandoff.code 0 false 4 = true ∧ (after (.hostDecisionPrimaryMp0 m) standoff0).boot.wantPrimary = some 0) ∧
    (let m := { mgmt (decision holdStandoff 5) with mp1 := true }
     dueAt standoff0 0x16 m 1023 = true ∧ keyPair (flowKey (standoff0.pairAt m) 0 1023) = 10 ∧
     Code.offers holdStandoff.code 0 false 5 = true ∧ (after (.hostDecisionPrimaryMp1 m) standoff0).boot.wantPrimary = some 1) := by
  decide +kernel

def asking : Device := { up with panel := { up.panel with pending := true, presses := 1 } }

theorem test_attend_answers :
    (let m := mgmt (1 :: List.replicate 7 0)
     dueAt asking 0x41 m 1023 = true ∧ asking.Quiet ∧ grantOf m = 1 ∧ (after (.attendGrant m) asking).panel.removing = true ∧
     ((after (.attendGrant m) asking).die 3).parkCauses = [6] ∧ (after (.attendGrant m) up).panel = up.panel ∧ up.panel.pending = false) ∧
    (let m := mgmt (List.replicate 8 0)
     dueAt asking 0x41 m 1023 = true ∧ grantOf m = 0 ∧ (after (.attendRefuse m) asking).panel.pending = false) := by decide +kernel

def load (off total : Nat) (data : List Byte) : Msg := mgmt (leBytes 8 off ++ leBytes 8 total ++ data)
def startMsg (epoch action : Nat) (lo len : Nat) : Msg :=
  mgmt (leBytes 4 epoch ++ [BitVec.ofNat 8 action, 0, 0, 0] ++ leBytes 6 lo ++ [0, 0] ++ leBytes 8 len ++ List.replicate 8 0)

theorem test_job_load :
    (let m := load 0 40000 [9]
     dueAt up 0x10 m 1023 = true ∧ up.mustWait 0x10 0 m = false ∧ up.backed stagingBase 1 = true ∧ up.job.state < 5 ∧
     4096 + trailerLen ≤ 40000 ∧ (after (.jobLoad m) up).job.received = 1 ∧ (after (.jobLoad m) up).mem = [(stagingBase, 9)] ∧
     (after (.jobLoad m) up).job.state = 1) ∧
    (let s := { up with job := { Job.reset with state := 1, received := 39999, total := 40000 } }
     (after (.jobLoad (load 39999 40000 [9])) s).job.state = 2) := by decide +kernel

def admitted : Device := { up with job := { Job.reset with state := 3, image := image0 } }

theorem test_job_start :
    (let m := startMsg 5 0 0 0
     dueAt admitted 0x11 m 1023 = true ∧ admitted.Quiet ∧ startOk m = true ∧ admitted.boot.service = 2 ∧ admitted.standoff = false ∧ admitted.job.lastEpoch ≠ 5) ∧
    (let m := startMsg 5 1 0 0
     dueAt admitted 0x11 m 1023 = true ∧ startOk m = true) ∧
    (let m := startMsg 1 2 0 0
     dueAt job0 0x11 m 1023 = true ∧ job0.Quiet ∧ job0.job.epoch = 1 ∧ (job0.pdie 0).mirrorNext = 0 ∧
     (after (.jobStartThermos m) job0).job.thermosAsked = true ∧ (after (.jobStartThermos m) job0).ops.map (fun o => opKind o.handle) = [2]) := by
  decide +kernel

theorem test_job_start_scrub :
    (let m := startMsg 0 3 0x100000 0x100000
     dueAt up 0x11 m 1023 = true ∧ startOk m = true ∧ up.hasJob = false ∧ up.scrubOk m.payload = true ∧
     (after (.jobStartScrub m) up).ops.map (fun o => (opKind o.handle, o.lo, o.hi)) = [(5, 0x100000, 0x200000)]) := by decide +kernel

def about (h : Nat) : Msg := mgmt (leBytes 4 h ++ [0, 0, 0, 0])
def scrubbing (st : Nat) : Device := { up with ops := [op 0x05000001 st] }

theorem test_operations :
    (let m := about 0x05000001
     (scrubbing 0).findOp 0x05000001 = some (op 0x05000001 0) ∧ dueAt (scrubbing 0) 0x12 m 1023 = true ∧ dueAt (scrubbing 0) 0x13 m 1023 = true ∧
     dueAt (scrubbing 0) 0x14 m 1023 = true ∧ dueAt (scrubbing 0) 0x15 m 1023 = true ∧
     (after (.opSuspend m) (scrubbing 0)).ops.map (·.state) = [1] ∧ (after (.opResume m) (scrubbing 2)).ops.map (·.state) = [0] ∧
     (after (.opCancel m) (scrubbing 0)).ops.map (·.state) = [3] ∧ (after (.opState m) (scrubbing 0)).ops = (scrubbing 0).ops ∧
     (0x15, (scrubbing 0).opState (op 0x05000001 0) 0) ∈ sentBytes (after (.opState m) (scrubbing 0))) := by decide +kernel

/-- `Arrives`, with the sender's peer number named, for an ACK. -/
def ackAt (s : Device) (m : Msg) (peer : Nat) : Bool :=
  decide (s.off = false ∧ (s.port m.port).inUse = true ∧ m.intact = true ∧ m.version = 1 ∧ m.payload.length ≤ 9114 ∧
    s.peerIndex m.port m.src = some peer ∧ offsetUsed m.flow = true ∧ s.classOk m.port m.flow 0x3F = true)

theorem test_ack_at (s : Device) (m : Msg) (peer : Nat) (h : ackAt s m peer = true) :
    s.Arrives 0x3F (flowKey (s.pairAt m) m.flow peer) m := by
  unfold ackAt at h
  simp only [decide_eq_true_eq] at h
  obtain ⟨a1, a2, a3, a4, a5, a6, a7, a8⟩ := h
  exact ⟨a1, a2, a3, a4, .inr rfl, a5, by decide, ⟨peer, a6, rfl⟩, a7, a8, .inl rfl⟩

/-- One message of type STATUS with sequence 4 that is not acknowledged. -/
def unacked0 : Frame := ⟨16, 77, 0x07, 0, 4, 0, 16, false, false, false, false, 0, 0, 0, [1]⟩
def flowed (s : Device) (k : Nat) (f : Flow) : Device := { s with net := { s.net with flows := Tab.set Flow.reset s.net.flows k f } }

theorem test_ack :
    (let s := flowed up key0 { Flow.reset with unacked := [unacked0], held := true }
     let m := { mgmt (leBytes 4 1) with ackSeq := 5, grant := 3 }
     ackAt s m 1023 = true ∧ s.Quiet ∧ (s.flow key0).waiting = [] ∧ m.retx = false ∧ (after (.ack m) s).net.flows.map (·.2.unacked) = [[]] ∧
     ((after (.ack m) s).flow key0).window = some 12288 ∧ ((after (.ack m) s).flow key0).held = true ∧
     ((after (.ack { m with retx := true }) s).flow key0).held = false) := by decide +kernel

theorem test_sessions :
    (up.off = false ∧ (up.port 16).inUse = true ∧ up.peerIndex 16 77 = some 1023 ∧ up.log.entries.length < 4096 ∧
     (after (.icvanUnknownType (mgmt [])) up).log.entries.map (·.code) = [Code.netMessageMalformed]) ∧
    (let m := mgmt (List.replicate 64 0)
     dueAt up 0x01 m 1023 = true ∧ (0x01, up.helloPayload 8 true) ∈ sentBytes (after (.hello m) up)) ∧
    (let m := mgmt (List.replicate 64 0)
     dueAt up 0x02 m 1023 = true ∧ (up.mp (up.answerer key0)).run = 2 ∧ (up.mp (up.answerer key0)).quoting = false ∧
     ((after (.attestReq m) up).mp 0).quoting = true ∧ (after (.attestReq m) up).ops.map (fun o => opKind o.handle) = [6]) := by
  decide +kernel

/-- A mailbox of two slots of 128 bytes at 0x4000. -/
def mailboxed : Device := { job0 with job := { job0.job with mailbox := [0x4000, 128, 2] } }
def granting (s : Device) (k : Nat) : Device := flowed s k { Flow.reset with rxGrant := some 0x100000 }
def peerMsg (port src flow : Nat) (payload : List Byte) : Msg :=
  { msg0 with port := port, src := BitVec.ofNat 128 src, flow := flow, epoch := 1, payload := payload }

theorem test_inference :
    (let m := { peerMsg 0 500 160 (leBytes 4 33 ++ [0, 0, 0, 0] ++ leBytes 4 2 ++ [0, 0, 0, 0, 8, 9]) with last := true }
     let k := flowKey 0 160 0
     let s := granting mailboxed k
     dueAt s 0x23 m 0 = true ∧ s.Quiet ∧ m.last = true ∧ s.waitsForDie (s.slotAddr 0) = none ∧ s.job.infers = [] ∧ s.freeSlot = some 0 ∧
     (after (.inferReq m) s).job.infers.map (fun i => (i.slot, i.request, i.present)) = [(0, 33, true)] ∧
     (after (.inferReq m) s).read 0x4040 2 = [8, 9] ∧
     (let i : Infer := ⟨0, 33, 2, 2, k, 0, true⟩
      let t := { s with job := { s.job with infers := [i] }, mem := [(0x4008, 2), (0x4010, 1), (0x4040, 6)] }
      t.job.infers = [i] ∧ t.readNat (t.slotAddr 0 + 8) 1 = 2 ∧ t.readNat (t.slotAddr 0 + 16) 4 = 1 ∧ (after .mailboxPoll t).job.infers = [] ∧
      (0x24, leBytes 4 33 ++ [0, 0, 0, 0, 1, 0, 0, 0, 0, 0, 0, 0, 6]) ∈ sentBytes (after .mailboxPoll t))) := by decide +kernel

/-! ## Data messages -/

def tourDev : Device :=
  let s := touring (paged (ring2 1) 1 2) tour0
  granting (granting s (s.pageIn 0 0)) (s.gradIn 0 0)
def pageMsg : Msg :=
  { peerMsg 3 530 192 ([0, 0, 1, 0, 1, 0, 0, 0, 0, 16, 0, 0, 0, 0, 0, 0] ++ List.replicate 64 0 ++ (5 : Byte) :: List.replicate 511 0) with sub := 2 }

theorem test_carousel_page :
    dueAt tourDev 0x30 pageMsg 0 = true ∧ tourDev.Quiet ∧ tourDev.job.discarding = false ∧ flowKey 3 192 0 = tourDev.pageIn 0 0 ∧
    (tourDev.die 0).tour = some tour0 ∧ tourDev.isHeld (.carousel 0 (flowKey 3 192 0)) = false ∧
    (tourDev.tourDesc 0 0).layer = 0 ∧ pageMsg.payload.length = 80 + (tourDev.geometry 0).recBytes ∧
    (tourDev.duePages 0 64 0)[0]? = some ⟨1, 2, 0⟩ ∧ tourDev.dieStopped 0 = false ∧
    ((after (.carouselPage pageMsg) tourDev).page 0 2).state = 3 ∧ ((after (.carouselPage pageMsg) tourDev).page 0 2).filled = 16 ∧
    (let s := granting (paged (ring2 1) 1 2) (flowKey 3 192 0)
     dueAt s 0x30 pageMsg 0 = true ∧ (s.die 0).tour = none ∧ s.dieStopped 0 = false ∧
     (after (.carouselPage pageMsg) s).log.holds.map (·.code) = [Code.carPageUnexpected]) ∧
    (let s := tourDev.modDie 0 (fun x => { x with power := 2 })
     (after (.carouselPage pageMsg) s).mem = s.mem ∧ ((after (.carouselPage pageMsg) s).flow (flowKey 3 192 0)).rxDue = 0 ∧
     ((after (.dieUnparked 0) ((after (.carouselPage pageMsg) s).modDie 0 (fun x => { x with power := 3 }))).page 0 2).state = 3) := by decide +kernel

def gradMsg : Msg := { peerMsg 2 520 196 ([0, 0, 1, 0, 1, 0, 0, 0] ++ List.replicate 8 0) with sub := 0 }

theorem test_carousel_grad :
    dueAt tourDev 0x31 gradMsg 0 = true ∧ flowKey 2 196 0 = tourDev.gradIn 0 0 ∧ tour0.released = false ∧
    (tourDev.dueGrads 0 tour0 0)[0]? = some ⟨1, 0, 0, 0⟩ ∧
    ((after (.carouselGrad gradMsg) tourDev).die 0).tour.map (·.retDue) = some [(0, 1)] := by decide +kernel

/-- A RECV of 2 bytes at 0x5000 that has started. -/
def recvDev (grad : Bool) : Device :=
  let s := prog (if grad then 0x0F else 0x0E) (cmd 7 2 0x5000)
  granting { s with job := { s.job with transfers := [⟨grad, false, 0, 0x5000, 2, 0, 7, 0, 0, 0⟩] } } (s.stageIn grad)
def stageMsg (grad : Bool) (data : List Byte) : Msg :=
  peerMsg (if grad then 7 else 6) (if grad then 570 else 560) (if grad then 385 else 384) ([1, 0, 0, 0] ++ List.replicate 12 0 ++ data)

theorem test_stage_receive :
    dueAt (recvDev false) 0x34 (stageMsg false [4, 5]) 0 = true ∧ (recvDev false).isHeld (.stageFlow false) = false ∧
    (recvDev false).recvsDone false < ((recvDev false).stageCmds (recvOp false)).length ∧
    (recvDev false).writeWaits 0x5000 2 = false ∧ (recvDev false).writable 0x5000 2 = true ∧
    (after (.stageAct (stageMsg false [4, 5])) (recvDev false)).mem = [(0x5000, 4), (0x5001, 5)] ∧
    (after (.stageAct (stageMsg false [4, 5])) (recvDev false)).tokenStep 7 = 1 ∧
    dueAt (recvDev true) 0x35 (stageMsg true [4]) 0 = true ∧ (recvDev true).recvsDone true < ((recvDev true).stageCmds (recvOp true)).length ∧
    (recvDev true).writeWaits 0x5000 1 = false ∧ (recvDev true).writable 0x5000 1 = true ∧
    (after (.stageGrad (stageMsg true [4])) (recvDev true)).job.transfers.map (·.offset) = [1] := by decide +kernel

theorem test_mirror_receive :
    (let s := granting (thermos 2 0 0) (thermos 2 0 0).mirrorIn
     let m := peerMsg 3 530 386 ([0, 0, 1, 0, 0, 0, 0, 0] ++ List.replicate 8 0 ++ [4])
     dueAt { s with ops := [] } 0x36 m 0 = true ∧ s.ckpt ≠ [] ∧ m.last = true ∧
     (let m := { m with last := false }
      dueAt { s with ops := [] } 0x36 m 0 = true ∧ 0x10000 + 1 ≤ s.genLen ∧
      (after (.thermosMirror m) { s with ops := [], mem := [] }).mem = [(0x10000060000 + 0x10000, 4)])) := by decide +kernel

/-- Stream 0 receives sample 4, whose fragment 1 is due. -/
def sampling : Device :=
  granting (ing 0 { Ingest.reset with uses := [{ use0 0 0 with data := [] }], flows := [(0, some ⟨4, true, 1⟩)] }) (flowKey 0 64 0)
def sampleMsg (last : Bool) (data : List Byte) : Msg :=
  { peerMsg 0 500 64 (leBytes 8 4 ++ [0, if last then 2 else 0, 0, 0] ++ leBytes 4 1 ++ data) with sub := 1 }

theorem test_sample_fragment :
    dueAt sampling 0x20 (sampleMsg true [1, 2]) 0 = true ∧ commonOk (sampleMsg true [1, 2]) = true ∧
    (after (.sample (sampleMsg true [1, 2])) sampling).ingest.flows = [] ∧
    (after (.sample (sampleMsg true [1, 2])) sampling).ingest.uses.map (·.data) = [[1, 2]] ∧
    (let m := sampleMsg false (List.replicate 8192 0)
     commonOk m = true ∧ (after (.sample m) sampling).ingest.flows = [(0, some ⟨4, true, 2⟩)]) ∧
    (let m := { sampleMsg true [1, 2] with sub := 9 }
     dueAt sampling 0x20 m 0 = true ∧ commonOk m = false ∧ sampling.log.entries.length < 4096 ∧
     (after (.sample m) sampling).log.entries.map (·.code) = [Code.ingSampleMalformed]) := by decide +kernel

theorem test_own_input :
    (let s := red { Pdie.reset with own := [(false, 0, input 0 false)] } Reduction.reset
     (s.pdie 0).own.find? (fun o => o.1 == false && o.2.1 == 0) = some (false, 0, input 0 false) ∧ checksumOf (input 0 false).values = 0 ∧
     s.round 0 1 0 false = none ∧ 1 ∈ s.places false ∧ (after (.reduceChunk (.own 0 0 false)) s).pdie 0 =
       { Pdie.reset with rounds := [⟨1, 0, false, [input 0 false], [], false, false, false⟩] }) ∧
    (let s := red { Pdie.reset with own := [(false, 0, { input 0 false with checksum := 3 })] } Reduction.reset
     (after (.reduceChunk (.own 0 0 false)) s).log.holds.map (·.code) = [Code.redChecksumMismatch]) := by decide +kernel


/-- A second peer on each plane: replica 1, or ring position 1. -/
def planeMps : Tab Mp :=
  let h := { hamper0 with peers := hamper0.peers ++ [⟨4, 1, 700, 701⟩, ⟨5, 1, 710, 711⟩] }
  [(0, { Mp.reset with run := 2, hamper := some h }), (1, { Mp.reset with run := 2, hamper := some h })]
/-- Replica 1's contribution to bundle 0, tensor 9, with no chunk present. -/
def reduceDev : Device := granting { red Pdie.reset Reduction.reset with mps := planeMps } (flowKey 4 256 1)
def reduceMsg (sum : Nat) : Msg := peerMsg 4 700 256 ([1, 0, 0, 0, 0, 0, 1, 0, 0, 0, 9, 0, 0, 0, 0, 0] ++ leBytes 8 sum)

theorem test_reduce_chunk :
    dueAt reduceDev 0x32 (reduceMsg 0) 1 = true ∧ reduceDev.Quiet ∧ reduceDev.redDiscard (reduceMsg 0) = false ∧
    reduceDev.isHeld (.reductionFlow (flowKey 4 256 1)) = false ∧ reduceDev.planePair true = 4 ∧
    reduceDev.tensorId 0 = 9 ∧ reduceDev.dueOnFlow .contribution (flowKey 4 256 1) = some (1, 0) ∧ reduceDev.pdieOf 0 = 0 ∧
    reduceDev.round 0 1 0 false = none ∧ 0 ∈ reduceDev.places false ∧
    ((after (.reduceChunk (.remote (reduceMsg 0))) reduceDev).round 0 1 0 false).map (·.inputs) = some [input 1 false] ∧
    dueAt reduceDev 0x32 (reduceMsg 4) 1 = true ∧
    (after (.reduceChunk (.remote (reduceMsg 4))) reduceDev).log.holds.map (·.code) = [Code.redChecksumMismatch] := by decide +kernel

/-- Two ring positions, one replica: position 1 is the home of bundle 1, tensor 8, and sends its signs. -/
def gatherDev : Device :=
  granting { withStores (red Pdie.reset Reduction.reset)
      [⟨0x05, 255, 255, 255, 1, planBytes⟩, ⟨0x01, 255, 255, 255, 1, patches 64 [(2, 2, 2), (4, 2, 1)]⟩] with mps := planeMps } (flowKey 5 321 1)
def gatherMsg : Msg := peerMsg 5 710 321 ([1, 0, 0, 0, 0, 0, 2, 0, 0, 0, 8, 0, 0, 0, 0, 0])

theorem test_gather_chunk :
    dueAt gatherDev 0x33 gatherMsg 1 = true ∧ gatherDev.redDiscard gatherMsg = false ∧ gatherDev.planePair true ≠ 5 ∧
    gatherDev.restoreUnread = false ∧ signsOf gatherMsg.payload = some [] ∧ gatherDev.tensorId 1 = 8 ∧
    gatherDev.dueOnFlow .signs (flowKey 5 321 1) = some (1, 1) ∧ gatherDev.pdieOf 1 = 1 ∧
    ((after (.gatherChunk gatherMsg) gatherDev).pdie 1).ready = [⟨1, 0, 2, 0, []⟩] := by decide +kernel

/-! ## Power and temperature (R388 to R404, R464) -/

def withPower (f : Power → Power) (s : Device) : Device := { s with power := f s.power }
def withBoot (f : Boot → Boot) (s : Device) : Device := { s with boot := f s.boot }
def withPanel (f : Panel → Panel) (s : Device) : Device := { s with panel := f s.panel }
def withDie (d : Nat) (f : Die → Die) (s : Device) : Device := s.modDie d f
def withStripe (t : Nat) (f : Stripe → Stripe) (s : Device) : Device := s.modStripe t f

theorem test_energy_refill :
    (let s := withStripe 7 (fun x => { x with pool := 5 }) up
     s.dieRuns 1 = true ∧ ((after (.energyRefill 7 400 0) s).stripe 7).pool = 1200005 ∧
     ((after (.energyRefill 7 400 0) (withStripe 7 (fun x => { x with pool := 4700000 }) s)).stripe 7).pool = 4800000) ∧
    ((after (.energyRefill 7 1520 0) up).log.entries.map (·.code) = [Code.pwrThermalLimit] ∧ (up.stripe 7).cool = true) ∧
    ((withStripe 7 (fun x => { x with cool := false }) up).stripe 7).cool = false ∧ up.dieRuns 1 = true := by decide +kernel

theorem test_donors :
    up.receivers 2 = [] ∧ after (.donorTransfer 2) up = up ∧
    (let s := withStripe 14 (fun x => { x with atCap := 10 }) (withDie 2 (fun x => { x with requests := [4 * 300] }) up)
     s.receivers 2 = [13] ∧ ((after (.donorTransfer 2) s).stripe 13).gives = 300000 ∧
     ((after (.donorTransfer 2) s).stripe 14).gives = -300000) := by decide +kernel

theorem test_stripe_clock_idle :
    (up.stripe 3).overcurrent = false ∧ (up.stripe 3).overcurrentBefore = false ∧
    ((after (.stripeOvercurrent 3) up).stripe 3).overcurrent = true ∧
    (let s := withStripe 3 (fun x => { x with overcurrent := true }) up
     (s.stripe 3).overcurrent = true ∧ (after (.stripeOvercurrent 3) s).log = s.log) ∧
    (up.die 1).power ≠ 4 ∧ ((after (.clockStep 1) (withPower (fun p => { p with request := 2 }) up)).die 1).clock = 1 ∧
    (up.dieRuns 2 = true ∧ (∀ e ∈ up.clusters, dOf e.1 = 2 → e.2.quiet = true) ∧ ((after (.dieIdle 2) up).die 2).gated = true) := by
  decide +kernel

theorem test_trips :
    (((after (.thermalTrip (.stripe 7)) up).die 1).power = 1 ∧ (up.stripe 7).tripped = false ∧ (up.die 1).power = 0) ∧
    (((after (.thermalTrip (.stack 7)) up).die 2).parkCauses = [4] ∧ up.power.hotStacks = []) ∧
    (((after (.thermalTrip (.pdieHot 1)) up).pdie 1).hot = true ∧ up.power.hotPdies = []) ∧
    (up.power.level < 4 ∧ up.actionsDone = true ∧ (after (.thermalTrip (.pdie 1)) up).power.level = 2) := by decide +kernel

theorem test_recovers :
    (let s := withStripe 7 (fun x => { x with tripped := true }) (withDie 1 (fun x => { x with power := 2, parkCauses := [3] }) up)
     (s.die 1).parkCauses = [3] ∧ (s.die 1).power = 2 ∧ (∀ i, i < 6 → 6 * 1 + i ≠ 7 → (s.stripe (6 * 1 + i)).tripped = false) ∧
     ((after (.thermalRecover (.stripe 7)) s).die 1).power = 3) ∧
    (let s := withPower (fun p => { p with hotStacks := [7] }) (withDie 2 (fun x => { x with power := 2, parkCauses := [4] }) up)
     (s.die 2).parkCauses = [4] ∧ (s.die 2).power = 2 ∧ s.power.hotStacks = [7] ∧
     ((after (.thermalRecover (.stack 7)) s).die 2).power = 3) ∧
    (let s := withPower (fun p => { p with hotPdies := [3], level := 1 }) up
     s.power.hotPdies = [1 + 2] ∧ s.power.level ≤ 4 ∧ s.power.inputLevel = 0 ∧ s.power.rails = [] ∧
     (after (.thermalRecover (.pdie 1)) s).power.level = 0) ∧
    (let s := withDie 1 (fun x => { x with power := 1 }) up
     (s.die 1).power = 1 ∧ s.dieStill 1 = true ∧ ((after (.dieParked 1) s).die 1).power = 2) ∧
    (let s := withDie 1 (fun x => { x with power := 3 }) up
     (s.die 1).power = 3 ∧ (∀ e ∈ s.net.flows, e.2.buffer = []) ∧ s.Quiet ∧ ((after (.dieUnparked 1) s).die 1).power = 0) := by
  decide +kernel

/-- At a shed level, every clock at 1.6 GHz. -/
def shedding (n : Nat) : Device :=
  { withPower (fun p => { p with level := n }) up with dies := up.dies.map (fun e => (e.1, { e.2 with clock := 2 })) }

theorem test_shed_rises :
    (up.power.level < inputCalls 4690 ∧ up.actionsDone = true ∧ (after (.inputThresholdCrossed 4690) up).power.level = 1 ∧
     (after (.inputThresholdCrossed 4690) up).log.entries.map (fun e => (e.code, e.values)) = [(Code.pwrShedEntered, [0, 1, 0])]) ∧
    ((shedding 2).power.level < inputCalls 4399 ∧ (shedding 2).actionsDone = true ∧ ((shedding 2).die 2).power = 0 ∧
     ((after (.inputThresholdCrossed 4399) (shedding 2)).die 3).power = 1) ∧
    ((shedding 3).power.level < inputCalls 4249 ∧ (shedding 3).actionsDone = true ∧ ((shedding 3).die 0).power = 0 ∧
     ((after (.inputThresholdCrossed 4249) (shedding 3)).die 0).power = 1) ∧
    ((shedding 4).power.level < inputCalls 4099 ∧ (shedding 4).actionsDone = true ∧ (shedding 4).power.inputLevel ≤ 5 ∧
     (after (.inputThresholdCrossed 4099) (shedding 4)).log.saving = true) := by decide +kernel

theorem test_shed_stays_and_falls :
    (up.calledLevel ≤ up.power.level ∧ inputCalls 4800 ≤ up.power.inputLevel ∧
     after (.inputThresholdCrossed 4800) up = withPower (fun p => { p with input := 4800 }) up) ∧
    (let s := withPower (fun p => { p with level := 4, inputLevel := 4 }) { up with
       dies := up.dies.map (fun e => (e.1, { e.2 with power := 2, parkCauses := [2] })) }
     s.power.level ≤ 5 ∧ (s.die 1).parkCauses = [2] ∧ (s.die 1).power = 2 ∧
     (after (.inputThresholdRecovered 4360) s).power.level = 3 ∧ ((after (.inputThresholdRecovered 4360) s).die 1).power = 3) ∧
    (let s := withPower (fun p => { p with level := 1, rails := [(.aCore 2, 94)] }) up
     (after (.railConditionClear (.aCore 2) 95) s).power.rails = [(.aCore 2, 94)] ∧
     (after (.railConditionClear (.aCore 2) 96) s).power.rails = [] ∧ (after (.railConditionClear (.aCore 2) 96) s).power.level = 0) := by
  decide +kernel

theorem test_rail_condition :
    ((94, 2) ∈ railThresholds (.aCore 2) ∧ (Rail.aCore 2, 94) ∉ up.power.rails ∧ up.power.level < 2 ∧ up.actionsDone = true ∧
     (after (.railCondition (.aCore 2) 93) up).power.level = 2 ∧
     (after (.railCondition (.aCore 2) 94) up).power = up.power) ∧
    (let s := withPower (fun p => { p with inputLevel := 2 }) up
     s.power.level < s.calledLevel ∧ s.actionsDone = true ∧ s.power.level < 5 ∧ (after .shedLevelActions s).power.level = 2) ∧
    (up.calledLevel ≤ up.power.level ∧ after .shedLevelActions up = up) := by decide +kernel

theorem test_power_loss :
    ((after .powerRemoval job0).boot.service = 5 ∧ (after .powerRemoval job0).fuses = job0.fuses) ∧
    (after (.inputOvervoltage 5800) up = up ∧ (after (.inputOvervoltage 5801) up).log.entries.map (·.code) = [Code.modInputRange] ∧
     (after (.inputOvervoltage 6001) up).boot.service = 5) ∧
    (up.off = false ∧ (after .inputOvercurrent up).boot.overcurrentFlag = true) := by decide +kernel

/-- Off. -/
def dark : Device := after .powerRemoval up

theorem test_power_on :
    (dark.boot.service = 5 ∧ dark.boot.overcurrentFlag = false ∧ (after (.powerOn 1) dark).boot.service = 0 ∧
     (after (.powerOn 1) dark).boot.strapPin = 1) ∧
    (let s := withBoot (fun b => { b with overcurrentFlag := true }) dark
     s.boot.overcurrentFlag = true ∧ s.log.flash.length < 4096 ∧ (after (.powerOn 0) s).log.entries.map (·.tag) = [13]) ∧
    (let s := { up with mem := [(5, 1), (lpBase, 2)] }
     s.boot.service ≠ 5 ∧ (after (.moduleReset 1) s).mem = [(lpBase, 2)] ∧ (after (.moduleReset 1) s).boot.cause = 1) := by decide +kernel

theorem test_standby_and_warm :
    (let s := withBoot (fun b => { b with standbyEntry := true }) { up with mem := [(5, 1), (lpBase, 2)] }
     s.boot.standbyEntry = true ∧ (after .standbyEntered s).mem = [(lpBase, 2)] ∧ (after .standbyEntered s).boot.service = 4) ∧
    (up.boot.standbyEntry = false ∧ after .standbyEntered up = up) ∧
    (let s := withBoot (fun b => { b with warmReset := true })
       { up with mem := [(5, 1), (lpBase, 2)], job := { up.job with resetting := true } }
     s.boot.warmReset = true ∧ (∀ e ∈ s.net.flows, e.2.buffer = []) ∧ s.Quiet ∧ s.job.resetting = true ∧
     (after .warmResetComplete s).mem = [(lpBase, 2)]) ∧
    up.boot.warmReset = false := by decide +kernel

/-! ## A slot that passes its checks (R440 to R445) -/

/-- Bytes listed one after the other from an address. -/
def listing : Nat → List Byte → Tab Byte
  | _, [] => []
  | a, b :: l => (a, b) :: listing (a + 1) l

theorem listing_get (d : Byte) (t : Tab Byte) (l : List Byte) : ∀ a j, Tab.get d (listing a l ++ t) j =
    if a ≤ j ∧ j < a + l.length then nth d l (j - a) else Tab.get d t j := by
  induction l with
  | nil => intro a j; rw [if_neg (by simp only [List.length_nil]; omega)]; rfl
  | cons b l ih =>
    intro a j
    simp only [listing, List.cons_append, Tab.get, ih, List.length_cons]
    by_cases h : j = a
    · subst h; rw [if_pos rfl, if_pos (by omega), Nat.sub_self]; rfl
    · rw [if_neg h]
      by_cases h2 : a + 1 ≤ j ∧ j < a + 1 + l.length
      · rw [if_pos h2, if_pos (by omega), show j - a = (j - (a + 1)) + 1 by omega]; rfl
      · rw [if_neg h2, if_neg (by omega)]

theorem slotRead_eq (t : Tab Byte) (l : List Byte) : ∀ a, (∀ i, i < l.length → Tab.get 0xFF t (a + i) = nth 0xFF l i) →
    slotRead t a l.length = l := by
  induction l with
  | nil => intro a h; rfl
  | cons b l ih =>
    intro a h
    have h0 := h 0 (by simp)
    have ht := ih (a + 1) (fun i hi => by
      have := h (i + 1) (by simpa using hi)
      rw [show a + 1 + i = a + (i + 1) by omega, this]; rfl)
    simp only [List.length_cons, slotRead]
    rw [ht]
    simpa [nth] using h0

theorem memRead_eq (t : Memory) (l : List Byte) : ∀ a, (∀ i, i < l.length → memGet t (a + i) = nth 0 l i) →
    memRead t a l.length = l := by
  induction l with
  | nil => intro a h; rfl
  | cons b l ih =>
    intro a h
    have h0 := h 0 (by simp)
    have ht := ih (a + 1) (fun i hi => by
      have := h (i + 1) (by simpa using hi)
      rw [show a + 1 + i = a + (i + 1) by omega, this]; rfl)
    simp only [List.length_cons, memRead]
    rw [ht]
    simpa [nth] using h0

/-- The firmware bundle: its magic and security version 3. -/
def bundle0 : List Byte := [0x4E, 0x4D, 0x4B, 0x46, 1, 3]

/-- The configuration: a primacy record, an address table and a role table. -/
def conf0 : List Byte :=
  [0x4E, 0x4D, 0x4B, 0x43, 1, 0, 0, 0] ++ leBytes 4 3 ++ leBytes 4 0 ++
  leBytes 2 0x10 ++ leBytes 2 1 ++ [0, 0, 0, 0] ++
  leBytes 2 0x11 ++ leBytes 2 272 ++ List.replicate 272 7 ++ [0, 0, 0, 0] ++
  leBytes 2 0x12 ++ leBytes 2 8 ++ [0, 1, 2, 3, 4, 5, 6, 7] ++ [0, 0, 0, 0]

def head64 : List Byte := [0x4E, 0x4D, 0x4B, 0x48, 1, 0, 0, 0] ++ leBytes 8 1 ++ leBytes 4 6 ++ leBytes 4 320 ++ List.replicate 40 0
def head0 : List Byte := head64 ++ (shake256 head64 64 ++ List.replicate 3968 0)

theorem conf0_length : conf0.length = 320 := by decide +kernel
theorem head0_ok : slotHeaderOk head0 = true ∧ fld head0 16 4 = 6 ∧ fld head0 20 4 = 320 ∧ head0.length = 4096 := by decide +kernel
theorem conf0_ok : (confParse conf0).isSome = true := by decide +kernel
theorem bundle0_ok : bundle0.take 5 = [0x4E, 0x4D, 0x4B, 0x46, 1] ∧ fld bundle0 5 1 = 3 := by decide +kernel

/-- An image of these three parts, under the keys of its trailers, has no failure, if both signatures verify. -/
theorem slot_ok (hv : ∀ k m s, Config.slhVerify k m s = true) (img : SlotImage) (fuse : Fuses) (h0 : img.bytes 0 4096 = head0)
    (h1 : img.bytes 4096 6 = bundle0) (h2 : img.bytes confBase 320 = conf0) (hs : fuse.minSecurity ≤ 3)
    (ho : fuse.oavarHash = shake256 ((img.bytes 4102 29856).take 64) 64)
    (hw : fuse.owners = [⟨shake256 ((img.bytes (confBase + 320) 29856).take 64) 64, false⟩]) :
    (checkSlot fuse img).failures = [] := by
  obtain ⟨a1, a2, a3, -⟩ := head0_ok
  obtain ⟨b1, b2⟩ := bundle0_ok
  have hown : fuse.ownerHash = some (shake256 ((img.bytes (confBase + 320) 29856).take 64) 64) := by
    simp [Fuses.ownerHash, hw]
  simp only [checkSlot, h0, a1, a2, a3, h1, h2, b1, b2, conf0_ok, hown, ho, hs, trailerOk, hv]
  simp

def slot0 : Tab Byte := listing 0 head0 ++ (listing 4096 bundle0 ++ (listing confBase conf0 ++ []))

/-- Fuses that hold the hashes of the keys of an image's trailers. -/
def fusesFor (img : SlotImage) : Fuses :=
  { (Device.reset.fuse 0) with
    oavarHash := shake256 ((img.bytes 4102 29856).take 64) 64
    owners := [⟨shake256 ((img.bytes (confBase + 320) 29856).take 64) 64, false⟩], minSecurity := 0 }

theorem fusesFor_ok (hv : ∀ k m s, Config.slhVerify k m s = true) (img : SlotImage) (h0 : img.bytes 0 4096 = head0)
    (h1 : img.bytes 4096 6 = bundle0) (h2 : img.bytes confBase 320 = conf0) : (checkSlot (fusesFor img) img).failures = [] :=
  slot_ok hv img (fusesFor img) h0 h1 h2 (Nat.zero_le 3) rfl rfl

theorem slot0_reads : slotRead slot0 0 4096 = head0 ∧ slotRead slot0 4096 6 = bundle0 ∧ slotRead slot0 confBase 320 = conf0 := by
  have hh := head0_ok.2.2.2
  have hc := conf0_length
  have hb : bundle0.length = 6 := rfl
  refine ⟨?_, ?_, ?_⟩
  · rw [← hh]; apply slotRead_eq; intro i hi
    rw [slot0, listing_get, if_pos (by omega), Nat.zero_add, Nat.sub_zero]
  · rw [← hb]; apply slotRead_eq; intro i hi
    rw [slot0, listing_get, if_neg (by omega), listing_get, if_pos (by omega), Nat.add_sub_cancel_left]
  · rw [← hc]; apply slotRead_eq; intro i hi
    rw [slot0, listing_get, if_neg (by unfold confBase; omega), listing_get, if_neg (by unfold confBase; omega), listing_get,
      if_pos (by omega), Nat.add_sub_cancel_left]

def img0 : SlotImage := ⟨fun a n => slotRead slot0 a n⟩

/-- Released from reset, with slot A as built above (or slot B, for `b`). -/
def rooting (b : Bool) : Device :=
  { Device.reset with
    fuses := [(0, fusesFor img0), (1, fusesFor img0)]
    boot := { Boot.reset with slotA := if b then [] else slot0, slotB := slot0 } }

/-- The release clauses: slot A passes, slot A fails and slot B passes, both fail. -/
theorem test_release (hv : ∀ k m s, Config.slhVerify k m s = true) :
    (((rooting false).mp 0).run = 1 ∧ (rooting false).boot.wantPrimary = none ∧
     (checkSlot ((rooting false).fuse 0) ((rooting false).slotImage 0)).ok = true) ∧
    (((rooting true).mp 0).run = 1 ∧ (rooting true).boot.wantPrimary = none ∧
     (checkSlot ((rooting true).fuse 0) ((rooting true).slotImage 0)).ok = false ∧
     (checkSlot ((rooting true).fuse 0) ((rooting true).slotImage 1)).ok = true) := by
  obtain ⟨r0, r1, r2⟩ := slot0_reads
  have key : (checkSlot (fusesFor img0) img0).ok = true := by
    rw [SlotCheck.ok, fusesFor_ok hv img0 r0 r1 r2]; rfl
  have bad : slotHeaderOk (slotRead [] 0 4096) = false := by decide +kernel
  refine ⟨⟨rfl, rfl, key⟩, rfl, rfl, ?_, key⟩
  show (checkSlot (fusesFor img0) ⟨fun a n => slotRead [] a n⟩).ok = false
  simp only [checkSlot, bad]; rfl

theorem test_release_recovery :
    ((Device.reset.mp 0).run = 1 ∧ Device.reset.boot.wantPrimary = none ∧
     (checkSlot (Device.reset.fuse 0) (Device.reset.slotImage 0)).ok = false ∧
     (checkSlot (Device.reset.fuse 0) (Device.reset.slotImage 1)).ok = false ∧
     ((after (.mpRelease 0) Device.reset).mp 0).run = 3 ∧ ((after (.mpRelease 0) Device.reset).mp 0).standoff = true) ∧
    ((up.mp 0).run ≠ 1 ∧ after (.mpRelease 0) up = up) := by decide +kernel

def source0 : Memory := listing updateSource head0 ++ (listing (updateSource + 4096) bundle0 ++ (listing (updateSource + confBase) conf0 ++ []))

theorem source0_reads : memRead source0 updateSource 4096 = head0 ∧ memRead source0 (updateSource + 4096) 6 = bundle0 ∧
    memRead source0 (updateSource + confBase) 320 = conf0 := by
  have hh := head0_ok.2.2.2
  have hc := conf0_length
  have hb : bundle0.length = 6 := rfl
  refine ⟨?_, ?_, ?_⟩
  · rw [← hh]; apply memRead_eq; intro i hi
    rw [memGet, source0, listing_get, if_pos (by omega), Nat.add_sub_cancel_left]
  · rw [← hb]; apply memRead_eq; intro i hi
    rw [memGet, source0, listing_get, if_neg (by omega), listing_get, if_pos (by omega), Nat.add_sub_cancel_left]
  · rw [← hc]; apply memRead_eq; intro i hi
    rw [memGet, source0, listing_get, if_neg (by unfold confBase; omega), listing_get, if_neg (by unfold confBase; omega), listing_get,
      if_pos (by omega), Nat.add_sub_cancel_left]

/-- In full service without a job, with a sound slot and an image in the update source. -/
def updating : Device :=
  let s : Device := { up with mem := source0, boot := { up.boot with slotValid := [true, true] } }
  { s with fuses := [(0, fusesFor s.sourceImage), (1, fusesFor s.sourceImage)] }

/-- The clauses of a hamper update that is not refused. -/
theorem test_hamper_update (hv : ∀ k m s, Config.slhVerify k m s = true) :
    updating.updateRefused (updating.answerer 0) 1 = none ∧
    (checkSlot (updating.fuse (updating.answerer 0)) updating.sourceImage).failures = [] := by
  obtain ⟨r0, r1, r2⟩ := source0_reads
  have hf : updating.fuse (updating.answerer 0) = fusesFor updating.sourceImage := rfl
  rw [hf]
  exact ⟨rfl, fusesFor_ok hv _ r0 r1 r2⟩

/-! ## Bring-up, primacy, identity (R444 to R459) -/

/-- Both processors run, nothing is up yet. -/
def rising : Device := { withBoot (fun b => { b with service := 0 }) up with dies := [], net := Net.reset }

/-- Every part a full service needs, with the host's ports tried. -/
def allParts : List Part := (Part.port 0 :: Part.port 8 :: rising.partsNeeded)

def heardUp : Device := { up with mps := up.mps.map (fun (e : Nat × Mp) => (e.1, { e.2 with heard := true })) }
/-- The processors run and have heard one another, and nothing is agreed. -/
def meeting : Device := withBoot (fun b => { b with agreed := false, service := 0 }) heardUp

theorem test_parts :
    (rising.boot.service < 2 ∧ Part.die 0 ∉ rising.boot.up ∧ Part.die 0 ∉ rising.boot.failedParts ∧ 2 ≤ (rising.mp 0).run ∧
     Part.die 0 ∈ [Part.die 0, .stack 0, .stack 1, .stack 2, .port 0, .port 8, .port 16] ∧
     ((after (.partBringUpComplete (.die 0) true) rising).die 0).power = 0 ∧
     (after (.partBringUpComplete (.die 0) false) rising).log.entries.map (·.code) = [Code.bootTrainingFail]) ∧
    (let s := withBoot (fun b => { b with service := 1 }) rising
     s.standoff = false ∧ s.boot.agreed = true ∧ s.boot.stopBringUp = false ∧ s.boot.service = 1 ∧ s.power.level < 3 ∧
     (after (.partBringUpComplete (.die 3) true) s).boot.up = [.die 3]) := by decide +kernel

theorem test_stroll_and_full :
    (let s := withBoot (fun b => { b with up := [.die 0, .stack 0, .stack 1, .stack 2, .port 0], failedParts := [.port 8] }) rising
     s.boot.service = 0 ∧ (s.mp 0).run = 2 ∧ Part.die 0 ∈ s.boot.up ∧ Part.stack 0 ∈ s.boot.up ∧ Part.stack 1 ∈ s.boot.up ∧
     Part.stack 2 ∈ s.boot.up ∧ Part.port 0 ∈ s.boot.up ++ s.boot.failedParts ∧ Part.port 8 ∈ s.boot.up ++ s.boot.failedParts ∧
     s.boot.agreed = true ∧ (after (.strollService 900) s).boot.service = 1 ∧ (after (.strollService 5000) s).boot.strollMs = 4095 ∧
     (let t := withBoot (fun b => { b with agreed := false }) s
      t.boot.agreed = false ∧ t.standoff = false ∧ after (.strollService 900) t = t)) ∧
    (let s := withBoot (fun b => { b with service := 1, up := allParts }) up
     s.boot.service = 1 ∧ s.boot.agreed = true ∧ s.standoff = false ∧ s.boot.stopBringUp = false ∧ s.power.level < 3 ∧
     (∀ y ∈ s.partsNeeded, y ∈ s.boot.up) ∧ (∀ y ∈ s.boot.failedParts, vital y = false) ∧
     (after .fullService s).boot.service = 2) := by decide +kernel

theorem test_late :
    (rising.bringingUp = true ∧ (after .bootFullLate rising).log.entries.map (·.code) = [Code.bootFullLate] ∧
     Part.device 11 ∈ (after .bringUpDeadline rising).boot.failedParts) ∧
    (up.bringingUp = false ∧ after .bringUpDeadline up = up) := by decide +kernel

theorem test_primacy :
    ((meeting.mp 0).run = 2 ∧ (meeting.mp 1).run = 2 ∧ (meeting.mp 0).heard = true ∧ meeting.standoff = false ∧
     meeting.boot.agreed = false ∧ meeting.sameLoad = true ∧ meeting.strapAgrees = true ∧
     (after (.heartbeat 0) meeting).boot.agreed = true) ∧
    (let s := { meeting with mps := meeting.mps.map (fun (e : Nat × Mp) => (e.1, { e.2 with slot := e.1 })) }
     (s.mp 0).run = 2 ∧ (s.mp 1).run = 2 ∧ (s.mp 0).heard = true ∧ s.standoff = false ∧ s.boot.agreed = false ∧ s.sameLoad = false ∧
     ((after (.heartbeat 0) s).mp 1).standoff = true) ∧
    (2 ≤ (up.mp 1).run ∧ (up.mp 1).heard = false ∧ ((after (.heartbeat 1) up).mp 0).heard = true) := by decide +kernel

/-- Full service in Standoff, from a lost heartbeat. -/
def parted : Device := after .heartbeatLost heardUp

theorem test_heartbeat_lost :
    (heardUp.boot.heartbeatLost = false ∧ (heardUp.mp 0).run = 2 ∧ (heardUp.mp 1).run = 2 ∧ heardUp.standoff = false ∧
     (heardUp.die 3).power = 0 ∧ (parted.die 3).power = 1) ∧
    (let s := { withBoot (fun b => { b with wantPrimary := some 1 }) parted with
       mps := parted.mps.map (fun (e : Nat × Mp) => (e.1, { e.2 with heard := true })) }
     s.standoff = true ∧ (s.mp 0).heard = true ∧ (s.mp 1).heard = true ∧ s.boot.wantPrimary = some 1 ∧ s.sameLoad = true ∧
     (after .heartbeatRestored s).primary = 1 ∧ (after .heartbeatRestored s).standoff = false ∧
     (let t := withBoot (fun b => { b with wantPrimary := none }) s
      t.boot.wantPrimary = none ∧ (after .heartbeatRestored t).boot.heartbeatLost = false ∧
      (after .heartbeatRestored t).standoff = true)) := by decide +kernel

theorem test_identity :
    ((up.mp 0).run = 2 ∧ (up.mp 0).endorsement = [] ∧ (up.mp 0).slot = 0) ∧
    (let s := { up with ops := [op 0x06000001 0], mps := up.mps.map (fun (e : Nat × Mp) => (e.1,
       { e.2 with endorsement := [1], quoting := true, quoteHandle := 0x06000001, quoteKey := key0 })) }
     (s.mp 0).quoting = true ∧ (s.mp 0).endorsement ≠ [] ∧
     s.ops.find? (fun o => o.handle == (s.mp 0).quoteHandle) = some (op 0x06000001 0)) ∧
    (let s := withBoot (fun b => { b with updateSlot := 1, updateSector := 1022 }) { up with ops := [op 0x04000001 0] }
     s.liveOp 4 = some (op 0x04000001 0) ∧ s.boot.updateSlot < 2 ∧ s.boot.updateSector < 1023 ∧
     s.waitsForDie updateSource = none) ∧
    up.liveOp 4 = none := by decide +kernel

/-! ## Ports (R410, R411, R419 to R422, R477) -/

def withPort (n : Nat) (f : Port → Port) (s : Device) : Device := s.modPort n f
def withFlow (k : Nat) (f : Flow) (s : Device) : Device := { s with net := { s.net with flows := [(k, f)] } }
def frame0 : Frame :=
  { port := 0, dst := 0, kind := 0x07, flow := 0, seq := 4, ackSeq := 0, grant := 16, ackReq := false, retx := false, last := true
    hold := false, handle := 0, sub := 0, epoch := 0, payload := [9] }

theorem test_foreign_discovery_pause :
    (after (.foreignPacket 3) up).counters = [(0x23108, 1), (0x23168, 1)] ∧
    (up.hamper = some hamper0 ∧ (up.port 2).inUse = true ∧ hamper0.addresses[2]? = some 1002 ∧
     (after (.neighbourDiscovery 2 5 1002) up).net.answers = [(5, 1002)] ∧ 2 < hamper0.addresses.length ∧
     hamper0.addresses[2]? ≠ some 1003 ∧ after (.neighbourDiscovery 2 5 1003) up = up) ∧
    (hamper0.pfc = true ∧ hamper0.pfcPriority = 3 ∧ ((after (.pauseFrame 2 3 true) up).port 2).paused = true ∧
     hamper0.pfcPriority ≠ 4 ∧ after (.pauseFrame 2 4 true) up = up) := by decide +kernel

theorem test_flow_timers :
    ((after (.ecnRateRaise 5) up).flow 5).rate = min 10000 ((up.flow 5).rate + 100) ∧
    (up.flow 5).toAck = 0 ∧
    (let s := withFlow 5 { Flow.reset with toAck := 3, rxDue := 9 } up
     (s.flow 5).toAck ≠ 0 ∧ s.sideOpen 5 0 = true ∧ (after (.ackDelayExpiry 5) s).net.sent.map (fun a => (a.kind, a.ackSeq)) = [(0x3F, 9)]) ∧
    (up.flow 5).unacked = [] ∧
    (let s := withFlow 5 { Flow.reset with unacked := [frame0], resends := 7 } up
     (s.flow 5).unacked = [frame0] ∧ frame0.kind ≠ 1 ∧ (s.flow 5).held = false ∧ s.pairUp 5 = true ∧ s.isHeld (.netFlow 5) = false ∧
     (s.flow 5).resends < 8 ∧ s.sideOpen 5 0 = true ∧ (after (.retransmitTimeout 5) s).net.sent.map (fun a => (a.seq, a.retx)) = [(4, true)]) ∧
    (let s := withFlow 5 { Flow.reset with unacked := [frame0], resends := 8 } up
     (s.flow 5).unacked = [frame0] ∧ (s.flow 5).held = false ∧ s.isHeld (.netFlow 5) = false ∧ 8 ≤ (s.flow 5).resends ∧
     ((after (.retransmitTimeout 5) s).flow 5).held = true) := by decide +kernel

theorem test_links :
    ((up.port 3).link = true ∧ (up.port 3).inUse = true ∧ ((after (.linkDown 3) up).port 3).failed = true ∧
     ((after (.linkDown 3) up).log.entries.map (·.code)).head? = some Code.netLinkDown) ∧
    (let s := withPort 11 (fun p => { p with link := false, inUse := false, failed := true }) up
     (s.port 11).link = false ∧ (s.port 3).inUse = true ∧ (s.port (3 + 8)).inUse = false ∧ (s.port 3).replays = 0 ∧
     ((after (.replayRound 3) s).port 3).replays = 1 ∧
     (let t := withPort 3 (fun p => { p with replays := 1 }) s
      (t.port 3).inUse = true ∧ (t.port (3 + 8)).inUse = false ∧ (t.port 3).replays ≠ 0 ∧ after (.replayRound 3) t = t) ∧
     (s.port 11).failed = true ∧ ((after (.linkReturn 11) s).port 11).awaiting = true) ∧
    (up.port 3).failed = false ∧
    (let s := withPort 3 (fun p => { p with training := true, failed := true, link := false, inUse := false }) up
     (s.port 3).training = true ∧ (s.port 3).failed = true ∧ ((after (.portResetComplete 3) s).port 3).inUse = true ∧
     (after (.portResetComplete 3) s).log.entries.map (·.code) = [Code.netPairRestored]) ∧
    (up.port 3).training = false := by decide +kernel

theorem test_optics :
    (let s := withPort 3 (fun p => { p with optic := false }) up
     s.off = false ∧ (s.port 3).optic = false ∧ ((after (.opticChange 3 true false) s).port 3).optic = true) ∧
    ((up.port 3).optic = true ∧ (up.port 3).link = true ∧ ((after (.opticChange 3 false false) up).port 3).inUse = false ∧
     Code.netOpticChange ∈ (after (.opticChange 3 false false) up).log.entries.map (·.code)) ∧
    after (.opticChange 3 true true) up = up := by decide +kernel

/-! ## The faceplate, the rear and the log (R429 to R432, R472 to R503) -/

def pressed : Device := after .attendPress up

theorem test_attend :
    (up.off = false ∧ up.panel.pending = false ∧ up.panel.removing = false ∧
     pressed.panel.pending = true ∧ (after .ejectorLift up).panel.cause = 1) ∧
    (pressed.off = false ∧ pressed.panel.pending = true ∧ (after .attendPress pressed).panel.presses = 2 ∧
     (after .attendPress pressed).log.entries.map (·.count) = [2] ∧ (after .ejectorLower pressed).panel.pending = true) ∧
    (after .ejectorLower up).panel.ejector = false ∧
    ((∃ k ∈ up.reportFlows, up.sideUp (keyPair k) 0 = true) ∧ after .attendReqResend up = up) ∧
    (let s := withPanel (fun p => { p with lightMode := 2, lightDuration := 9 }) up
     s.panel.lightDuration ≠ 0 ∧ (after .lightTestExpiry s).panel.lightMode = 0) ∧
    (up.panel.lightDuration = 0 ∧ after .lightTestExpiry up = up) := by decide +kernel

theorem test_coolant_strap :
    ((after (.coolantSample 700 800 900 false) up).panel.inlet = 700 ∧ up.panel.hotInlet = false ∧ up.panel.lowFlow = false ∧
     (after (.coolantSample 641 800 800 true) up).log.entries.map (·.code) = [Code.modCoolant] ∧
     (after (.coolantSample 640 800 799 true) up).log.entries.map (·.code) = [Code.modCoolant]) ∧
    (up.boot.strapPin = 0 ∧ after (.strapChange 0) up = up ∧
     (after (.strapChange 1) up).log.entries.map (·.code) = [Code.modStrapChanged]) := by decide +kernel

theorem test_sideband :
    (let s := after (.i2cSnapshotRefresh 480) up
     s.i2cUp = true ∧ s.panel.snapshot.length = 22 ∧
     (after (.i2cRead 2) (after (.i2cWrite 1 [9]) s)).panel.i2cOut = (s.panel.snapshot.drop 1).take 2) := by decide +kernel

theorem test_clocks :
    (up.panel.coreHoldover = false ∧ (after (.refclockLoss false) up).log.entries.map (·.code) = [Code.modRefclockLost] ∧
     up.panel.serdesHoldover = false ∧ (up.port 5).link = true ∧ ((after (.refclockLoss true) up).port 5).inUse = false) := by
  decide +kernel

def withLog (f : ErrLog → ErrLog) (s : Device) : Device := { s with log := f s.log }
/-- An error that no report has carried. -/
def unreported : Device := withLog (fun l => { l with entries := l.entries.map (fun e => { e with reported := false }) }) (after (.strapChange 1) up)

theorem test_reports :
    (let s := { up with net := { up.net with statusDue := true } }
     s.net.statusDue = true ∧ s.off = false ∧ (after .statusChangeReport s).net.statusDue = false) ∧
    up.net.statusDue = false ∧
    ((unreported.log.entries.filter (fun e => !e.reported)).take 256 ≠ [] ∧
     (after .errorReport unreported).log.entries.map (·.reported) = [true]) ∧
    (up.log.entries.filter (fun e => !e.reported)).take 256 = [] ∧ after .errorReport up = up := by decide +kernel

theorem test_saves :
    (unreported.log.changed = true ∧ unreported.log.saving = false ∧ unreported.off = false ∧ (after .logSavePeriodic unreported).log.saving = true) ∧
    (up.log.changed = false ∧ up.log.saving = false) ∧
    (let s := withLog (fun l => { l with saving := true }) unreported
     s.log.saving = true ∧ s.log.clearAfterSave = false ∧ (after .logSaveComplete s).log.flash.map (·.code) = [Code.modStrapChanged] ∧
     (let t := withLog (fun l => { l with clearAfterSave := true }) s
      t.log.clearAfterSave = true ∧ (after .logSaveComplete t).log.entries = [])) ∧
    (let s := withLog (fun l => { l with saving := true }) (withPanel (fun p => { p with removing := true })
       { up with dies := up.dies.map (fun e => (e.1, { e.2 with power := 2 })) })
     s.panel.removing = true ∧ s.panel.removalReady = false ∧ s.stilled = true ∧ (after .logSaveComplete s).panel.removalReady = true) := by
  decide +kernel

/-! ## The queue and the invariant -/

theorem test_step : step ⟨up, [.attendPress, .ejectorLower]⟩ = exec .attendPress ⟨up, [.ejectorLower]⟩ ∧ step ⟨up, []⟩ = .next ⟨up, []⟩ :=
  ⟨rfl, rfl⟩

theorem reset_inv : State.reset.Inv := rfl

/-- A state of a run that lists memory meets the invariant. -/
theorem some_inv : State.Inv ⟨{ up with mem := [(5, 1), (lpBase, 2)] }, []⟩ := by
  unfold State.Inv; decide

/-! ## Ill-formed commands, one for each check -/

theorem test_wf_msg :
    Instr.wf (.read msg0) = true ∧ Instr.wf (.read { msg0 with port := 17 }) = false ∧ Instr.wf (.read { msg0 with version := 16 }) = false ∧
    Instr.wf (.read { msg0 with flow := 4096 }) = false ∧ Instr.wf (.read { msg0 with grant := 65536 }) = false ∧
    Instr.wf (.read { msg0 with port := 3, mp1 := true }) = false ∧ Instr.wf (.reduceChunk (.own 2 0 false)) = false ∧
    Instr.wf (.reduceChunk (.own 1 (2 ^ 32) false)) = false ∧ Instr.wf (.reduceChunk (.remote { msg0 with port := 17 })) = false := by
  decide +kernel

theorem test_wf_payload : Msg.wf { msg0 with payload := List.replicate 9115 0 } = false := by
  have h : ¬({ msg0 with payload := List.replicate 9115 0 } : Msg).payload.length ≤ 9114 := by
    show ¬(List.replicate 9115 (0 : Byte)).length ≤ 9114
    rw [List.length_replicate]; omega
  rw [Msg.wf, decide_eq_false h, Bool.and_false, Bool.false_and]

theorem test_wf_program (c : ProgCmd) :
    ProgCmd.wf { c with d := 4 } = false ∧ ProgCmd.wf { c with q := 4 } = false ∧ ProgCmd.wf { c with play := 8 } = false ∧
    ProgCmd.wf { c with token := 65536 } = false ∧ ProgCmd.wf { c with index := 2 ^ 32 } = false := by
  simp [ProgCmd.wf]

theorem test_wf_units :
    Instr.wf (.memoryReadReturn (.array 576 0) .hbm 0 .clean) = false ∧ Instr.wf (.memoryReadReturn (.vector 0 4) .hbm 0 .clean) = false ∧
    Instr.wf (.memoryReadReturn (.pipe 576 0) .hbm 0 .clean) = false ∧ Instr.wf (.memoryReadReturn (.move 4 0 0) .hbm 0 .clean) = false ∧
    Instr.wf (.memoryReadReturn (.reductionSender 2) .hbm 0 .clean) = false ∧ Instr.wf (.memoryReadReturn (.update 2) .hbm 0 .clean) = false ∧
    Instr.wf (.memoryReadReturn (.engine 0 16) .hbm 0 .clean) = false ∧ Instr.wf (.memoryReadReturn .host .hbm (2 ^ 48) .clean) = false ∧
    Instr.wf (.thermalTrip (.stripe 24)) = false ∧ Instr.wf (.thermalTrip (.pdie 2)) = false ∧ Instr.wf (.thermalTrip (.pdieHot 2)) = false ∧
    Instr.wf (.thermalTrip (.stack 12)) = false ∧ Instr.wf (.railCondition (.aCore 4) 90) = false ∧
    Instr.wf (.railCondition (.pCore 2) 90) = false ∧ Instr.wf (.railCondition .hbm 256) = false ∧
    Instr.wf (.partBringUpComplete (.die 4) true) = false ∧ Instr.wf (.partBringUpComplete (.stack 12) true) = false ∧
    Instr.wf (.partBringUpComplete (.device 12) true) = false ∧ Instr.wf (.partBringUpComplete (.rail (.aCore 4)) true) = false ∧
    Instr.wf (.partBringUpComplete (.port 17) true) = false := by decide +kernel

theorem test_wf_numbers :
    Instr.wf (.inputBankReadServed 576) = false ∧ Instr.wf (.moveStart 4 0) = false ∧ Instr.wf (.moveStart 0 4) = false ∧
    Instr.wf (.moveComplete 0 0 2) = false ∧ Instr.wf (.patrolScrubGranule 6 []) = false ∧ Instr.wf (.hostScrubChunk (2 ^ 24) []) = false ∧
    Instr.wf (.formatHoldRelease 0 4) = false ∧ Instr.wf (.passComplete 0 2) = false ∧ Instr.wf (.vNop 576 f0) = false ∧
    Instr.wf (.carouselPageSend 0 2) = false ∧ Instr.wf (.carouselGradSend 0 2) = false ∧ Instr.wf (.carLapTimeout 0 4) = false ∧
    Instr.wf (.decodeStart 2) = false ∧ Instr.wf (.decodeComplete 0 16 0) = false ∧ Instr.wf (.ingestCredit 8) = false ∧
    Instr.wf (.roundWindowClose 0 (2 ^ 32) false) = false ∧ Instr.wf (.helloResend keyBound) = false ∧
    Instr.wf (.waitSatisfied 0 0 8) = false ∧ Instr.wf (.operationStopPoint (2 ^ 32)) = false ∧ Instr.wf (.energyRefill 24 0 0) = false ∧
    Instr.wf (.pauseFrame 0 8 true) = false ∧ Instr.wf (.linkDown 17) = false ∧ Instr.wf (.powerOn 2) = false ∧
    Instr.wf (.heartbeat 2) = false ∧ Instr.wf (.i2cWrite 256 []) = false ∧ Instr.wf (.strapChange 2) = false := by decide +kernel

/-! ## Waits and turns taken away -/

def still1 : Device := { withDie 1 (fun x => { x with power := 1 }) up with clusters := [(144, { Cluster.reset with invocation := some inv0 })] }

/-- A die with work in it does not park; a pair of processors that did not load the same restarts one of them. -/
theorem test_park_and_restart :
    ((still1.die 1).power = 1 ∧ still1.dieStill 1 = false ∧ still1.panel.removing = false ∧ after (.dieParked 1) still1 = still1 ∧
     still1.invoking 1 = true ∧ after (.clockStep 1) still1 = still1) ∧
    (up.liveOp 4 = none ∧ up.invoking 1 = false) ∧
    (let s := { withBoot (fun b => { b with wantPrimary := some 1 }) parted with
       mps := parted.mps.map (fun (e : Nat × Mp) => (e.1, { e.2 with slot := e.1 })) }
     s.standoff = true ∧ s.boot.wantPrimary = some 1 ∧ s.sameLoad = false ∧ ((after .heartbeatRestored s).mp 0).run = 1 ∧
     ((after .heartbeatRestored s).mp 1).run = 2) := by decide +kernel

/-- Bring-up of a port and of what a recovering processor leaves alone; ports beyond the first two join at full service. -/
theorem test_port_parts :
    (rising.power.level < 5 ∧ (rising.mp (8 / 8)).run ≠ 3 ∧ ((after (.partBringUpComplete (.port 8) true) rising).port 8).rate = 1) ∧
    (let s := { rising with mps := rising.mps.map (fun (e : Nat × Mp) => (e.1, { e.2 with run := 3 })) }
     (s.mp (8 / 8)).run = 3 ∧ after (.partBringUpComplete (.port 8) true) s = s) ∧
    (let s := withBoot (fun b => { b with service := 1, up := .port 3 :: allParts }) (withPort 3 (fun p => { p with inUse := false, rate := 0 }) up)
     Part.port 3 ∈ s.boot.up ∧ (s.port 3).optic = true ∧ ((after .fullService s).port 3).rate = 2) := by decide +kernel

/-- A paused port: what is owed waits, nothing is resent on it, and the end of the pause sends it. -/
theorem test_paused :
    (let s := withPort 5 (fun p => { p with paused := true }) (withPort 13 (fun p => { p with paused := true })
       (withFlow (flowKey 5 0 0) { Flow.reset with toAck := 3, rxDue := 9 } up))
     s.pausedFor (flowKey 5 0 0) (s.flow (flowKey 5 0 0)).rxSide = true ∧ (after (.ackDelayExpiry (flowKey 5 0 0)) s).net.sent = [] ∧
     (let t := withPort 13 (fun p => { p with paused := false }) s
      (t.port ((5 + 8) % 16)).paused = false ∧ ((after (.pauseFrame 5 3 false) t).flow (flowKey 5 0 0)).toAck = 0)) ∧
    (let s := withFlow 5 { Flow.reset with unacked := [frame0], held := true } up
     (s.flow 5).held = true ∧ after (.retransmitTimeout 5) s = s) ∧
    ((withPort 2 (fun p => { p with inUse := false }) up).port 2).inUse = false := by decide +kernel

/-- A hamper update at a sector, and at the header's, which is written last. -/
theorem test_hamper_sectors :
    (let s := withBoot (fun b => { b with updateSlot := 1, updateSector := 5 }) { up with ops := [op 0x04000001 0] }
     s.liveOp 4 = some (op 0x04000001 0) ∧ (op 0x04000001 0).state < 2 ∧ 1 ≤ s.boot.updateSector ∧ s.waitsForDie updateSource = none ∧
     (after .hamperSectorWritten s).boot.updateSector = 6) ∧
    (let s := withDie 0 (fun x => { x with power := 2 }) up
     s.waitsForDie updateSource ≠ none) := by decide +kernel

end Sys2Proof.Tests
end

section
/-! SUPPORT. Traffic: what sending, acknowledging and counting a message can change of the module, and what a flow still has to
send or to send again. -/

namespace Sys2Proof.Machine

/-- Only the flows, the frames sent and counters of ports differ. -/
structure Device.Traffic (s t : Device) : Prop where
  only : s.OnlyNet t
  net : t.net = { s.net with flows := t.net.flows, sent := t.net.sent }
  counters : ∀ o, portCounter o = false → Tab.get 0 t.counters o = Tab.get 0 s.counters o

/-- What a flow keeps to send or to send again (R418), without what a message takes from the moment it goes out. -/
def Flow.outbox (f : Flow) : List (Nat × List Byte × Word) := (f.unacked ++ f.waiting).map (fun x => (x.kind, x.payload, x.seq))

/-- A flow after some of its waiting messages went out. -/
structure Flow.WentOut (f g : Flow) : Prop where
  only : g = { f with unacked := g.unacked, waiting := g.waiting }
  outbox : g.outbox = f.outbox

theorem Flow.WentOut.trans {f g h : Flow} (a : f.WentOut g) (b : g.WentOut h) : f.WentOut h :=
  ⟨b.only.trans (by rw [a.only]), b.outbox.trans a.outbox⟩

/-- Two states of a flow that take the same messages and number the next one sent alike. -/
structure Flow.SameDue (f g : Flow) : Prop where
  txNext : g.txNext = f.txNext
  rxDue : g.rxDue = f.rxDue
  rxGrant : g.rxGrant = f.rxGrant
  rxHeld : g.rxHeld = f.rxHeld
  buffer : g.buffer = f.buffer

theorem Flow.SameDue.trans {f g h : Flow} (a : f.SameDue g) (b : g.SameDue h) : f.SameDue h :=
  ⟨b.txNext.trans a.txNext, b.rxDue.trans a.rxDue, b.rxGrant.trans a.rxGrant, b.rxHeld.trans a.rxHeld, b.buffer.trans a.buffer⟩

theorem Flow.WentOut.sameDue {f g : Flow} (h : f.WentOut g) : f.SameDue g := by
  rw [h.only]; exact ⟨rfl, rfl, rfl, rfl, rfl⟩

theorem Flow.mem_outbox {f : Flow} {kind : Nat} {payload : List Byte} {seq : Word} :
    (kind, payload, seq) ∈ f.outbox ↔ ∃ x ∈ f.unacked ++ f.waiting, x.kind = kind ∧ x.payload = payload ∧ x.seq = seq := by
  simp only [Flow.outbox, List.mem_map, Prod.mk.injEq]

theorem Device.sent_iff {s t : Device} {k kind : Nat} {payload : List Byte} :
    s.Sent t k kind payload ↔ (kind, payload, (s.flow k).txNext) ∈ (t.flow k).outbox := Flow.mem_outbox.symm

/-! ### The relation -/

theorem Device.Traffic.refl (s : Device) : s.Traffic s := ⟨rfl, rfl, fun _ _ => rfl⟩

theorem Device.Traffic.trans {s t u : Device} (h : s.Traffic t) (h' : t.Traffic u) : s.Traffic u :=
  ⟨h.only.trans h'.only, h'.net.trans (by rw [h.net]), fun o ho => (h'.counters o ho).trans (h.counters o ho)⟩

theorem Device.modFlow_traffic (s : Device) (k : Nat) (f : Flow → Flow) : s.Traffic (s.modFlow k f) :=
  ⟨rfl, rfl, fun _ _ => rfl⟩

theorem Device.bumpPort_traffic (s : Device) (p i n : Nat) (hi : i < 32) : s.Traffic (s.bumpPort p i n) := by
  refine ⟨s.bumpPort_onlyNet p i n, by simp, fun o ho => ?_⟩
  unfold Device.bumpPort
  split_ifs with hp
  · have hne : o ≠ 0x20100 + 0x1000 * p + 8 * i := by
      rintro rfl
      simp only [portCounter, Bool.and_eq_false_iff, decide_eq_false_iff_not] at ho
      omega
    rw [Device.bump_counter, if_neg hne]
  · rfl

theorem Device.emit_traffic (s : Device) (k : Nat) (f : Frame) (prefer : Nat) : s.Traffic (s.emit k f prefer) := by
  unfold Device.emit
  split
  · exact .refl s
  · dsimp only
    split_ifs
    · exact .refl s
    · refine .trans ?_ (Device.bumpPort_traffic _ _ _ _ (by omega))
      refine .trans ?_ (Device.bumpPort_traffic _ _ _ _ (by omega))
      exact ⟨rfl, rfl, fun _ _ => rfl⟩

@[simp] theorem Device.bumpPort_flow (s : Device) (p i n j : Nat) : (s.bumpPort p i n).flow j = s.flow j := by
  simp only [Device.flow, Device.bumpPort_net]

@[simp] theorem Device.emit_flow (s : Device) (k : Nat) (f : Frame) (prefer j : Nat) : (s.emit k f prefer).flow j = s.flow j := by
  unfold Device.emit
  split
  · rfl
  · dsimp only
    split_ifs
    · rfl
    · rw [Device.bumpPort_flow, Device.bumpPort_flow]; rfl

theorem Device.drain_traffic (k n : Nat) : ∀ s : Device, s.Traffic (s.drain k n) := by
  induction n with
  | zero => exact .refl
  | succ n ih =>
    intro s
    unfold Device.drain
    dsimp only
    split
    · exact .refl s
    · split_ifs
      · exact .refl s
      · exact ((Device.modFlow_traffic _ _ _).trans (Device.emit_traffic _ _ _ _)).trans (ih _)
      · exact .refl s

/-- A message that goes out moves from the end of what waits to what is unacknowledged; nothing else of its flow changes. -/
theorem Device.drain_flow (k n : Nat) : ∀ s : Device, (s.flow k).WentOut ((s.drain k n).flow k) := by
  induction n with
  | zero => exact fun s => ⟨rfl, rfl⟩
  | succ n ih =>
    intro s
    unfold Device.drain
    dsimp only
    split
    · exact ⟨rfl, rfl⟩
    next m rest hw =>
      split_ifs
      · exact ⟨rfl, rfl⟩
      · refine .trans ?_ (ih _)
        rw [Device.emit_flow, Device.modFlow_flow_same]
        exact ⟨rfl, by simp [Flow.outbox, hw]⟩
      · exact ⟨rfl, rfl⟩

/-! ### Sending and acknowledging -/

theorem Device.send_traffic (s : Device) (k kind : Nat) (last : Bool) (handle sb hint : Nat) (p : List Byte) :
    s.Traffic (s.send k kind last handle sb hint p) :=
  (Device.modFlow_traffic _ _ _).trans (Device.drain_traffic _ _ _)

/-- A message sent takes its flow's next sequence number, after what the flow already keeps. -/
theorem Device.send_outbox (s : Device) (k kind : Nat) (last : Bool) (handle sb hint : Nat) (p : List Byte) :
    ((s.send k kind last handle sb hint p).flow k).outbox = (s.flow k).outbox ++ [(kind, p, (s.flow k).txNext)] := by
  unfold Device.send
  refine (Device.drain_flow k _ _).outbox.trans ?_
  rw [Device.modFlow_flow_same]
  simp [Flow.outbox]

theorem Device.sendAck_traffic (s : Device) (k : Nat) (hold retx : Bool) (code : Nat) : s.Traffic (s.sendAck k hold retx code) := by
  unfold Device.sendAck
  dsimp only
  split
  · exact Device.modFlow_traffic _ _ _
  · exact (Device.modFlow_traffic _ _ _).trans (Device.emit_traffic _ _ _ _)

theorem Device.sendAck_outbox (s : Device) (k : Nat) (hold retx : Bool) (code : Nat) :
    ((s.sendAck k hold retx code).flow k).outbox = (s.flow k).outbox := by
  unfold Device.sendAck
  dsimp only
  split
  · rw [Device.modFlow_flow_same]; rfl
  · rw [Device.emit_flow, Device.modFlow_flow_same]; rfl

theorem Device.takeAck_traffic (s : Device) (k : Nat) (ackSeq : Word) (grant : Nat) : s.Traffic (s.takeAck k ackSeq grant) :=
  (Device.modFlow_traffic _ _ _).trans (Device.drain_traffic _ _ _)

/-- An acknowledgement taken from a message changes the sending side of its flow alone, and not the next sequence number (R418). -/
theorem Device.takeAck_flow (s : Device) (k : Nat) (ackSeq : Word) (grant : Nat) :
    (s.flow k).SameDue ((s.takeAck k ackSeq grant).flow k) := by
  refine .trans ?_ (Device.drain_flow k _ _).sameDue
  rw [Device.modFlow_flow_same]
  exact ⟨rfl, rfl, rfl, rfl, rfl⟩

/-! ### What is read of the rest of the module -/

theorem Device.OnlyNet.hasJob {s t : Device} (h : s.OnlyNet t) : t.hasJob = s.hasJob := by rw [h]; rfl
theorem Device.OnlyNet.classOk {s t : Device} (h : s.OnlyNet t) (port flow kind : Nat) :
    t.classOk port flow kind = s.classOk port flow kind := by rw [h]; rfl
theorem Device.OnlyNet.answerer {s t : Device} (h : s.OnlyNet t) (k : Nat) : t.answerer k = s.answerer k := by rw [h]; rfl
theorem Device.OnlyNet.mp {s t : Device} (h : s.OnlyNet t) (p : Nat) : t.mp p = s.mp p := by rw [h]; rfl
theorem Device.OnlyNet.job {s t : Device} (h : s.OnlyNet t) : t.job = s.job := by rw [h]
theorem Device.OnlyNet.ops {s t : Device} (h : s.OnlyNet t) : t.ops = s.ops := by rw [h]
theorem Device.OnlyNet.panel {s t : Device} (h : s.OnlyNet t) : t.panel = s.panel := by rw [h]
theorem Device.OnlyNet.boot {s t : Device} (h : s.OnlyNet t) : t.boot = s.boot := by rw [h]
theorem Device.OnlyNet.isHeld {s t : Device} (h : s.OnlyNet t) (site : Site) : t.isHeld site = s.isHeld site := by rw [h]; rfl
theorem Device.OnlyNet.writeWaits {s t : Device} (h : s.OnlyNet t) (a n : Nat) : t.writeWaits a n = s.writeWaits a n := by
  rw [h]; rfl
theorem Device.OnlyNet.writeDenied {s t : Device} (h : s.OnlyNet t) (a n : Nat) : t.writeDenied a n = s.writeDenied a n := by
  rw [h]; rfl
theorem Device.OnlyNet.backedFuel {s t : Device} (h : s.OnlyNet t) (fuel : Nat) :
    ∀ a n, t.backedFuel fuel a n = s.backedFuel fuel a n := by
  induction fuel with
  | zero => exact fun _ _ => rfl
  | succ fuel ih =>
    intro a n
    have hr : t.regionOf = s.regionOf := by rw [h]; rfl
    have hs : t.regionServes = s.regionServes := by rw [h]; rfl
    simp only [Device.backedFuel, ih, hr, hs]
theorem Device.OnlyNet.backed {s t : Device} (h : s.OnlyNet t) (a n : Nat) : t.backed a n = s.backed a n := h.backedFuel 600 a n
theorem Device.OnlyNet.writable {s t : Device} (h : s.OnlyNet t) (a n : Nat) : t.writable a n = s.writable a n := by
  have hr : t.regionOf = s.regionOf := by rw [h]; rfl
  simp only [Device.writable, h.backed, hr]

theorem Device.Traffic.requests {s t : Device} (h : s.Traffic t) : t.net.requests = s.net.requests := by rw [h.net]
theorem Device.Traffic.trusted {s t : Device} (h : s.Traffic t) (k : Nat) (m : Msg) : t.trusted k m = s.trusted k m := by
  unfold Device.trusted; rw [h.net]

end Sys2Proof.Machine
end

section
/-! SUPPORT. Delivery: a message that is due on its flow reaches what takes it, on a module that has so far only counted it and
taken its acknowledgement, and is acknowledged after it (R417 to R419). -/

namespace Sys2Proof.Machine

/-- A flow's message has been taken: the next one is due, and an ACK goes out where one is owed (R415, R419). -/
def Device.accept (s : Device) (k : Nat) (m : Msg) : Device :=
  let s := (s.modFlow k (fun f => { f with rxDue := m.seq + 1, toAck := f.toAck + 1 })).bumpPort m.port 3 1
  if m.ackReq || m.last || decide (16 ≤ (s.flow k).toAck) then s.sendAck k false false 0 else s

theorem Device.accept_traffic (s : Device) (k : Nat) (m : Msg) : s.Traffic (s.accept k m) := by
  have h : s.Traffic ((s.modFlow k (fun f => { f with rxDue := m.seq + 1, toAck := f.toAck + 1 })).bumpPort m.port 3 1) :=
    (s.modFlow_traffic k _).trans (Device.bumpPort_traffic _ _ _ _ (by omega))
  unfold Device.accept
  dsimp only
  split
  · exact h.trans (Device.sendAck_traffic _ _ _ _ _)
  · exact h

theorem Device.accept_outbox (s : Device) (k : Nat) (m : Msg) : ((s.accept k m).flow k).outbox = (s.flow k).outbox := by
  unfold Device.accept
  dsimp only
  split
  · rw [Device.sendAck_outbox, Device.bumpPort_flow, Device.modFlow_flow_same]; rfl
  · rw [Device.bumpPort_flow, Device.modFlow_flow_same]; rfl

/-! ### The steps of R417 -/

/-- What a port counts of an intact message (R436). -/
def Device.counted (s : Device) (m : Msg) : Device := (s.bumpPort m.port 1 1).bumpPort m.port 12 (if m.ce then 1 else 0)

theorem Device.counted_traffic (s : Device) (m : Msg) : s.Traffic (s.counted m) :=
  (Device.bumpPort_traffic _ _ _ _ (by omega)).trans (Device.bumpPort_traffic _ _ _ _ (by omega))

theorem Device.bumpPort_peerIndex (s : Device) (p i n port : Nat) (src : BitVec 128) :
    (s.bumpPort p i n).peerIndex port src = s.peerIndex port src := by
  rw [Device.bumpPort_only]; rfl

theorem Device.OnlyNet.pairAt {s t : Device} (h : s.OnlyNet t) (m : Msg) : t.pairAt m = s.pairAt m := by rw [h]; rfl

/-- Steps 1 and 2 of R417 let an intact message of a known source through. -/
theorem Device.receive_of_arrives {s : Device} {kind k : Nat} {m : Msg} (h : s.Arrives kind k m) (dl : Deliver) :
    s.receive dl kind m = Device.receiveOn dl (s.counted m) kind k m := by
  obtain ⟨-, hUse, hIntact, hVersion, hHold, hLen, hType, ⟨peer, hPeer, rfl⟩, -⟩ := h
  have hp : (s.counted m).peerIndex m.port m.src = some peer := by
    simp only [Device.counted, Device.bumpPort_peerIndex, hPeer]
  have hform : ¬(m.version ≠ 1 ∨ (m.hold = true ∧ kind ≠ 0x3F) ∨ 9114 < m.payload.length ∨ typeClass kind = 6) := by
    rintro (h | ⟨h, h'⟩ | h | h)
    · exact h hVersion
    · rcases hHold with e | e
      · simp [e] at h
      · exact h' e
    · omega
    · exact hType h
  rw [← (s.counted_traffic m).only.pairAt m]
  unfold Device.receive
  simp only [hUse, hIntact, Bool.not_true, Bool.false_eq_true, if_false]
  rw [← Device.counted, hp]
  exact if_neg hform

/-- The sender of a message is noted in its flow (R412, R419). -/
def Device.heard (s : Device) (k : Nat) (m : Msg) : Device :=
  s.modFlow k (fun f => { f with src := m.src, rxSide := m.port / 8 % 2, ceSeen := f.ceSeen + (if m.ce then 1 else 0) })

/-- The sender of a message is noted and its acknowledgement taken (R412, R418). -/
def Device.noted (s : Device) (k : Nat) (m : Msg) : Device := (s.heard k m).takeAck k m.ackSeq m.grant

theorem Device.noted_traffic (s : Device) (k : Nat) (m : Msg) : s.Traffic (s.noted k m) :=
  (Device.modFlow_traffic _ _ _).trans (Device.takeAck_traffic _ _ _ _)

theorem Device.noted_flow (s : Device) (k : Nat) (m : Msg) : (s.flow k).SameDue ((s.noted k m).flow k) := by
  refine .trans ?_ (Device.takeAck_flow _ k m.ackSeq m.grant)
  rw [Device.heard, Device.modFlow_flow_same]
  exact ⟨rfl, rfl, rfl, rfl, rfl⟩

/-- A message stands in its flow's buffer (R413). -/
def Device.buffered (s : Device) (kind k : Nat) (m : Msg) : Device :=
  s.modFlow k (fun f => { f with buffer := f.buffer ++ [(kind, m)] })

/-- The module as the meaning of a due message finds it. -/
def Device.handed (s : Device) (kind k : Nat) (m : Msg) : Device :=
  (((s.counted m).noted k m).buffered kind k m).modFlow k (fun f => { f with buffer := f.buffer.erase (kind, m) })

theorem Device.handed_traffic (s : Device) (kind k : Nat) (m : Msg) : s.Traffic (s.handed kind k m) :=
  (((s.counted_traffic m).trans (Device.noted_traffic _ _ _)).trans (Device.modFlow_traffic _ _ _)).trans
    (Device.modFlow_traffic _ _ _)

theorem Device.counted_noted_flow (s : Device) (k : Nat) (m : Msg) : (s.flow k).SameDue (((s.counted m).noted k m).flow k) := by
  have h := (s.counted m).noted_flow k m
  rwa [Device.counted, Device.bumpPort_flow, Device.bumpPort_flow, ← Device.counted] at h

theorem Device.handed_txNext (s : Device) (kind k : Nat) (m : Msg) : ((s.handed kind k m).flow k).txNext = (s.flow k).txNext := by
  simp only [Device.handed, Device.buffered, Device.modFlow_flow_same, (s.counted_noted_flow k m).txNext]

/-- Steps 3 to 6 of R417 put a message that is due into its flow's empty buffer. -/
theorem Device.receiveOn_of_due {s : Device} {kind k : Nat} {m : Msg} (h : s.Due kind k m) (dl : Deliver) :
    Device.receiveOn dl (s.counted m) kind k m =
      Device.deliverFrom dl k 1 (((s.counted m).noted k m).buffered kind k m) := by
  obtain ⟨⟨-, -, -, -, -, -, -, -, hOffset, hClass, hMatch⟩, hAck, hEpoch, hSeq, hBuf, hCredit, -, -⟩ := h
  have hc := (s.counted_traffic m).only
  have hn := s.counted_noted_flow k m
  have hh : s.OnlyNet ((s.counted m).heard k m) := hc.trans (Device.modFlow_only _ _ _)
  have hflow : ¬(!offsetUsed m.flow || !(s.counted m).classOk m.port m.flow kind ||
      (typeClass kind != 7 && (typeClass kind != flowClass m.flow || !typeOffset kind m.flow))) = true := by
    rw [hc.classOk, hOffset, hClass]
    rcases hMatch with e | ⟨e, e'⟩
    · simp [e]
    · simp [e, e']
  have hepoch : ¬(flowClass m.flow ≠ 0 ∧ m.epoch.toNat ≠
      (if ((s.counted m).heard k m).hasJob then ((s.counted m).heard k m).job.epoch else 0)) := by
    rw [hh.hasJob, hh.job]
    tauto
  have hsession : ¬(flowClass m.flow = 0 ∧ m.seq = 0 ∧ (((s.counted m).noted k m).flow k).rxDue ≠ 0) := by
    rw [hn.rxDue, ← hSeq]; tauto
  have hnew : ¬(seqBelow m.seq (((s.counted m).noted k m).flow k).rxDue ||
      (((s.counted m).noted k m).flow k).buffer.any (fun e => e.2.seq == m.seq)) = true := by
    rw [hn.rxDue, hn.buffer, hBuf, ← hSeq]; simp [seqBelow]
  have hcredit : ¬((((s.counted m).noted k m).flow k).granted m.flow <
      (((((s.counted m).noted k m).flow k).buffer.map (fun e => e.2.payload.length)).foldl (· + ·) 0) + m.payload.length) := by
    rw [hn.buffer, hBuf, Flow.granted, hn.rxGrant]; simpa [Flow.granted] using hCredit
  unfold Device.receiveOn
  rw [if_neg hflow, if_neg hAck]
  dsimp only
  rw [← Device.heard, if_neg hepoch, ← Device.noted, if_neg hsession, if_neg hnew, if_neg hcredit,
    Device.buffered, Device.modFlow_flow_same]
  simp only [hn.buffer, hBuf, List.nil_append, List.length_singleton]

/-- A message alone in its flow's buffer, due and not held, that is taken. -/
theorem Device.deliverFrom_one {dl : Deliver} {s t : Device} {k kind : Nat} {m : Msg} (hbuf : (s.flow k).buffer = [(kind, m)])
    (hdue : (s.flow k).rxDue = m.seq) (hheld : (s.flow k).rxHeld = false)
    (ht : dl (s.modFlow k (fun f => { f with buffer := f.buffer.erase (kind, m) })) kind k m = (t, true)) :
    Device.deliverFrom dl k 1 s = t.accept k m := by
  unfold Device.deliverFrom
  simp only [hbuf, hdue, hheld, List.find?_cons, beq_self_eq_true, ht, Bool.not_true, Bool.false_and, Bool.false_eq_true,
    if_false, if_true, Device.deliverFrom, Device.accept]

/-- A message that is due meets its meaning on a module that has only counted and noted it; what follows is the acceptance of the
message and what a delivery may bring to its end. -/
theorem Device.arrive_of_due {s t : Device} {kind k : Nat} {m : Msg} (h : s.Due kind k m)
    (ht : takeMessage (s.handed kind k m) kind k m = (t, true)) : s.arrive kind m = (t.accept k m).afterwards := by
  obtain ⟨hArrives, -, -, hSeq, hBuf, -, hHeld, -⟩ := id h
  have hOff : s.off = false := hArrives.1
  have hn := s.counted_noted_flow k m
  have hf : (((s.counted m).noted k m).buffered kind k m).flow k =
      { ((s.counted m).noted k m).flow k with buffer := (((s.counted m).noted k m).flow k).buffer ++ [(kind, m)] } := by
    rw [Device.buffered, Device.modFlow_flow_same]
  have hbuf : ((((s.counted m).noted k m).buffered kind k m).flow k).buffer = [(kind, m)] := by
    simp only [hf, hn.buffer, hBuf, List.nil_append]
  have hdue : ((((s.counted m).noted k m).buffered kind k m).flow k).rxDue = m.seq := by
    simp only [hf, hn.rxDue, hSeq]
  have hheld : ((((s.counted m).noted k m).buffered kind k m).flow k).rxHeld = false := by
    simp only [hf, hn.rxHeld, hHeld]
  rw [Device.arrive, hOff, if_neg Bool.false_ne_true, Device.receive_of_arrives hArrives, Device.receiveOn_of_due h,
    Device.deliverFrom_one hbuf hdue hheld ht]

/-- Without a checkpoint, a restore or a removal a delivery brings nothing to its end. -/
theorem Device.afterwards_of_quiet {s t : Device} (hq : s.Quiet) (hops : t.ops = s.ops)
    (hrem : t.panel.removing = s.panel.removing) : t.afterwards = t := by
  obtain ⟨-, hCkpt, hRestore, hRemoving⟩ := hq
  have h2 : t.liveOp 2 = none := by rw [Device.liveOp, hops]; exact hCkpt
  have h3 : t.liveOp 3 = none := by rw [Device.liveOp, hops]; exact hRestore
  have hm (p : Nat) : t.mirrorAcked p = t := by simp [Device.mirrorAcked, h2]
  have hs : t.settleRestore = t := by simp only [Device.settleRestore, h3]
  simp [Device.afterwards, hm, hs, Device.attendAdvance, hrem, hRemoving]

end Sys2Proof.Machine
end

section
/-! SUPPORT. WRITE (R427): when it is answered, what it is answered with, and what the module keeps of it. -/

namespace Sys2Proof.Machine

/-! ### Replies -/

theorem Device.readReply_eq (s : Device) (k : Nat) (m : Msg) (code : Nat) (data : List Byte) :
    s.readReply k m code data = s.send k 0x06 false 0 0 0 (replyBytes m code data) := rfl

theorem Device.readReply_traffic (s : Device) (k : Nat) (m : Msg) (code : Nat) (data : List Byte) :
    s.Traffic (s.readReply k m code data) := Device.send_traffic _ _ _ _ _ _ _ _

theorem Device.readReply_sent (s : Device) (k : Nat) (m : Msg) (code : Nat) (data : List Byte) :
    s.Sent (s.readReply k m code data) k 0x06 (replyBytes m code data) := by
  rw [Device.sent_iff, Device.readReply_eq, Device.send_outbox]
  simp

theorem Device.sent_accept {s t : Device} {k kind : Nat} {payload : List Byte} (h : s.Sent t k kind payload) (m : Msg) :
    s.Sent (t.accept k m) k kind payload := by
  rw [Device.sent_iff, Device.accept_outbox, ← Device.sent_iff]; exact h

/-- What was sent after flows that number the next message alike. -/
theorem Device.sent_of_txNext {s p t : Device} {k kind : Nat} {payload : List Byte} (hp : (p.flow k).txNext = (s.flow k).txNext)
    (h : p.Sent t k kind payload) : s.Sent t k kind payload := by
  rw [Device.sent_iff, ← hp, ← Device.sent_iff]; exact h

/-! ### Holds -/

theorem Device.logNew_holds (s : Device) (r : Rec) : (s.logNew r).log.holds = s.log.holds := by
  unfold Device.logNew
  dsimp only
  split
  · rfl
  · split_ifs
    · rfl
    · rw [Device.sendReports_log]

/-- A unit that stops is one more hold, whatever the log does with its record (R491). -/
theorem Device.hold_newHold (s : Device) (r : Rec) (site : Site) : s.NewHold (s.hold r site) r.code site := by
  refine ⟨⟨r.code, BitVec.ofNat 32 r.dp, BitVec.ofNat 64 r.pos, r.tag, site⟩, ?_, rfl, rfl⟩
  unfold Device.hold
  dsimp only
  split_ifs
  · split
    · rfl
    · rw [Device.logNew_holds]
  · rw [Device.logNew_holds]

/-! ### Taking a WRITE -/

theorem takeMessage_write {s : Device} (h : s.boot.warmReset = false) (k : Nat) (m : Msg) :
    takeMessage s 0x05 k m = (s.request 0x05 k m, true) := by
  unfold takeMessage
  exact if_neg (by simp [h])

theorem Device.mustWait_write (s : Device) (gate : Nat) {m : Msg} (h : accessOk true m = true) :
    s.mustWait 0x05 gate m = (!inStatus (accessAddr m) && s.writeWaits (accessAddr m) (accessLen m)) := by
  simp [Device.mustWait, Device.accessWaits, h]

theorem Device.answer_write {s : Device} {k : Nat} (h : (s.mp (s.answerer k)).run ≠ 3) (m : Msg) :
    s.answer 0x05 k m = s.onWrite k m := by
  unfold Device.answer
  exact if_neg (fun e => h e.1)

/-- A WRITE that must wait is the only request that waits, where none did. -/
theorem Device.request_write_waits {s : Device} {k : Nat} {m : Msg} (hReq : s.net.requests = [])
    (hw : s.mustWait 0x05 (s.readGate (accessAddr m)) m = true) :
    ∃ t gate, s.request 0x05 k m = t ∧ s.OnlyNet t ∧ t.net.requests = [(k * 256 + 5, gate, m)] := by
  unfold Device.request
  rw [if_pos (by simp [hw]), if_neg (by simp [hReq])]
  exact ⟨_, s.readGate (accessAddr m), rfl, rfl, by simp only [hReq, List.nil_append]⟩

/-! ### What WRITE does, by case (R427) -/

theorem Device.onWrite_stores {s : Device} {k : Nat} {m : Msg} (hok : accessOk true m = true) (hs : inStatus (accessAddr m) = false)
    (hw : s.writable (accessAddr m) (accessLen m) = true) (hd : s.writeDenied (accessAddr m) (accessLen m) = false)
    (ht : s.trusted k m = true) : s.onWrite k m = (s.write (accessAddr m) (writeData m)).readReply k m 0 [] := by
  simp [Device.onWrite, hok, hs, hw, hd, ht]

theorem Device.onWrite_denied {s : Device} {k : Nat} {m : Msg} (hok : accessOk true m = true) (hs : inStatus (accessAddr m) = false)
    (hw : s.writable (accessAddr m) (accessLen m) = true)
    (hd : s.writeDenied (accessAddr m) (accessLen m) = true ∨ s.trusted k m = false) :
    s.onWrite k m = s.readReply k m Code.netAccessDenied [] := by
  rcases hd with hd | hd <;> simp [Device.onWrite, hok, hs, hw, hd]

theorem Device.writable_of_not_backed {s : Device} {a n : Nat} (h : s.backed a n = false) : s.writable a n = false := by
  simp [Device.writable, h]

theorem Device.onWrite_unbacked {s : Device} {k : Nat} {m : Msg} (hok : accessOk true m = true)
    (hs : inStatus (accessAddr m) = false) (hb : s.backed (accessAddr m) (accessLen m) = false) :
    s.onWrite k m = s.readReply k m Code.memAddressUnbacked [] := by
  simp [Device.onWrite, hok, hs, hb, Device.writable_of_not_backed hb]

theorem Device.onWrite_protected {s : Device} {k : Nat} {m : Msg} (hok : accessOk true m = true)
    (hs : inStatus (accessAddr m) = false) (hb : s.backed (accessAddr m) (accessLen m) = true)
    (hw : s.writable (accessAddr m) (accessLen m) = false) (hh : s.isHeld (.hostWrite k) = false) :
    s.onWrite k m = (s.hold (s.protectedRec m) (.hostWrite k)).readReply k m Code.memAddressUnbacked [] := by
  simp [Device.onWrite, hok, hs, hb, hw, hh]

theorem Device.onWrite_other {s : Device} {k : Nat} {m : Msg} (hok : accessOk true m = true) (hs : inStatus (accessAddr m) = true)
    (hr : writableReg (accessAddr m) = false) (hn : accessAddr m + accessLen m ≤ statusBase + 2 ^ 32) :
    s.onWrite k m = s.readReply k m Code.netAccessDenied [] := by
  rw [Device.onWrite]
  simp only [hok, hs, hr, Bool.not_true, Bool.false_and, Bool.false_eq_true, if_false, if_true, if_neg (not_lt.mpr hn)]

/-- The five registers a WRITE may name (R16). -/
theorem writableReg_iff (a : Nat) : writableReg a = true ↔
    a = resetCtrl ∨ a = logClearReg ∨ a = counterFreeze ∨ a = profileReq ∨ a = lightTest := by
  simp only [writableReg, List.contains_iff_mem, List.mem_cons, List.not_mem_nil, or_false]
  tauto

theorem inStatus_of_writableReg {a : Nat} (h : writableReg a = true) : inStatus a = true := by
  rcases (writableReg_iff a).mp h with rfl | rfl | rfl | rfl | rfl <;> decide

theorem writableReg_add_four_le {a : Nat} (h : writableReg a = true) : a + 4 ≤ statusBase + 2 ^ 32 := by
  rcases (writableReg_iff a).mp h with rfl | rfl | rfl | rfl | rfl <;> decide

theorem Device.onWrite_register {s : Device} {k : Nat} {m : Msg} (hok : accessOk true m = true)
    (hr : writableReg (accessAddr m) = true) (hn : accessLen m = 4) : s.onWrite k m = s.onRegister k m := by
  have hle := writableReg_add_four_le hr
  rw [Device.onWrite]
  simp only [hok, inStatus_of_writableReg hr, hr, hn, Bool.not_true, Bool.and_self, decide_true, Bool.false_eq_true, if_false,
    if_true, if_neg (not_lt.mpr hle)]

/-! ### The five registers but RESET_CTRL (R396, R472, R503, R508) -/

theorem Device.onRegister_freeze {s : Device} {k : Nat} {m : Msg} (ha : accessAddr m = counterFreeze) :
    s.onRegister k m = (s.readReply k m 0 []).freeze (bit (fld m.payload 16 4) 0) := by
  rw [Device.onRegister, if_pos ha]

/-- LIGHT_TEST sets the lights' mode and its duration (R472). -/
def Device.setLights (v : Nat) (s : Device) : Device :=
  { s with panel := { s.panel with lightMode := bits v 1 0, lightDuration := bits v 9 2 } }

theorem Device.onRegister_lights {s : Device} {k : Nat} {m : Msg} (ha : accessAddr m = lightTest) :
    s.onRegister k m = (s.readReply k m 0 []).setLights (fld m.payload 16 4) := by
  rw [Device.onRegister, if_neg (by rw [ha]; decide), if_pos ha]; rfl

/-- PROFILE_REQ asks for a profile; 3 asks for none (R396). -/
def Device.setProfile (v : Nat) (s : Device) : Device :=
  { s with power := { s.power with request := if v % 4 = 3 then s.power.request else v % 4 } }

theorem Device.onRegister_profile {s : Device} {k : Nat} {m : Msg} (ha : accessAddr m = profileReq) (ht : s.trusted k m = true) :
    s.onRegister k m = (s.readReply k m 0 []).setProfile (fld m.payload 16 4) := by
  rw [Device.onRegister, if_neg (by rw [ha]; decide), if_neg (by rw [ha]; decide), if_neg (by simp [ht]), if_pos ha,
    Device.setProfile]
  split_ifs <;> rfl

theorem Device.onRegister_untrusted {s : Device} {k : Nat} {m : Msg} (ha : accessAddr m = profileReq) (ht : s.trusted k m = false) :
    s.onRegister k m = s.readReply k m Code.netAccessDenied [] := by
  rw [Device.onRegister, if_neg (by rw [ha]; decide), if_neg (by rw [ha]; decide), if_pos (by simp [ht])]

theorem Device.onRegister_logClear {s : Device} {k : Nat} {m : Msg} (ha : accessAddr m = logClearReg) (ht : s.trusted k m = true)
    (hkey : bits (fld m.payload 16 4) 31 16 = 0x6C0E) :
    s.onRegister k m = (s.readReply k m 0 []).logClear (fld m.payload 16 4) := by
  rw [Device.onRegister, if_neg (by rw [ha]; decide), if_neg (by rw [ha]; decide), if_neg (by simp [ht]),
    if_neg (by rw [ha]; decide), if_neg (by rw [ha]; decide), if_pos hkey]

/-- Clearing the log changes the log alone. -/
theorem Device.logClear_only (s : Device) (v : Nat) : s.logClear v = { s with log := (s.logClear v).log } := by
  unfold Device.logClear; split_ifs <;> rfl

/-! ### A WRITE that is due -/

section
variable {s : Device} {k : Nat} {m : Msg}

/-- A WRITE that is due is a request of its flow (R425). -/
theorem Device.arrive_write_request (h : s.Due 0x05 k m) :
    s.arrive 0x05 m = (((s.handed 0x05 k m).request 0x05 k m).accept k m).afterwards := by
  obtain ⟨-, -, -, -, -, -, -, hWarm⟩ := id h
  exact Device.arrive_of_due h (takeMessage_write (by rw [(s.handed_traffic 0x05 k m).only.boot, hWarm]) k m)

/-- A WRITE that need not wait has its effect on a module that has only counted and noted it; then the message is accepted. -/
theorem Device.arrive_write {q : Device} (h : s.Answers 0x05 k m) (hq : s.Quiet) (hok : accessOk true m = true)
    (hw : inStatus (accessAddr m) = true ∨ s.writeWaits (accessAddr m) (accessLen m) = false)
    (hp : (s.handed 0x05 k m).onWrite k m = q) (hops : q.ops = s.ops) (hrem : q.panel.removing = s.panel.removing) :
    s.arrive 0x05 m = q.accept k m := by
  obtain ⟨hDue, hRun⟩ := h
  have tr := s.handed_traffic 0x05 k m
  have ac := (q.accept_traffic k m).only
  have hwait (gate : Nat) : (s.handed 0x05 k m).mustWait 0x05 gate m = false := by
    rw [Device.mustWait_write _ _ hok, tr.only.writeWaits]
    rcases hw with e | e <;> simp [e]
  have hreq : (s.handed 0x05 k m).request 0x05 k m = q := by
    unfold Device.request
    rw [if_neg (by simp [tr.requests, hq.1, hwait]), Device.answer_write (by rwa [tr.only.answerer, tr.only.mp]), hp]
  rw [Device.arrive_write_request hDue, hreq]
  exact Device.afterwards_of_quiet hq (ac.ops.trans hops) (by rw [ac.panel, hrem])

/-- A WRITE to a parked die waits in the queue of requests (R54). -/
theorem Device.arrive_write_waits (h : s.Due 0x05 k m) (hq : s.Quiet) (hok : accessOk true m = true)
    (hs : inStatus (accessAddr m) = false) (hw : s.writeWaits (accessAddr m) (accessLen m) = true) :
    s.OnlyNet (s.arrive 0x05 m) ∧ ∃ gate, (s.arrive 0x05 m).net.requests = [(k * 256 + 5, gate, m)] := by
  have tr := s.handed_traffic 0x05 k m
  rw [Device.arrive_write_request h]
  generalize s.handed 0x05 k m = p at tr
  obtain ⟨q, gate, hreq, only, hgate⟩ := Device.request_write_waits (s := p) (k := k) (m := m) (by rw [tr.requests, hq.1])
    (by simp [Device.mustWait_write _ _ hok, hs, tr.only.writeWaits, hw])
  have ac := q.accept_traffic k m
  have only : s.OnlyNet (q.accept k m) := (tr.only.trans only).trans ac.only
  rw [hreq, Device.afterwards_of_quiet hq only.ops (by rw [only.panel])]
  exact ⟨only, gate, ac.requests.trans hgate⟩

/-- A WRITE that is answered and then has an effect on what is not the network's. -/
theorem Device.arrive_write_effect {code : Nat} {E : Device → Device} (h : s.Answers 0x05 k m) (hq : s.Quiet)
    (hok : accessOk true m = true) (hw : inStatus (accessAddr m) = true ∨ s.writeWaits (accessAddr m) (accessLen m) = false)
    (hp : (s.handed 0x05 k m).onWrite k m = E ((s.handed 0x05 k m).readReply k m code []))
    (hnet : ∀ d, (E d).net = d.net) (hops : ∀ d, (E d).ops = d.ops) (hrem : ∀ d, (E d).panel.removing = d.panel.removing) :
    ∃ r, s.Traffic r ∧ (E r).Traffic (s.arrive 0x05 m) ∧ s.Sent (s.arrive 0x05 m) k 0x06 (replyBytes m code []) := by
  have tr : s.Traffic ((s.handed 0x05 k m).readReply k m code []) :=
    (s.handed_traffic 0x05 k m).trans (Device.readReply_traffic _ _ _ _ _)
  have sent : s.Sent ((s.handed 0x05 k m).readReply k m code []) k 0x06 (replyBytes m code []) :=
    Device.sent_of_txNext (s.handed_txNext 0x05 k m) (Device.readReply_sent _ _ _ _ _)
  generalize (s.handed 0x05 k m).readReply k m code [] = r at hp tr sent
  refine ⟨r, tr, ?_⟩
  rw [Device.arrive_write h hq hok hw hp ((hops r).trans tr.only.ops) (by rw [hrem, tr.only.panel])]
  refine ⟨Device.accept_traffic _ _ _, Device.sent_accept ?_ m⟩
  rw [Device.sent_iff, Device.flow, hnet, ← Device.flow, ← Device.sent_iff]
  exact sent

/-- A refused WRITE changes nothing but the network side, and is answered with its code. -/
theorem Device.arrive_write_refused {code : Nat} (h : s.Answers 0x05 k m) (hq : s.Quiet)
    (hok : accessOk true m = true) (hw : inStatus (accessAddr m) = true ∨ s.writeWaits (accessAddr m) (accessLen m) = false)
    (hp : (s.handed 0x05 k m).onWrite k m = (s.handed 0x05 k m).readReply k m code []) :
    s.OnlyNet (s.arrive 0x05 m) ∧ s.Sent (s.arrive 0x05 m) k 0x06 (replyBytes m code []) := by
  obtain ⟨r, tr, ac, sent⟩ := Device.arrive_write_effect (E := fun d => d) h hq hok hw hp (fun _ => rfl)
    (fun _ => rfl) (fun _ => rfl)
  exact ⟨tr.only.trans ac.only, sent⟩

/-- A permitted WRITE stores its bytes and is answered with 0 (R427). -/
theorem Device.arrive_write_stores (h : s.Answers 0x05 k m) (hq : s.Quiet) (hok : accessOk true m = true)
    (hs : inStatus (accessAddr m) = false) (hw : s.writeWaits (accessAddr m) (accessLen m) = false)
    (hwr : s.writable (accessAddr m) (accessLen m) = true) (hd : s.writeDenied (accessAddr m) (accessLen m) = false)
    (ht : s.trusted k m = true) :
    s.arrive 0x05 m = { s with mem := memWrite s.mem (accessAddr m) (writeData m), damaged := (s.arrive 0x05 m).damaged,
                               net := (s.arrive 0x05 m).net, counters := (s.arrive 0x05 m).counters } ∧
    s.Sent (s.arrive 0x05 m) k 0x06 (replyBytes m 0 []) := by
  have tr := s.handed_traffic 0x05 k m
  have hp := Device.onWrite_stores (s := s.handed 0x05 k m) hok hs (by rwa [tr.only.writable]) (by rwa [tr.only.writeDenied])
    (by rwa [tr.trusted])
  have htx := s.handed_txNext 0x05 k m
  have harr := fun q e => Device.arrive_write (q := q) h hq hok (.inr hw) e
  generalize s.handed 0x05 k m = p at tr hp htx harr
  have rr := Device.readReply_traffic (p.write (accessAddr m) (writeData m)) k m 0 []
  have sent := Device.sent_accept (Device.readReply_sent (p.write (accessAddr m) (writeData m)) k m 0 []) m
  generalize (p.write (accessAddr m) (writeData m)).readReply k m 0 [] = r at hp rr sent
  have ac := r.accept_traffic k m
  rw [harr r hp (rr.only.ops.trans tr.only.ops) (by rw [rr.only.panel, Device.write_panel, tr.only.panel])]
  refine ⟨?_, Device.sent_of_txNext htx sent⟩
  have e := rr.only.trans ac.only
  generalize r.accept k m = t at e
  rw [e, Device.write, tr.only]

/-- A WRITE into an input bank or the accumulators is recorded as held, and answered with MEM_ADDRESS_UNBACKED (R40, R56). -/
theorem Device.arrive_write_protected (h : s.Answers 0x05 k m) (hq : s.Quiet) (hok : accessOk true m = true)
    (hs : inStatus (accessAddr m) = false) (hw : s.writeWaits (accessAddr m) (accessLen m) = false)
    (hb : s.backed (accessAddr m) (accessLen m) = true) (hwr : s.writable (accessAddr m) (accessLen m) = false)
    (hh : s.isHeld (.hostWrite k) = false) :
    s.OnlyLog (s.arrive 0x05 m) ∧ s.NewHold (s.arrive 0x05 m) Code.memAddressUnbacked (.hostWrite k) ∧
    ∃ x ∈ ((s.arrive 0x05 m).flow k).unacked ++ ((s.arrive 0x05 m).flow k).waiting, x.kind = 0x06 ∧
      x.payload = replyBytes m Code.memAddressUnbacked [] := by
  have tr := s.handed_traffic 0x05 k m
  have hp := Device.onWrite_protected (s := s.handed 0x05 k m) (k := k) hok hs (by rwa [tr.only.backed]) (by rwa [tr.only.writable])
    (by rwa [tr.only.isHeld])
  have harr := fun q e => Device.arrive_write (q := q) h hq hok (.inr hw) e
  generalize s.handed 0x05 k m = p at tr hp harr
  have ho := p.hold_only (p.protectedRec m) (.hostWrite k)
  obtain ⟨x, hx, hcode, hsite⟩ := p.hold_newHold (p.protectedRec m) (.hostWrite k)
  generalize p.hold (p.protectedRec m) (.hostWrite k) = u at hp ho hx
  have rr := Device.readReply_traffic u k m Code.memAddressUnbacked []
  have sent := Device.sent_accept (Device.readReply_sent u k m Code.memAddressUnbacked []) m
  generalize u.readReply k m Code.memAddressUnbacked [] = r at hp rr sent
  have lo : s.OnlyLog r := (tr.only.toLog.trans ho).trans rr.only.toLog
  rw [harr r hp (by rw [lo]) (by rw [lo])]
  have ac := (r.accept_traffic k m).only
  refine ⟨lo.trans ac.toLog, ⟨x, ?_, hcode, hsite⟩, ?_⟩
  · rw [ac, rr.only, hx, tr.only]
  · obtain ⟨y, hy, hkind, hpay, -⟩ := sent
    exact ⟨y, hy, hkind, hpay⟩

end

end Sys2Proof.Machine
end

section
/-! PROOF. WRITE as the hosts see it: every clause is a case of the meaning of a WRITE that is due. -/

namespace Sys2Proof.Machine

/-- A command whose content is a WRITE, which the module takes as it arrives. -/
theorem exec_of_arriveIf {x : Instr} {s : State} {m : Msg} {c : Bool}
    (hx : exec x s = .next (s.onDev (fun d => d.arriveIf c 0x05 m))) (hc : c = true) :
    exec x s = .next { s with dev := s.dev.arrive 0x05 m } := by
  rw [hx, hc]; rfl

section
variable {s : Device} {k : Nat} {m : Msg}

/-- A write of one of the five registers that is answered with 0 and then has its effect. -/
theorem Device.arrive_register {E : Device → Device} (h : s.Answers 0x05 k m) (hq : s.Quiet) (hok : accessOk true m = true)
    (hr : writableReg (accessAddr m) = true) (hn : accessLen m = 4)
    (hp : (s.handed 0x05 k m).onRegister k m = E ((s.handed 0x05 k m).readReply k m 0 []))
    (hnet : ∀ d, (E d).net = d.net) (hops : ∀ d, (E d).ops = d.ops) (hrem : ∀ d, (E d).panel.removing = d.panel.removing) :
    ∃ r, s.Traffic r ∧ (E r).Traffic (s.arrive 0x05 m) ∧ s.Sent (s.arrive 0x05 m) k 0x06 (replyBytes m 0 []) :=
  Device.arrive_write_effect h hq hok (.inl (inStatus_of_writableReg hr))
    ((Device.onWrite_register hok hr hn).trans hp) hnet hops hrem

/-- COUNTER_FREEZE keeps the counters of the moment, or lets them go (R508). -/
theorem Device.arrive_freeze (h : s.Answers 0x05 k m) (hq : s.Quiet) (hok : accessOk true m = true)
    (ha : accessAddr m = counterFreeze) (hn : accessLen m = 4) :
    ∃ c, s.arrive 0x05 m = { s with frozen := if bit (fld m.payload 16 4) 0 then some c else none
                                    net := (s.arrive 0x05 m).net, counters := (s.arrive 0x05 m).counters } ∧
      (∀ o, portCounter o = false → Tab.get 0 c o = Tab.get 0 s.counters o) ∧
      s.Sent (s.arrive 0x05 m) k 0x06 (replyBytes m 0 []) := by
  obtain ⟨r, tr, ac, sent⟩ := Device.arrive_register (E := fun d => d.freeze (bit (fld m.payload 16 4) 0)) h hq hok
    (by rw [ha]; decide) hn (Device.onRegister_freeze ha) (fun _ => rfl) (fun _ => rfl) (fun _ => rfl)
  refine ⟨r.counters, ?_, tr.counters, sent⟩
  have e := ac.only
  generalize s.arrive 0x05 m = t at e
  rw [e, Device.freeze, tr.only]

/-- LIGHT_TEST sets the lights and nothing else (R472). -/
theorem Device.arrive_lights (h : s.Answers 0x05 k m) (hq : s.Quiet) (hok : accessOk true m = true)
    (ha : accessAddr m = lightTest) (hn : accessLen m = 4) :
    (s.setLights (fld m.payload 16 4)).OnlyNet (s.arrive 0x05 m) ∧
    s.Sent (s.arrive 0x05 m) k 0x06 (replyBytes m 0 []) := by
  obtain ⟨r, tr, ac, sent⟩ := Device.arrive_register (E := Device.setLights (fld m.payload 16 4)) h hq hok
    (by rw [ha]; decide) hn (Device.onRegister_lights ha) (fun _ => rfl) (fun _ => rfl) (fun _ => rfl)
  refine ⟨?_, sent⟩
  have e := ac.only
  generalize s.arrive 0x05 m = t at e
  rw [e, Device.setLights, tr.only]; rfl

/-- PROFILE_REQ on a trusted session sets the requested profile and nothing else (R396, R398). -/
theorem Device.arrive_profile (h : s.Answers 0x05 k m) (hq : s.Quiet) (hok : accessOk true m = true)
    (ha : accessAddr m = profileReq) (hn : accessLen m = 4) (ht : s.trusted k m = true) :
    (s.setProfile (fld m.payload 16 4)).OnlyNet (s.arrive 0x05 m) ∧
    s.Sent (s.arrive 0x05 m) k 0x06 (replyBytes m 0 []) := by
  obtain ⟨r, tr, ac, sent⟩ := Device.arrive_register (E := Device.setProfile (fld m.payload 16 4)) h hq hok
    (by rw [ha]; decide) hn (Device.onRegister_profile ha (by rwa [(s.handed_traffic 0x05 k m).trusted]))
    (fun _ => rfl) (fun _ => rfl) (fun _ => rfl)
  refine ⟨?_, sent⟩
  have e := ac.only
  generalize s.arrive 0x05 m = t at e
  rw [e, Device.setProfile, tr.only]; rfl

/-- LOG_CLEAR with its key on a trusted session clears the log as it stands (R503). -/
theorem Device.arrive_logClear (h : s.Answers 0x05 k m) (hq : s.Quiet) (hok : accessOk true m = true)
    (ha : accessAddr m = logClearReg) (hn : accessLen m = 4) (ht : s.trusted k m = true)
    (hkey : bits (fld m.payload 16 4) 31 16 = 0x6C0E) :
    (s.logClear (fld m.payload 16 4)).OnlyNet (s.arrive 0x05 m) ∧
    s.Sent (s.arrive 0x05 m) k 0x06 (replyBytes m 0 []) := by
  obtain ⟨r, tr, ac, sent⟩ := Device.arrive_register (E := fun d => d.logClear (fld m.payload 16 4)) h hq hok
    (by rw [ha]; decide) hn (Device.onRegister_logClear ha (by rwa [(s.handed_traffic 0x05 k m).trusted]) hkey)
    (fun d => by rw [d.logClear_only]) (fun d => by rw [d.logClear_only]) (fun d => by rw [d.logClear_only])
  refine ⟨?_, sent⟩
  have e := ac.only
  generalize s.arrive 0x05 m = t at e
  rw [e, s.logClear_only, r.logClear_only, show (r.logClear (fld m.payload 16 4)).log = (s.logClear (fld m.payload 16 4)).log by
    rw [tr.only]; unfold Device.logClear; split_ifs <;> rfl, tr.only]

end

end Sys2Proof.Machine

open Sys2Proof Sys2Proof.Machine

/-- Settles O35: each clause is the case of the meaning of a WRITE that its hypotheses name. -/
theorem writeRequests : Obligations.WriteRequests := by
  unfold Obligations.WriteRequests
  intro s k m
  dsimp only
  intro h hq hok
  have tr := s.dev.handed_traffic 0x05 k m
  refine ⟨writableReg_iff _, fun hs hw => ⟨fun hwr hd ht => ?_, fun hwr hd => ?_, fun hb => ?_, fun hb hwr hh => ?_⟩,
    fun hs hw => ?_, fun hs hr hle => ?_, fun ⟨ha, hn⟩ hv => ?_, fun ⟨ha, hn⟩ hv => ?_, fun ⟨ha, hn⟩ => ?_,
    fun ⟨ha, hn⟩ ht => ?_, fun ⟨ha, hn⟩ ht => ?_, fun ⟨ha, hn⟩ ht hkey hv => ?_⟩
  · exact ⟨_, rfl, Device.arrive_write_stores h hq hok hs hw hwr hd ht⟩
  · exact ⟨_, rfl, Device.arrive_write_refused h hq hok (.inr hw) (Device.onWrite_denied hok hs (by rwa [tr.only.writable])
      (by rwa [tr.only.writeDenied, tr.trusted]))⟩
  · exact ⟨_, rfl, Device.arrive_write_refused h hq hok (.inr hw) (Device.onWrite_unbacked hok hs (by rwa [tr.only.backed]))⟩
  · exact ⟨_, rfl, Device.arrive_write_protected h hq hok hs hw hb hwr hh⟩
  · exact ⟨_, rfl, Device.arrive_write_waits h.1 hq hok hs hw⟩
  · exact ⟨_, exec_of_arriveIf rfl (by simp [hs, hr]),
      Device.arrive_write_refused h hq hok (.inl hs) (Device.onWrite_other hok hs hr hle)⟩
  · obtain ⟨c, hdev, hc, sent⟩ := Device.arrive_freeze h hq hok ha hn
    rw [hv] at hdev
    exact ⟨_, c, exec_of_arriveIf rfl (by simp [ha, regValue, hv]), sent, hdev, hc⟩
  · obtain ⟨c, hdev, -, sent⟩ := Device.arrive_freeze h hq hok ha hn
    rw [hv] at hdev
    exact ⟨_, exec_of_arriveIf rfl (by simp [ha, regValue, hv]), sent, hdev⟩
  · obtain ⟨hdev, sent⟩ := Device.arrive_lights h hq hok ha hn
    exact ⟨_, exec_of_arriveIf rfl (by simp [ha]), sent, hdev⟩
  · obtain ⟨hdev, sent⟩ := Device.arrive_profile h hq hok ha hn ht
    exact ⟨_, exec_of_arriveIf rfl (by simp [ha]), sent, hdev⟩
  · have hr : writableReg (accessAddr m) = true := by rw [ha]; decide
    exact ⟨_, exec_of_arriveIf rfl (by simp [ha]), Device.arrive_write_refused h hq hok (.inl (inStatus_of_writableReg hr))
      ((Device.onWrite_register hok hr hn).trans (Device.onRegister_untrusted ha (by rwa [tr.trusted])))⟩
  · obtain ⟨hdev, sent⟩ := Device.arrive_logClear h hq hok ha hn ht hkey
    have hlog : (s.dev.arrive 0x05 m).log = (s.dev.logClear (fld m.payload 16 4)).log := by rw [hdev]
    refine ⟨_, exec_of_arriveIf rfl (by simp [ha]), sent, ?_, fun hsave => ?_, fun hsave => ?_⟩
    · rw [hdev, Device.logClear_only]
    · exact hlog.trans (by simp [Device.logClear, hv, hsave])
    · rw [hlog]; simp [Device.logClear, hv, hsave, Device.clearLog]

end

section
/-! SUPPORT. The order RARGMAX takes the greatest lane by (R162, R165): GTN compares ranks, in which every NaN stands above
+infinity, so that it is a strict weak order. -/

namespace Sys2Proof.Machine

/-- The number a finite value stands for. -/
def dyadic (neg : Bool) (m : Nat) (e : Int) : ℚ := (signed neg m : ℚ) * 2 ^ e

/-- The place of a value in the order of GTN: -infinity, the finite values by size, +infinity, NaN (R162). -/
def FVal.rank : FVal → Int ×ₗ ℚ
  | .nan => toLex (2, 0)
  | .inf neg => toLex (if neg then -1 else 1, 0)
  | .fin neg m e => toLex (0, dyadic neg m e)

/-- A value does not change when it is put on a finer grid. -/
theorem signed_regrid (neg : Bool) (m : Nat) {e q : Int} (h : q ≤ e) :
    ((signed neg (m * 2 ^ (e - q).toNat) : ℤ) : ℚ) * 2 ^ q = dyadic neg m e := by
  have hp : (2 : ℚ) ^ (e - q).toNat * 2 ^ q = 2 ^ e := by
    rw [← zpow_natCast, ← zpow_add₀ (by norm_num), Int.toNat_of_nonneg (by omega), sub_add_cancel]
  unfold dyadic signed
  split_ifs <;> push_cast <;> rw [← hp] <;> ring

/-- The comparison of two finite values compares the numbers they stand for. -/
theorem FVal.cmp_fin_eq_one (a b : Bool) (m n : Nat) (e f : Int) :
    (FVal.fin a m e).cmp (.fin b n f) = 1 ↔ dyadic b n f < dyadic a m e := by
  have hpos : (0 : ℚ) < 2 ^ min e f := by positivity
  rw [← signed_regrid a m (min_le_left e f), ← signed_regrid b n (min_le_right e f), mul_lt_mul_iff_left₀ hpos, Int.cast_lt,
    ← sub_pos]
  simp only [FVal.cmp]
  generalize signed a (m * 2 ^ (e - min e f).toNat) - signed b (n * 2 ^ (f - min e f).toNat) = d
  split_ifs <;> simp <;> omega

/-- Two values are unordered when one is a NaN. -/
theorem FVal.cmp_eq_two_iff : ∀ x y : FVal, x.cmp y = 2 ↔ x = .nan ∨ y = .nan
  | .nan, _ => by simp [FVal.cmp]
  | .inf _, .nan => by simp [FVal.cmp]
  | .fin .., .nan => by simp [FVal.cmp]
  | .inf s, .inf u => by cases s <;> cases u <;> simp [FVal.cmp]
  | .inf s, .fin .. => by cases s <;> simp [FVal.cmp]
  | .fin .., .inf u => by cases u <;> simp [FVal.cmp]
  | .fin .., .fin .. => by simp only [FVal.cmp]; split_ifs <;> simp

/-- Of two numbers the comparison finds the first greater when its rank is. -/
theorem FVal.cmp_eq_one_iff : ∀ {x y : FVal}, x ≠ .nan → y ≠ .nan → (x.cmp y = 1 ↔ y.rank < x.rank)
  | .nan, _, hx, _ => absurd rfl hx
  | _, .nan, _, hy => absurd rfl hy
  | .inf s, .inf u, _, _ => by cases s <;> cases u <;> simp [FVal.cmp, FVal.rank, Prod.Lex.toLex_lt_toLex]
  | .inf s, .fin .., _, _ => by cases s <;> simp [FVal.cmp, FVal.rank, Prod.Lex.toLex_lt_toLex]
  | .fin .., .inf u, _, _ => by cases u <;> simp [FVal.cmp, FVal.rank, Prod.Lex.toLex_lt_toLex]
  | .fin .., .fin .., _, _ => by simp [FVal.cmp_fin_eq_one, FVal.rank, Prod.Lex.toLex_lt_toLex]

/-- A NaN stands above every other value. -/
theorem FVal.rank_lt_nan : ∀ {x : FVal}, x ≠ .nan → x.rank < FVal.nan.rank
  | .nan, hx => absurd rfl hx
  | .inf s, _ => by cases s <;> simp [FVal.rank, Prod.Lex.toLex_lt_toLex]
  | .fin .., _ => by simp [FVal.rank, Prod.Lex.toLex_lt_toLex]

theorem isNan32_iff (a : Word) : isNan32 a = true ↔ dec32 a = .nan := by unfold isNan32; split <;> simp_all

/-- GTN is the order of the ranks. -/
theorem fCond_gtn_iff (a b : Word) : fCond 5 a b = true ↔ (dec32 b).rank < (dec32 a).rank := by
  simp only [fCond]
  by_cases ha : dec32 a = .nan
  · rw [if_pos ((FVal.cmp_eq_two_iff _ _).mpr (.inl ha)), (isNan32_iff a).mpr ha, ha, Bool.true_and, Bool.not_eq_true',
      ← Bool.not_eq_true, isNan32_iff]
    exact ⟨FVal.rank_lt_nan, fun h e => absurd h (by rw [e]; exact lt_irrefl _)⟩
  · have hna : isNan32 a = false := by rwa [← Bool.not_eq_true, isNan32_iff]
    by_cases hb : dec32 b = .nan
    · rw [if_pos ((FVal.cmp_eq_two_iff _ _).mpr (.inr hb)), hna, hb]
      simpa using (FVal.rank_lt_nan ha).le
    · rw [if_neg (by simp [FVal.cmp_eq_two_iff, ha, hb]), decide_eq_true_iff, FVal.cmp_eq_one_iff ha hb]

theorem fCond_gtn_eq_false_iff (a b : Word) : fCond 5 a b = false ↔ (dec32 a).rank ≤ (dec32 b).rank := by
  rw [← Bool.not_eq_true, fCond_gtn_iff, not_lt]

/-! ### The greatest lane -/

/-- Lane `j` is the lowest of the lanes of `l` that hold the greatest value in the order of GTN (R165). -/
def Greatest (get : Nat → Word) (l : List Nat) (j : Nat) : Prop :=
  j ∈ l ∧ ∀ i ∈ l, fCond 5 (get i) (get j) = false ∧ (i < j → fCond 5 (get j) (get i) = true)

theorem Greatest.singleton (get : Nat → Word) (j : Nat) : Greatest get [j] j := by
  refine ⟨by simp, fun i hi => ?_⟩
  obtain rfl := List.mem_singleton.mp hi
  exact ⟨(fCond_gtn_eq_false_iff _ _).mpr le_rfl, fun h => absurd h (lt_irrefl _)⟩

/-- A later lane that holds a greater value stands before the best so far. -/
theorem Greatest.cons_of_lt {get : Nat → Word} {l : List Nat} {b i j : Nat} (h : Greatest get (i :: l) j)
    (hgt : fCond 5 (get i) (get b) = true) : Greatest get (b :: i :: l) j := by
  obtain ⟨hj, hall⟩ := h
  have hij := (fCond_gtn_eq_false_iff _ _).mp (hall i (by simp)).1
  have hbj := ((fCond_gtn_iff _ _).mp hgt).trans_le hij
  refine ⟨List.mem_cons_of_mem _ hj, fun x hx => ?_⟩
  rcases List.mem_cons.mp hx with rfl | hx
  · exact ⟨(fCond_gtn_eq_false_iff _ _).mpr hbj.le, fun _ => (fCond_gtn_iff _ _).mpr hbj⟩
  · exact hall x hx

/-- A later lane that holds no greater value than the best so far changes nothing. -/
theorem Greatest.cons_of_le {get : Nat → Word} {l : List Nat} {b i j : Nat} (h : Greatest get (b :: l) j) (hbi : b < i)
    (hle : fCond 5 (get i) (get b) = false) : Greatest get (b :: i :: l) j := by
  obtain ⟨hj, hall⟩ := h
  obtain ⟨hb, hbLt⟩ := hall b (by simp)
  have hib := (fCond_gtn_eq_false_iff _ _).mp hle
  rw [fCond_gtn_eq_false_iff] at hb
  refine ⟨by rcases List.mem_cons.mp hj with rfl | hj <;> simp [*], fun x hx => ?_⟩
  by_cases hxi : x = i
  · subst hxi
    exact ⟨(fCond_gtn_eq_false_iff _ _).mpr (hib.trans hb),
      fun hxj => (fCond_gtn_iff _ _).mpr (hib.trans_lt ((fCond_gtn_iff _ _).mp (hbLt (hbi.trans hxj))))⟩
  · exact hall x (by simpa [hxi] using hx)

/-- The search over rising lanes ends at the lowest one that holds the greatest value. -/
theorem argMax_greatest (get : Nat → Word) (l : List Nat) :
    ∀ b, (b :: l).Pairwise (· < ·) → ∃ j, argMax get l (some b) = some j ∧ Greatest get (b :: l) j := by
  induction l with
  | nil => exact fun b _ => ⟨b, rfl, .singleton get b⟩
  | cons i l ih =>
    intro b hl
    obtain ⟨hb, hil⟩ := List.pairwise_cons.mp hl
    by_cases hgt : fCond 5 (get i) (get b) = true
    · obtain ⟨j, hj, hg⟩ := ih i hil
      exact ⟨j, by simp [argMax, hgt, hj], hg.cons_of_lt hgt⟩
    · obtain ⟨j, hj, hg⟩ := ih b (hl.sublist (by simp))
      exact ⟨j, by simp [argMax, hgt, hj], hg.cons_of_le (hb i (by simp)) (by simpa using hgt)⟩

/-! ### The active lanes -/

theorem Invocation.mem_active {v : Invocation} {f : VFields} {i : Nat} :
    i ∈ v.active f ↔ i < 64 ∧ (v.pred f.pg.toNat).getLsbD i = true := by simp [Invocation.active]

theorem Invocation.active_eq_nil {v : Invocation} {f : VFields} (h : ∀ i, i < 64 → (v.pred f.pg.toNat).getLsbD i = false) :
    v.active f = [] := by simpa [Invocation.active] using h

theorem Invocation.active_rising (v : Invocation) (f : VFields) : (v.active f).Pairwise (· < ·) :=
  List.pairwise_lt_range.filter _

/-- What RARGMAX gives every active lane (R165). -/
def Invocation.argmax (v : Invocation) (f : VFields) : Word :=
  match argMax (lane (v.reg f.va)) (v.active f) none with
  | some i => BitVec.ofNat 32 i
  | none => 0xFFFFFFFF

theorem Device.vArgmax_eq (s : Device) (g : Nat) (f : VFields) :
    s.vArgmax g f = s.vreg g 0x63 f 6 (fun v => v.setReg f (fun _ => v.argmax f)) := rfl

/-- RARGMAX with no active lane (R165). -/
theorem Invocation.argmax_of_no_active {v : Invocation} {f : VFields} (h : v.active f = []) : v.argmax f = 0xFFFFFFFF := by
  unfold Invocation.argmax; rw [h]; rfl

/-- RARGMAX with an active lane (R165). -/
theorem Invocation.argmax_greatest {v : Invocation} {f : VFields} (h : v.active f ≠ []) :
    Greatest (lane (v.reg f.va)) (v.active f) (v.argmax f).toNat := by
  obtain ⟨b, l, hl⟩ := List.exists_cons_of_ne_nil h
  obtain ⟨j, hj, hg⟩ := argMax_greatest (lane (v.reg f.va)) l b (hl ▸ v.active_rising f)
  rw [← hl] at hg
  have hlt := (Invocation.mem_active.mp hg.1).1
  have e : v.argmax f = BitVec.ofNat 32 j := by unfold Invocation.argmax; rw [hl]; simp only [argMax, hj]
  rwa [e, BitVec.toNat_ofNat, Nat.mod_eq_of_lt (by omega)]

end Sys2Proof.Machine
end

section
/-! SUPPORT. The reductions and the conversions of the vector unit (R161, R164 to R166): what each leaves, by its shared meaning. -/

namespace Sys2Proof.Machine

variable {s : State} {g op : Nat} {f : VFields} {v : Invocation}

/-- The invocation one instruction after a register write. -/
def Invocation.wrote (v : Invocation) (f : VFields) (val : Nat → Word) : Invocation :=
  { v.setReg f val with pc := v.pc + 1, executed := v.executed + 1 }

/-- A reduction over the tree of R164. -/
theorem Device.vReduce_spec (h : s.dev.AtWord g (vword op f) v) (k : Word → Word → Word) (empty : Word) :
    let r := (treeReduce k ((List.range 64).map (fun i =>
      if (v.pred f.pg.toNat).getLsbD i then some (lane (v.reg f.va) i) else none))).getD empty
    s.Retired (s.onDev (fun d => d.vReduce g op f k empty)) g 6 0 (v.wrote f (fun _ => r)) ∧
      v.LanesSet (v.wrote f (fun _ => r)) f (fun _ => r) :=
  ⟨Device.vreg_retired h 6 _ (v.setReg_pc f _) (v.setReg_executed f _), v.setReg_lanes f _⟩

/-- RARGMAX (R165). -/
theorem Device.vArgmax_spec (h : s.dev.AtWord g (vword 0x63 f) v) :
    s.Retired (s.onDev (fun d => d.vArgmax g f)) g 6 0 (v.wrote f (fun _ => v.argmax f)) ∧
      v.LanesSet (v.wrote f (fun _ => v.argmax f)) f (fun _ => v.argmax f) := by
  simp only [Device.vArgmax_eq]
  exact ⟨Device.vreg_retired h 6 _ (v.setReg_pc f _) (v.setReg_executed f _), v.setReg_lanes f _⟩

/-- The cluster's counters of saturations and NaNs raised by what the active lanes count (R64, R118). -/
def Device.countLanes (s : Device) (g : Nat) (f : VFields) (v : Invocation) (k : Word → Word × Bool × Bool) : Device :=
  (s.bumpArray g 6 ((v.active f).countP (fun i => (k (lane (v.reg f.va) i)).2.1))).bumpArray g 5
    ((v.active f).countP (fun i => (k (lane (v.reg f.va) i)).2.2))

/-- A conversion counts first, then writes its lanes and retires. -/
theorem Device.vCounted_eq (h : s.dev.AtWord g (vword op f) v) (k : Word → Word × Bool × Bool) :
    s.dev.vCounted g op f k =
      (s.dev.countLanes g f v k).retire g (v.setReg f (fun i => (k (lane (v.reg f.va) i)).1)) 1 := by
  unfold Device.vCounted Device.countLanes
  rw [h.invAt]
  simp only [← List.countP_eq_length_filter, List.countP_map]
  rfl

theorem Device.countLanes_only (d : Device) (g : Nat) (f : VFields) (v : Invocation) (k : Word → Word × Bool × Bool) :
    d.countLanes g f v k = { d with counters := (d.countLanes g f v k).counters } := rfl

theorem Device.countLanes_cluster (d : Device) (g : Nat) (f : VFields) (v : Invocation) (k : Word → Word × Bool × Bool)
    (h : Nat) : (d.countLanes g f v k).cluster h = d.cluster h := by rw [d.countLanes_only]; rfl

/-- The two counters a conversion raises, and no other. -/
theorem Device.countLanes_counter (d : Device) (g : Nat) (f : VFields) (v : Invocation) (k : Word → Word × Bool × Bool)
    (o : Nat) : Tab.get 0 (d.countLanes g f v k).counters o = Tab.get 0 d.counters o +
      (if o = clusterBlock g + 0x70 then
        BitVec.ofNat 64 ((v.active f).countP (fun i => (k (lane (v.reg f.va) i)).2.1)) else 0) +
      (if o = clusterBlock g + 0x68 then
        BitVec.ofNat 64 ((v.active f).countP (fun i => (k (lane (v.reg f.va) i)).2.2)) else 0) := by
  simp only [Device.countLanes, Device.bumpArray_eq, Device.bump_counter]
  by_cases h1 : o = clusterBlock g + 0x68
  · subst h1; simp
  · by_cases h2 : o = clusterBlock g + 0x70
    · subst h2; simp
    · simp [h1, h2]

/-- A conversion (R161, R166): it retires from the state in which its lanes have been counted. -/
theorem Device.vCounted_retired (h : s.dev.AtWord g (vword op f) v) (k : Word → Word × Bool × Bool) :
    State.Retired ⟨s.dev.countLanes g f v k, s.pending⟩ (s.onDev (fun d => d.vCounted g op f k)) g 1 0
      (v.wrote f (fun i => (k (lane (v.reg f.va) i)).1)) := by
  have r := Device.retireTo_retired ⟨s.dev.countLanes g f v k, s.pending⟩ g
    (v.setReg f (fun i => (k (lane (v.reg f.va) i)).1)) (v.pc + 1) 1 0
  rw [v.setReg_executed] at r
  have e : s.onDev (fun d => d.vCounted g op f k) = State.onDev ⟨s.dev.countLanes g f v k, s.pending⟩
      (fun d => d.retireTo g (v.setReg f (fun i => (k (lane (v.reg f.va) i)).1)) (v.pc + 1) 1 0) := by
    unfold State.onDev; dsimp only; rw [Device.vCounted_eq h, Device.retire, Invocation.setReg_pc]
  rwa [e]

/-- A conversion's lanes, frame and counters (R118, R161, R166, R177). -/
theorem Device.vCounted_spec (h : s.dev.AtWord g (vword op f) v) (k : Word → Word × Bool × Bool) :
    let t := s.onDev (fun d => d.vCounted g op f k)
    let v' := v.wrote f (fun i => (k (lane (v.reg f.va) i)).1)
    v.LanesSet v' f (fun i => (k (lane (v.reg f.va) i)).1) ∧
      t.dev = { s.dev with clusters := t.dev.clusters, counters := t.dev.counters } ∧
      t.dev.cluster g = { s.dev.cluster g with invocation := some v' } ∧
      (∀ j, j ≠ g → t.dev.cluster j = s.dev.cluster j) ∧
      Tab.get 0 t.dev.counters (clusterBlock g + 0x70) = Tab.get 0 s.dev.counters (clusterBlock g + 0x70) +
        BitVec.ofNat 64 ((v.active f).countP (fun i => (k (lane (v.reg f.va) i)).2.1)) ∧
      Tab.get 0 t.dev.counters (clusterBlock g + 0x68) = Tab.get 0 s.dev.counters (clusterBlock g + 0x68) +
        BitVec.ofNat 64 ((v.active f).countP (fun i => (k (lane (v.reg f.va) i)).2.2)) ∧
      Tab.get 0 t.dev.counters (clusterBlock g + 0xC8) = Tab.get 0 s.dev.counters (clusterBlock g + 0xC8) + 1 := by
  dsimp only
  obtain ⟨-, hdev, hrun, hother, hcount⟩ := Device.vCounted_retired h k
  rw [Device.countLanes_only] at hdev
  simp only [Device.countLanes_cluster] at hrun hother
  refine ⟨v.setReg_lanes f _, hdev, hrun, hother, ?_, ?_, ?_⟩ <;> rw [hcount, Device.countLanes_counter] <;> simp

end Sys2Proof.Machine
end

section

open Sys2Proof Sys2Proof.Machine

/-- Settles O2: the reductions and the conversions write one register each by their shared meanings, and RARGMAX ends at the
lowest lane of the greatest rank. -/
theorem vectorReductions : Obligations.VectorReductions := by
  unfold Obligations.VectorReductions
  refine ⟨fun s g f v => ⟨fun h => ?_, fun h => ?_, fun h => ?_, fun h => ?_⟩, fun s g f v => ?_⟩
  · exact ⟨_, _, rfl, Device.vReduce_spec h fAdd 0⟩
  · exact ⟨_, _, rfl, Device.vReduce_spec h fMax 0xFF800000⟩
  · exact ⟨_, _, rfl, Device.vReduce_spec h fMin 0x7F800000⟩
  · refine ⟨_, _, _, rfl, (Device.vArgmax_spec h).1, (Device.vArgmax_spec h).2, fun hnone => ?_, fun i hi hact => ?_⟩
    · exact Invocation.argmax_of_no_active (Invocation.active_eq_nil hnone)
    · have hmem : i ∈ v.active f := Invocation.mem_active.mpr ⟨hi, hact⟩
      obtain ⟨hbest, hall⟩ := Invocation.argmax_greatest (List.ne_nil_of_mem hmem)
      obtain ⟨hlt, hon⟩ := Invocation.mem_active.mp hbest
      exact ⟨hlt, hon, hall i hmem⟩
  · exact ⟨fun h => ⟨_, _, rfl, Device.vCounted_spec h fToI⟩, fun h => ⟨_, _, rfl, Device.vCounted_spec h (cvtLane f)⟩,
      fun h => ⟨_, _, rfl, Device.vCounted_spec h (cvtfLane f)⟩⟩
end

section
/-! SUPPORT. What finishing a row, and settling what it belonged to, leaves as it was: the invocations of every vector unit,
memory, and the rows counted (R153, R177, R384). -/

namespace Sys2Proof.Machine

/-- Every vector unit runs what it ran, and has set aside what it had (R174). -/
structure Device.SameRuns (s t : Device) : Prop where
  running : ∀ h, (t.cluster h).invocation = (s.cluster h).invocation
  stopped : ∀ h, (t.cluster h).stopped = (s.cluster h).stopped

/-- As `SameRuns`, and memory and the rows counted are as they were. -/
structure Device.Settles (s t : Device) : Prop extends s.SameRuns t where
  mem : t.mem = s.mem
  rows : ∀ h, Tab.get 0 t.counters (clusterBlock h + 0xD8) = Tab.get 0 s.counters (clusterBlock h + 0xD8)

theorem Device.SameRuns.of_clusters {s t : Device} (h : t.clusters = s.clusters) : s.SameRuns t :=
  ⟨fun _ => by simp only [Device.cluster, h], fun _ => by simp only [Device.cluster, h]⟩

theorem Device.SameRuns.trans {s t u : Device} (h : s.SameRuns t) (h' : t.SameRuns u) : s.SameRuns u :=
  ⟨fun g => (h'.running g).trans (h.running g), fun g => (h'.stopped g).trans (h.stopped g)⟩

theorem Device.Settles.of_eq {s t : Device} (hc : t.clusters = s.clusters) (hm : t.mem = s.mem) (hk : t.counters = s.counters) :
    s.Settles t := ⟨.of_clusters hc, hm, fun _ => by rw [hk]⟩

theorem Device.Settles.refl (s : Device) : s.Settles s := .of_eq rfl rfl rfl

theorem Device.Settles.trans {s t u : Device} (h : s.Settles t) (h' : t.Settles u) : s.Settles u :=
  ⟨h.toSameRuns.trans h'.toSameRuns, h'.mem.trans h.mem, fun g => (h'.rows g).trans (h.rows g)⟩

/-! ### Parts of the module -/

theorem Device.modCluster_settles (s : Device) (g : Nat) {f : Cluster → Cluster}
    (hf : ∀ c, (f c).invocation = c.invocation ∧ (f c).stopped = c.stopped) : s.Settles (s.modCluster g f) := by
  refine ⟨⟨fun h => ?_, fun h => ?_⟩, rfl, fun _ => rfl⟩ <;> rw [Device.modCluster_cluster] <;> split_ifs with e
  · rw [e, (hf _).1]
  · rfl
  · rw [e, (hf _).2]
  · rfl

theorem Device.modCtx_settles (s : Device) (g k : Nat) (f : Ctx → Ctx) : s.Settles (s.modCtx g k f) :=
  s.modCluster_settles g fun _ => ⟨rfl, rfl⟩

theorem Device.modTable_settles (s : Device) (g k item : Nat) (f : TableRun → TableRun) : s.Settles (s.modTable g k item f) :=
  s.modCtx_settles g k _

theorem Device.modWalk_settles (s : Device) (g k item : Nat) (f : WalkRun → WalkRun) : s.Settles (s.modWalk g k item f) :=
  s.modCtx_settles g k _

theorem Device.modRows_settles (s : Device) (g k item : Nat) (f : RowRun → RowRun) : s.Settles (s.modRows g k item f) :=
  s.modCtx_settles g k _

theorem Device.modQuad_settles (s : Device) (d q : Nat) (f : Quadrant → Quadrant) : s.Settles (s.modQuad d q f) :=
  .of_eq rfl rfl rfl

theorem Device.bump_settles (s : Device) {off : Nat} (n : Nat) (h : ∀ g, clusterBlock g + 0xD8 ≠ off) :
    s.Settles (s.bump off n) :=
  ⟨.of_clusters rfl, rfl, fun g => by rw [Device.bump_counter, if_neg (h g)]⟩

theorem Device.bumpAtt_settles (s : Device) (g n : Nat) {i : Nat} (hi : i < 8) : s.Settles (s.bumpAtt g i n) :=
  s.bump_settles n fun h => by unfold clusterBlock; omega

/-! ### Records and holds -/

theorem Device.sendReports_traffic (s : Device) (kind : Nat) (p : List Byte) : s.Traffic (s.sendReports kind p) := by
  unfold Device.sendReports
  refine List.foldlRecOn _ _ (.refl s) fun u hu k _ => hu.trans ?_
  extract_lets t
  have h : u.Traffic t := by
    unfold t
    split
    · split_ifs
      · exact Device.modFlow_traffic _ _ _
      · exact .refl u
    · exact .refl u
  split_ifs
  · exact h.trans (Device.send_traffic _ _ _ _ _ _ _ _)
  · exact h

theorem portCounter_rows (g : Nat) : portCounter (clusterBlock g + 0xD8) = false :=
  Bool.and_eq_false_iff.mpr (.inr (decide_eq_false (by unfold clusterBlock; omega)))

theorem Device.Traffic.settles {s t : Device} (h : s.Traffic t) : s.Settles t :=
  ⟨.of_clusters (by rw [h.only]), by rw [h.only], fun g => h.counters _ (portCounter_rows g)⟩

theorem Device.logNew_settles (s : Device) (r : Rec) : s.Settles (s.logNew r) := by
  unfold Device.logNew
  dsimp only
  split
  · exact .of_eq rfl rfl rfl
  · split_ifs
    · exact .of_eq rfl rfl rfl
    · refine .trans ?_ (Device.sendReports_traffic _ _ _).settles
      exact .of_eq rfl rfl rfl

theorem Device.hold_settles (s : Device) (r : Rec) (site : Site) : s.Settles (s.hold r site) := by
  unfold Device.hold
  dsimp only
  split_ifs
  · split
    · exact .of_eq rfl rfl rfl
    · refine .trans ?_ (Device.logNew_settles _ _)
      exact .of_eq rfl rfl rfl
  · refine .trans ?_ (Device.logNew_settles _ _)
    exact .of_eq rfl rfl rfl

theorem Device.post_settles (s : Device) (tok : Nat) : s.Settles (s.post tok) := by
  unfold Device.post
  split_ifs
  · exact s.bump_settles 1 fun h => by unfold clusterBlock; omega
  all_goals exact .of_eq rfl rfl rfl

/-! ### Items and passes -/

theorem Device.dropItem_settles (s : Device) (g k id : Nat) : s.Settles (s.dropItem g k id) := s.modCtx_settles _ _ _

theorem Device.endIssue_settles (s : Device) (d q : Nat) (i : Issue) : s.Settles (s.endIssue d q i) := by
  unfold Device.endIssue
  refine .trans ?_ ((Device.modQuad_settles _ _ _ _).trans (Device.post_settles _ _))
  exact List.foldlRecOn _ _ (.refl s) fun u hu _ _ => hu.trans (u.dropItem_settles _ _ _)

theorem Device.settleRows_settles (s : Device) (g k item : Nat) : s.Settles (s.settleRows g k item) := by
  unfold Device.settleRows
  split
  · split_ifs
    · exact s.endIssue_settles _ _ _
    · exact .refl s
  · exact .refl s

theorem Device.descDone_settles (s : Device) (g k item : Nat) (e : Desc) : s.Settles (s.descDone g k item e) := by
  unfold Device.descDone
  extract_lets t
  have h : s.Settles t := (s.bumpAtt_settles g 1 (by omega)).trans (Device.bumpAtt_settles _ g _ (by omega))
  clear_value t
  split
  · split_ifs
    · exact h.trans (.trans (Device.modWalk_settles _ _ _ _ _) (Device.hold_settles _ _ _))
    · exact h
  · exact h

theorem Device.endWalkPass_settles (s : Device) (g : Nat) (p : Pass) : s.Settles (s.endWalkPass g p) := by
  unfold Device.endWalkPass
  extract_lets t
  have h : s.Settles t := s.modWalk_settles _ _ _ _
  clear_value t
  refine h.trans ?_
  split
  · exact .refl t
  · split
    · exact .refl t
    · split_ifs
      · split
        · exact (t.modWalk_settles _ _ _ _).trans (Device.descDone_settles _ _ _ _ _)
        · exact .refl t
      · exact .refl t
      · split
        · split_ifs
          · exact .refl t
          · exact t.descDone_settles _ _ _ _
        · exact .refl t
      · exact .refl t

theorem Device.endPass_settles (s : Device) (g : Nat) (p : Pass) : s.Settles (s.endPass g p) := by
  unfold Device.endPass
  dsimp only
  split_ifs
  · exact .refl s
  · exact s.endWalkPass_settles g p
  · exact .trans (s.modTable_settles _ _ _ _) (Device.hold_settles _ _ _)
  · exact s.modTable_settles _ _ _ _

theorem Device.settlePass_settles (s : Device) (g : Nat) (p : Pass) : s.Settles (s.settlePass g p) := by
  unfold Device.settlePass
  extract_lets c
  split_ifs
  · refine .trans ?_ (Device.endPass_settles _ _ _)
    exact s.modCluster_settles g fun _ => ⟨rfl, rfl⟩
  · exact .refl s

/-- The unit is free and the row counted, before what the row belongs to is settled (R159, R177). -/
def Device.rowDone (s : Device) (g : Nat) : Device := (s.modCluster g (fun c => { c with invocation := none })).bumpVec g 2 1

/-- Past freeing the unit and counting the row, the end of an invocation only settles what the row belongs to. -/
theorem Device.endInv_settles (s : Device) (g : Nat) (v : Invocation) : (s.rowDone g).Settles (s.endInv g v) := by
  unfold Device.endInv
  extract_lets +onlyGivenNames t
  have e : s.rowDone g = t := rfl
  rw [e]
  clear_value t
  split
  extract_lets defaults nanRec w
  split
  · split
    next p _ =>
      extract_lets +onlyGivenNames u
      have h : t.Settles u := t.modCluster_settles g fun _ => ⟨rfl, rfl⟩
      clear_value u
      split
      · exact h.trans (u.settlePass_settles _ _)
      · exact h
    next => exact .refl t
  · split
    · extract_lets +onlyGivenNames nan last u
      have h : t.Settles u := t.modRows_settles _ _ _ _
      clear_value u
      refine .trans ?_ (Device.settleRows_settles _ _ _ _)
      split_ifs
      · exact h.trans (u.hold_settles _ _)
      · exact h
    · exact .refl t
  · have h : t.Settles w := t.modWalk_settles _ _ _ _
    clear_value w
    split
    · split_ifs
      · exact h.trans ((w.modWalk_settles _ _ _ _).trans (Device.hold_settles _ _ _))
      · exact h
    · exact h

end Sys2Proof.Machine
end

section
/-! SUPPORT. The vector unit between invocations: what it sets aside, and what a free unit goes on with (R156, R174, R230). -/

namespace Sys2Proof.Machine

/-! ### Rows that take the unit for one command only -/

theorem Device.foldl_clusters {β : Type} {f : Device → β → Device} (hf : ∀ u b, (f u b).clusters = u.clusters) (l : List β)
    (s : Device) : (l.foldl f s).clusters = s.clusters :=
  List.foldlRecOn (motive := fun t : Device => t.clusters = s.clusters) l f rfl fun u hu b _ => (hf u b).trans hu

theorem Device.cropRow_clusters (s : Device) (g k : Nat) (f : FieldDesc) (row : Nat) (noted : Bool) :
    (s.cropRow g k f row noted).1.clusters = s.clusters := by
  unfold Device.cropRow
  extract_lets _ _ _ _ _ _ _ _ out padded
  have h : padded.clusters = s.clusters := Device.foldl_clusters (by exact fun _ _ => rfl) _ s
  clear_value padded
  split
  split
  · split
    · exact (Device.log1_clusters _ _).trans h
    · exact h
  · exact Device.foldl_clusters (by exact fun _ _ => rfl) _ s

/-- A crop row does not touch the invocations: it is done when the command is (R194). -/
theorem Device.runCropRow_runs (s : Device) (g k : Nat) (r : RowRun) : s.SameRuns (s.runCropRow g k r) := by
  unfold Device.runCropRow
  extract_lets f
  split
  · exact .of_clusters rfl
  split
  · exact .of_clusters (by rw [Device.unbacked_only])
  · refine .trans (.of_clusters (s.cropRow_clusters g k f r.next r.outside)) ?_
    generalize s.cropRow g k f r.next r.outside = x
    obtain ⟨t, out⟩ := x
    have h : t.SameRuns ((t.bumpField g 6 1).modCluster g (fun c => { c with lastVec := k })) :=
      .trans (t := t.bumpField g 6 1) (.of_clusters rfl)
        (Device.modCluster_settles _ g (f := fun c => { c with lastVec := k }) fun _ => ⟨rfl, rfl⟩).toSameRuns
    exact h.trans (.trans (Device.modRows_settles _ _ _ _ _).toSameRuns (Device.settleRows_settles _ _ _ _).toSameRuns)

/-! ### A new invocation -/

/-- Nothing of the invocation has run, and every register and predicate reads zero (R151). -/
def Invocation.Fresh (v : Invocation) : Prop :=
  v.executed = 0 ∧ v.segIn = 0 ∧ v.segOut = 0 ∧ (∀ x, v.reg x = Lanes.zero) ∧ (∀ p, p % 8 ≠ 0 → v.pred p = 0)

theorem Invocation.Fresh.of_blank {v : Invocation} (he : v.executed = 0) (hi : v.segIn = 0) (ho : v.segOut = 0)
    (hr : v.regs = []) (hp : v.preds = []) : v.Fresh :=
  ⟨he, hi, ho, fun x => by rw [Invocation.reg, hr, Tab.get_nil], fun p h => by rw [Invocation.pred, if_neg h, hp, Tab.get_nil]⟩

/-- The invocation described, with the scratch words of its row kept for it (R175). -/
def Device.begun (s : Device) (g : Nat) (v : Invocation) : Invocation :=
  { v with entry := (List.range 4).map (fun i =>
      Tab.get 0 (s.cluster g).scratch (s.playIn g v.ctx * 4096 + 4 * (v.rho % 1024) + i)) }

theorem Device.beginInv_eq (s : Device) (g : Nat) (v : Invocation) :
    s.beginInv g v = s.modCluster g (fun c => { c with invocation := some (s.begun g v) }) := rfl

theorem Device.beginInv_leaves (s : Device) (g : Nat) {v w : Invocation} (hv : v ∈ (s.cluster g).stopped) (hne : w.ctx ≠ v.ctx) :
    v ∈ ((s.beginInv g w).cluster g).stopped ∧ ((s.beginInv g w).cluster g).invocation ≠ some v := by
  rw [Device.beginInv_eq, Device.modCluster_cluster_same]
  exact ⟨hv, fun h => hne (by rw [← Option.some.inj h]; rfl)⟩

/-! ### What a free unit goes on with -/

theorem Device.setAside_of_free {s : Device} {g : Nat} (h : (s.cluster g).invocation = none) : s.setAside g = s := by
  unfold Device.setAside; rw [h]

theorem Device.setAside_of_held {s : Device} {g : Nat} {v : Invocation} (h : (s.cluster g).invocation = some v)
    (hh : s.isHeld (.vector g v.ctx) = true) :
    s.setAside g = s.modCluster g (fun c => { c with invocation := none, stopped := c.stopped ++ [v] }) := by
  unfold Device.setAside; rw [h]; exact if_pos hh

theorem Device.isHeld_of_nextClosing {s : Device} {g k : Nat} {e : WalkRun × Nat} (h : s.nextClosing g k = some e) :
    s.isHeld (.vector g k) = false := by
  unfold Device.nextClosing at h
  split at h
  · split_ifs at h with hk
    exact Bool.eq_false_iff.mpr hk
  · nomatch h

theorem Device.isHeld_of_nextRow {s : Device} {g k : Nat} {r : RowRun} (h : s.nextRow g k = some r) :
    s.isHeld (.vector g k) = false := by
  unfold Device.nextRow at h
  split at h
  · split_ifs at h with hk
    exact Bool.eq_false_iff.mpr hk.2.1
  · nomatch h

/-- The closing row that is next in rotation, with its context (R156, R230). -/
def Device.closingDue (s : Device) (g : Nat) : Option (Nat × WalkRun × Nat) :=
  (s.cluster g).rotation.findSome? (fun k => (s.nextClosing g k).map (fun e => (k, e)))

/-- The vector-pass or crop row that is next in rotation, with its context (R155, R156). -/
def Device.rowDue (s : Device) (g : Nat) : Option (Nat × RowRun) :=
  (s.cluster g).rotation.findSome? (fun k => (s.nextRow g k).map (fun e => (k, e)))

/-- The first invocation set aside whose hold has ended (R174). -/
def Device.resumable (s : Device) (g : Nat) : Option Invocation :=
  (s.cluster g).stopped.find? (fun v => !s.isHeld (.vector g v.ctx))

/-- What a search in rotation finds is what its context has next. -/
theorem eq_some_of_findSome?_pair {α : Type} {l : List Nat} {next : Nat → Option α} {k : Nat} {e : α}
    (h : l.findSome? (fun k => (next k).map (fun e => (k, e))) = some (k, e)) : next k = some e := by
  obtain ⟨j, -, hj⟩ := List.exists_of_findSome?_eq_some h
  obtain ⟨x, hx, heq⟩ := Option.map_eq_some_iff.mp hj
  obtain ⟨rfl, rfl⟩ := Prod.mk.inj heq
  exact hx

theorem Device.isHeld_of_closingDue {s : Device} {g k row : Nat} {w : WalkRun} (h : s.closingDue g = some (k, w, row)) :
    s.isHeld (.vector g k) = false := Device.isHeld_of_nextClosing (eq_some_of_findSome?_pair h)

theorem Device.isHeld_of_rowDue {s : Device} {g k : Nat} {r : RowRun} (h : s.rowDue g = some (k, r)) :
    s.isHeld (.vector g k) = false := Device.isHeld_of_nextRow (eq_some_of_findSome?_pair h)

theorem Device.isHeld_of_resumable {s : Device} {g : Nat} {v : Invocation} (h : s.resumable g = some v) :
    s.isHeld (.vector g v.ctx) = false := by simpa using List.find?_some h

theorem Device.isHeld_of_firstEpi {s : Device} {g : Nat} {r : EpiRow} (h : s.firstEpi g = some r) :
    s.isHeld (.vector g r.pass.ctx) = false := by
  have hr := List.find?_some h
  simp only [Bool.and_eq_true, Bool.not_eq_true'] at hr
  exact hr.1

section

variable {s : Device} {g : Nat} (hfree : (s.cluster g).invocation = none)

include hfree in
theorem Device.startInvocation_of_parked (hp : (s.die (dOf g)).power = 2) : s.startInvocation g = s := by
  unfold Device.startInvocation
  rw [Device.setAside_of_free hfree]
  exact if_pos (by simp [hp])

include hfree in
/-- The choice of a free unit, in its order (R156, R174, R230). -/
theorem Device.startInvocation_of_free (hp : (s.die (dOf g)).power ≠ 2) : s.startInvocation g =
    match s.resumable g with
    | some v => s.modCluster g (fun c => { c with invocation := some v, stopped := c.stopped.erase v })
    | none =>
      match s.firstEpi g with
      | some r => s.startEpi g r
      | none =>
        match s.closingDue g with
        | some (k, w, row) => s.startClosing g k w row
        | none =>
          match s.rowDue g with
          | some (k, r) => if r.field then s.runCropRow g k r else s.startRow g k r
          | none => s := by
  unfold Device.startInvocation
  rw [Device.setAside_of_free hfree]
  exact if_neg (by simp [hfree, hp])

section

variable (hp : (s.die (dOf g)).power ≠ 2)
include hfree hp

theorem Device.startInvocation_resumes {v : Invocation} (h : s.resumable g = some v) :
    s.startInvocation g = s.modCluster g (fun c => { c with invocation := some v, stopped := c.stopped.erase v }) := by
  rw [Device.startInvocation_of_free hfree hp, h]

theorem Device.startInvocation_epilogue {r : EpiRow} (h : s.resumable g = none) (hr : s.firstEpi g = some r) :
    s.startInvocation g = s.startEpi g r := by rw [Device.startInvocation_of_free hfree hp, h, hr]

theorem Device.startInvocation_closing {k row : Nat} {w : WalkRun} (h : s.resumable g = none) (hr : s.firstEpi g = none)
    (hc : s.closingDue g = some (k, w, row)) : s.startInvocation g = s.startClosing g k w row := by
  rw [Device.startInvocation_of_free hfree hp, h, hr, hc]

theorem Device.startInvocation_row {k : Nat} {r : RowRun} (h : s.resumable g = none) (hr : s.firstEpi g = none)
    (hc : s.closingDue g = none) (hn : s.rowDue g = some (k, r)) (hpass : r.field = false) :
    s.startInvocation g = s.startRow g k r := by
  rw [Device.startInvocation_of_free hfree hp, h, hr, hc, hn]; simp [hpass]

end

include hfree in
/-- Whatever a free unit goes on with, an invocation whose context's unit holds stays aside (R174). -/
theorem Device.startInvocation_leaves {v : Invocation} (hv : v ∈ (s.cluster g).stopped)
    (hheld : s.isHeld (.vector g v.ctx) = true) :
    v ∈ ((s.startInvocation g).cluster g).stopped ∧ ((s.startInvocation g).cluster g).invocation ≠ some v := by
  have hidle : v ∈ (s.cluster g).stopped ∧ (s.cluster g).invocation ≠ some v := ⟨hv, by simp [hfree]⟩
  have hne : ∀ {k : Nat}, s.isHeld (.vector g k) = false → k ≠ v.ctx := fun hk e => by simp [e, hheld] at hk
  by_cases hp : (s.die (dOf g)).power = 2
  · rwa [Device.startInvocation_of_parked hfree hp]
  · rw [Device.startInvocation_of_free hfree hp]
    split
    next w hw =>
      have hwv : w ≠ v := fun e => hne (Device.isHeld_of_resumable hw) (by rw [e])
      rw [Device.modCluster_cluster_same]
      exact ⟨(List.mem_erase_of_ne hwv.symm).mpr hv, fun e => hwv (Option.some.inj e)⟩
    split
    next r hr => exact Device.beginInv_leaves _ g (by rwa [Device.modCluster_cluster_same]) (hne (Device.isHeld_of_firstEpi hr))
    split
    next k w row hc =>
      refine Device.beginInv_leaves _ g ?_ (hne (Device.isHeld_of_closingDue hc))
      rwa [(s.modWalk_settles g k w.item _).stopped]
    split
    next k r hr =>
      split
      · have h := s.runCropRow_runs g k r
        rwa [h.stopped, h.running]
      · exact Device.beginInv_leaves _ g (by rwa [Device.modCluster_cluster_same]) (hne (Device.isHeld_of_rowDue hr))
    next => exact hidle

end

/-! ### What each start gives -/

/-- An epilogue row starts its table's program on its own values (R153). -/
theorem Device.startEpi_spec (s : Device) (g : Nat) (r : EpiRow) : ∃ v, (s.startEpi g r).mem = s.mem ∧
    (s.startEpi g r).cluster g =
      { s.cluster g with epilogue := (s.cluster g).epilogue.erase r, invocation := some v } ∧ v.Fresh ∧
    v.ctx = r.pass.ctx ∧ v.kind = 0 ∧ v.pc = (s.table (dOf g) r.pass.table).entry ∧
    v.row = r.values ∧ v.r = r.r ∧ v.cols = r.pass.cols ∧ v.n = r.pass.n := by
  simp only [Device.startEpi, Device.beginInv_eq, Device.modCluster_cluster_same]
  exact ⟨_, rfl, rfl, .of_blank rfl rfl rfl rfl rfl, rfl, rfl, rfl, rfl, rfl, rfl, rfl⟩

/-- A closing row starts its walk's closing program (R230). -/
theorem Device.startClosing_spec (s : Device) (g k : Nat) (w : WalkRun) (row : Nat) : ∃ v,
    (s.startClosing g k w row).mem = s.mem ∧ ((s.startClosing g k w row).cluster g).invocation = some v ∧ v.Fresh ∧
    v.ctx = k ∧ v.kind = 2 ∧ v.pc = (s.walkRec (dOf g) w.num).closing ∧ v.rho = row ∧
    v.cols = (s.geometry (dOf g)).width := by
  simp only [Device.startClosing, Device.beginInv_eq, Device.modCluster_cluster_same]
  exact ⟨_, rfl, rfl, .of_blank rfl rfl rfl rfl rfl, rfl, rfl, rfl, rfl, rfl⟩

/-- A row of a vector pass starts its descriptor's program (R154). -/
theorem Device.startRow_spec (s : Device) (g k : Nat) (r : RowRun) : ∃ v,
    (s.startRow g k r).mem = s.mem ∧ ((s.startRow g k r).cluster g).invocation = some v ∧ v.Fresh ∧
    v.ctx = k ∧ v.kind = 1 ∧ v.pc = (s.vpass (dOf g) (qOf g) r.index).entry ∧ v.rho = r.next ∧
    v.cols = (s.vpass (dOf g) (qOf g) r.index).len ∧ v.expo = r.expo := by
  simp only [Device.startRow, Device.beginInv_eq, Device.modCluster_cluster_same]
  exact ⟨_, rfl, rfl, .of_blank rfl rfl rfl rfl rfl, rfl, rfl, rfl, rfl, rfl, rfl⟩

end Sys2Proof.Machine
end

section
/-! SUPPORT. The end of an invocation, and an invocation that does not end (R159, R174). -/

namespace Sys2Proof.Machine

theorem Device.vEnd_eq {s : Device} {g : Nat} {f : VFields} {v : Invocation} (h : s.AtWord g (vword 0x01 f) v) :
    s.vEnd g f = s.endInv g v := by
  unfold Device.vEnd; rw [h.invAt]

theorem Device.rowDone_cluster (s : Device) (g h : Nat) :
    (s.rowDone g).cluster h = if h = g then { s.cluster g with invocation := none } else s.cluster h := by
  simp only [Device.rowDone, Device.bumpVec_eq, Device.bump_cluster, Device.modCluster_cluster]

/-- END frees the unit, counts the row, writes no memory and leaves every other unit's invocation (R159, R177). -/
theorem Device.endInv_spec (s : Device) (g : Nat) (v : Invocation) :
    s.SameBytes (s.endInv g v) ∧ ((s.endInv g v).cluster g).invocation = none ∧
    (∀ h, h ≠ g → ((s.endInv g v).cluster h).invocation = (s.cluster h).invocation) ∧
    Tab.get 0 (s.endInv g v).counters (clusterBlock g + 0xD8) = Tab.get 0 s.counters (clusterBlock g + 0xD8) + 1 := by
  have h := s.endInv_settles g v
  refine ⟨fun a => ?_, ?_, fun j hj => ?_, ?_⟩
  · rw [h.mem]; rfl
  · rw [h.running, Device.rowDone_cluster, if_pos rfl]
  · rw [h.running, Device.rowDone_cluster, if_neg hj]
  · rw [h.rows, Device.rowDone, Device.bumpVec_eq, Device.bump_counter, if_pos rfl]; rfl

/-! ### The record of a hold -/

/-- A record that finds room becomes the last entry (R499). -/
theorem Device.logNew_entries (s : Device) (r : Rec) (h : s.log.entries.length < 4096) :
    ∃ e, (s.logNew r).log.entries = s.log.entries ++ [e] ∧ e.code = r.code ∧ e.severity = r.severity ∧
      e.values = packVals r.vals ∧ e.dataPath = BitVec.ofNat 32 r.dp := by
  have hroom : logRoom s.log.entries = some s.log.entries := if_pos h
  unfold Device.logNew
  dsimp only
  rw [hroom]
  dsimp only
  split_ifs
  · exact ⟨_, rfl, rfl, rfl, rfl, rfl⟩
  · rw [Device.sendReports_log]
    exact ⟨_, rfl, rfl, rfl, rfl, rfl⟩

/-- A hold that nothing has retried writes a new entry (R491, R498). -/
theorem Device.hold_entries (s : Device) (r : Rec) (site : Site) (h : s.log.entries.length < 4096) (hr : s.log.retried = []) :
    ∃ e, (s.hold r site).log.entries = s.log.entries ++ [e] ∧ e.code = r.code ∧ e.severity = 1 ∧
      e.values = packVals r.vals ∧ e.dataPath = BitVec.ofNat 32 r.dp := by
  unfold Device.hold
  dsimp only
  rw [hr]
  exact Device.logNew_entries _ { r with severity := 1, key := 0 } h

theorem Device.NewHold.isHeld {s t : Device} {code : Nat} {site : Site} (h : s.NewHold t code site) : t.isHeld site = true := by
  obtain ⟨x, hx, -, hs⟩ := h
  simp [Device.isHeld, hx, hs]

/-! ### A runaway invocation -/

/-- The record of VEC_RUNAWAY (R174). -/
def runawayRec (g : Nat) (v : Invocation) : Rec :=
  { Rec.ofCluster Code.vecRunaway g 1 v.ctx 0xFF with vals := [(4, v.rho), (2, v.pc)] }

/-- The entry of a runaway invocation: its ρ and where its program stands (R174, R495). -/
theorem Device.runaway_entries (s : Device) (g : Nat) (v : Invocation) (h : s.log.entries.length < 4096)
    (hr : s.log.retried = []) :
    ∃ e, (s.hold (runawayRec g v) (.vector g v.ctx)).log.entries = s.log.entries ++ [e] ∧ e.code = Code.vecRunaway ∧
      e.severity = 1 ∧ e.values = leBytes 4 v.rho ++ leBytes 2 v.pc ∧
      e.dataPath = BitVec.ofNat 32 (dpCluster g 1 v.ctx 0xFF) := by
  obtain ⟨e, he, hcode, hsev, hvals, hdp⟩ := s.hold_entries (runawayRec g v) (.vector g v.ctx) h hr
  exact ⟨e, he, hcode, hsev, by rw [hvals]; simp [packVals, runawayRec], hdp⟩

section

variable {s : Device} {g : Nat} {v : Invocation} (hrun : (s.cluster g).invocation = some v)
include hrun

theorem Device.vRunaway_eq (hlong : 8192 ≤ v.executed) (hopen : s.isHeld (.vector g v.ctx) = false) :
    s.vRunaway g = s.hold (runawayRec g v) (.vector g v.ctx) := by
  unfold Device.vRunaway
  rw [hrun]
  exact if_pos ⟨hlong, by simp [hopen]⟩

/-- The unit sets a held invocation aside and is free for the other contexts (R174). -/
theorem Device.startInvocation_of_held (hheld : s.isHeld (.vector g v.ctx) = true) :
    v ∈ ((s.startInvocation g).cluster g).stopped ∧ ((s.startInvocation g).cluster g).invocation ≠ some v := by
  have hset := Device.setAside_of_held hrun hheld
  have hfree : ((s.setAside g).cluster g).invocation = none := by rw [hset, Device.modCluster_cluster_same]
  have hstart : s.startInvocation g = (s.setAside g).startInvocation g := by
    unfold Device.startInvocation
    rw [Device.setAside_of_free hfree]
  rw [hstart]
  refine Device.startInvocation_leaves hfree ?_ ?_
  · rw [hset, Device.modCluster_cluster_same]; simp
  · rw [hset]; exact hheld

end

/-- ABORT alone ends the hold of a runaway invocation (R174, R505). -/
theorem Code.offers_vecRunaway (tag d : Nat) : Code.offers Code.vecRunaway tag false d = decide (d = 1) := rfl

end Sys2Proof.Machine
end

section

open Sys2Proof Sys2Proof.Machine

/-- Settles O8: what a free unit goes on with is the first thing its choice finds; END only settles what the row belongs to; a
runaway invocation holds its context, is set aside, and no start takes it up again. -/
theorem vectorInvocations : Obligations.VectorInvocations := by
  unfold Obligations.VectorInvocations
  intro s g
  dsimp only
  refine ⟨fun v ⟨hfree, hp⟩ h => ?_, fun r ⟨hfree, hp⟩ h hr => ?_, fun k w row ⟨hfree, hp⟩ h hr hc => ?_,
    fun k r ⟨hfree, hp⟩ h hr hc hn hpass => ?_, fun f v h => ?_, fun v hrun hlong hopen => ?_⟩
  · refine ⟨_, rfl, ?_⟩
    rw [State.onDev_dev, Device.startInvocation_resumes hfree hp h]
    exact ⟨rfl, rfl, Device.modCluster_cluster_same _ _ _⟩
  · obtain ⟨v, hv⟩ := s.dev.startEpi_spec g r
    refine ⟨_, v, rfl, ?_⟩
    rwa [State.onDev_dev, Device.startInvocation_epilogue hfree hp h hr]
  · obtain ⟨v, hv⟩ := s.dev.startClosing_spec g k w row
    refine ⟨_, v, rfl, ?_⟩
    rwa [State.onDev_dev, Device.startInvocation_closing hfree hp h hr hc]
  · obtain ⟨v, hv⟩ := s.dev.startRow_spec g k r
    refine ⟨_, v, rfl, ?_⟩
    rwa [State.onDev_dev, Device.startInvocation_row hfree hp h hr hc hn hpass]
  · refine ⟨_, rfl, ?_⟩
    rw [State.onDev_dev, Device.vEnd_eq h]
    exact s.dev.endInv_spec g v
  · have e : (s.onDev (fun d => d.vRunaway g)).dev = s.dev.hold (runawayRec g v) (.vector g v.ctx) :=
      Device.vRunaway_eq hrun hlong hopen
    obtain ⟨x, hx, hcode, hsite⟩ := s.dev.hold_newHold (runawayRec g v) (.vector g v.ctx)
    refine ⟨_, x, rfl, ?_⟩
    rw [e]
    refine ⟨hx, hcode, hsite, Device.hold_clusters _ _ _, Device.hold_mem _ _ _, ⟨_, rfl, ?_⟩,
      fun hlen hret => ?_, fun d => ?_⟩
    · rw [State.onDev_dev, e]
      refine Device.startInvocation_of_held ?_ (s.dev.hold_newHold _ _).isHeld
      rw [Device.hold_cluster, hrun]
    · exact s.dev.runaway_entries g v hlen hret
    · rw [hcode]; exact Code.offers_vecRunaway x.tag d

end

section
/-! SUPPORT. Reports, Attend and the light test: what a message sent on every report flow leaves on each of them, what a request
and its later occurrences write in the log, and how a timed test ends (R430, R432, R472, R473, R498). -/

namespace Sys2Proof.Machine

theorem State.onDev_eq_self {s : State} {f : Device → Device} (h : f s.dev = s.dev) : s.onDev f = s := by
  cases s; exact congrArg (State.mk · _) h

/-! ### Other flows -/

theorem Device.drain_flow_other {k j : Nat} (h : j ≠ k) (n : Nat) : ∀ s : Device, (s.drain k n).flow j = s.flow j := by
  induction n with
  | zero => exact fun _ => rfl
  | succ n ih =>
    intro s
    unfold Device.drain
    dsimp only
    split
    · rfl
    · split_ifs
      · rfl
      · rw [ih, Device.emit_flow, Device.modFlow_flow_other _ _ _ _ h]
      · rfl

theorem Device.send_flow_other {k j : Nat} (h : j ≠ k) (s : Device) (kind : Nat) (last : Bool) (handle sb hint : Nat)
    (p : List Byte) : (s.send k kind last handle sb hint p).flow j = s.flow j :=
  (Device.drain_flow_other h _ _).trans (Device.modFlow_flow_other _ _ _ _ h)

/-! ### One report flow -/

/-- A report flow carries the hamper's report address, when it is on the management port (R430). -/
def Device.addressed (s : Device) (k : Nat) : Device :=
  match s.hamper with
  | some h => if keyPair k = 8 then s.modFlow k (fun f => { f with src := h.report.getD 0 }) else s
  | none => s

/-- What sending a report does on one report flow (R430). -/
def Device.reportOn (kind : Nat) (p : List Byte) (s : Device) (k : Nat) : Device :=
  if (s.addressed k).sideUp (keyPair k) 0 || (s.addressed k).sideUp (keyPair k) 1
  then (s.addressed k).send k kind false 0 0 0 p else s.addressed k

theorem Device.sendReports_eq_foldl (s : Device) (kind : Nat) (p : List Byte) :
    s.sendReports kind p = s.reportFlows.foldl (Device.reportOn kind p) s := rfl

theorem Device.addressed_eq (s : Device) (k : Nat) :
    s.addressed k = s ∨ ∃ a, s.addressed k = s.modFlow k (fun f => { f with src := a }) := by
  unfold Device.addressed
  split
  · split_ifs
    · exact .inr ⟨_, rfl⟩
    · exact .inl rfl
  · exact .inl rfl

theorem Device.addressed_traffic (s : Device) (k : Nat) : s.Traffic (s.addressed k) := by
  obtain h | ⟨a, h⟩ := s.addressed_eq k <;> rw [h]
  · exact .refl s
  · exact Device.modFlow_traffic _ _ _

theorem Device.addressed_txNext (s : Device) (k : Nat) : ((s.addressed k).flow k).txNext = (s.flow k).txNext := by
  obtain h | ⟨a, h⟩ := s.addressed_eq k <;> rw [h]
  rw [Device.modFlow_flow_same]

theorem Device.addressed_flow_other {k j : Nat} (h : j ≠ k) (s : Device) : (s.addressed k).flow j = s.flow j := by
  obtain e | ⟨a, e⟩ := s.addressed_eq k <;> rw [e]
  exact Device.modFlow_flow_other _ _ _ _ h

theorem Device.reportOn_traffic (kind : Nat) (p : List Byte) (s : Device) (k : Nat) : s.Traffic (s.reportOn kind p k) := by
  unfold Device.reportOn
  split_ifs
  · exact (s.addressed_traffic k).trans (Device.send_traffic _ _ _ _ _ _ _ _)
  · exact s.addressed_traffic k

theorem Device.reportOn_flow_other {k j : Nat} (h : j ≠ k) (kind : Nat) (p : List Byte) (s : Device) :
    (s.reportOn kind p k).flow j = s.flow j := by
  unfold Device.reportOn
  split_ifs
  · exact (Device.send_flow_other h _ _ _ _ _ _ _).trans (Device.addressed_flow_other h s)
  · exact Device.addressed_flow_other h s

/-- A pair has a side in use (R430). -/
def Device.AnySideUp (s : Device) (k : Nat) : Prop := s.sideUp (keyPair k) 0 = true ∨ s.sideUp (keyPair k) 1 = true

theorem Device.Traffic.sideUp {s t : Device} (h : s.Traffic t) (pair side : Nat) : t.sideUp pair side = s.sideUp pair side := by
  unfold Device.sideUp Device.port
  rw [h.net]

theorem Device.Traffic.anySideUp {s t : Device} (h : s.Traffic t) {k : Nat} (hk : s.AnySideUp k) : t.AnySideUp k := by
  rwa [Device.AnySideUp, h.sideUp, h.sideUp]

theorem Device.reportOn_sent (kind : Nat) (p : List Byte) {s : Device} {k : Nat} (hk : s.AnySideUp k) :
    s.Sent (s.reportOn kind p k) k kind p := by
  have hup := Bool.or_eq_true_iff.mpr ((s.addressed_traffic k).anySideUp hk)
  rw [Device.reportOn, if_pos hup]
  refine Device.sent_of_txNext (s.addressed_txNext k) ?_
  rw [Device.sent_iff, Device.send_outbox]
  simp

/-! ### Every report flow -/

theorem Device.foldl_reportOn_flow_other (kind : Nat) (p : List Byte) {l : List Nat} {j : Nat} (h : j ∉ l) (s : Device) :
    (l.foldl (Device.reportOn kind p) s).flow j = s.flow j :=
  List.foldlRecOn (motive := fun t : Device => t.flow j = s.flow j) l _ rfl
    fun t ht _ hk => (Device.reportOn_flow_other (ne_of_mem_of_not_mem hk h).symm kind p t).trans ht

/-- Each flow of a list that names it once takes the message at its own turn; the other turns leave it alone. -/
theorem Device.foldl_reportOn_sent (kind : Nat) (p : List Byte) {l : List Nat} (hl : l.Nodup) {k : Nat} (hk : k ∈ l) :
    ∀ {s : Device}, s.AnySideUp k → s.Sent (l.foldl (Device.reportOn kind p) s) k kind p := by
  induction l with
  | nil => simp at hk
  | cons j l ih =>
    intro s hup
    obtain ⟨hj, hl⟩ := List.nodup_cons.mp hl
    rw [List.foldl_cons]
    by_cases e : k = j
    · subst e
      rw [Device.sent_iff, Device.foldl_reportOn_flow_other kind p hj, ← Device.sent_iff]
      exact Device.reportOn_sent kind p hup
    · refine Device.sent_of_txNext (by rw [Device.reportOn_flow_other e kind p]) ?_
      exact ih hl ((List.mem_cons.mp hk).resolve_left e) ((Device.reportOn_traffic kind p s j).anySideUp hup)

/-- The report flows are two at most, of peers 0 and 1023 (R430). -/
theorem Device.reportFlows_nodup (s : Device) : s.reportFlows.Nodup := by
  have hne (pair : Nat) : flowKey pair 0 0 ≠ flowKey 8 0 1023 := by unfold flowKey; omega
  unfold Device.reportFlows
  cases s.pairOf 0 <;> cases s.hamper <;> grind

/-- A report goes to every destination whose pair has a side in use (R430). -/
theorem Device.sendReports_sent (kind : Nat) (p : List Byte) {s : Device} {k : Nat} (hk : k ∈ s.reportFlows)
    (hup : s.AnySideUp k) : s.Sent (s.sendReports kind p) k kind p :=
  Device.foldl_reportOn_sent kind p s.reportFlows_nodup hk hup

/-- The payload of ATTEND_REQ (R432). -/
def attendPayload (cause : Nat) : List Byte := BitVec.ofNat 8 cause :: List.replicate 7 0

/-- While a request is pending, ATTEND_REQ goes to every destination that can be reached (R432). -/
theorem Device.sendAttend_sent {s : Device} (h : s.panel.pending = true) {k : Nat} (hk : k ∈ s.reportFlows) (hup : s.AnySideUp k) :
    s.Sent s.sendAttend k 0x40 (attendPayload s.panel.cause) := by
  rw [Device.sendAttend, if_pos h]
  exact Device.sendReports_sent _ _ hk hup

theorem Device.sendAttend_idle {s : Device} (h : s.panel.pending = false) : s.sendAttend = s := by
  rw [Device.sendAttend, if_neg (by simp [h])]

/-! ### The record of a request -/

/-- An informational record is not reported at once (R430): only the log and the time stamps differ. -/
theorem Device.logNew_info (s : Device) {r : Rec} (h : r.severity = 0) :
    s.logNew r = { s with log := (s.logNew r).log, fresh := s.fresh + 1 } := by
  unfold Device.logNew
  dsimp only
  split
  · rfl
  · rw [if_pos h]

theorem Device.log1_info (s : Device) {r : Rec} (h : r.severity = 0) :
    s.log1 r = { s with log := (s.log1 r).log, fresh := s.fresh + 1 } := by
  unfold Device.log1
  split_ifs
  · exact s.logNew_info h
  · split
    · rfl
    · exact s.logNew_info h

theorem bumpLast_append_last {p : LogEntry → Bool} (f : LogEntry → LogEntry) {e : LogEntry} (h : p e = true) (pre : List LogEntry) :
    bumpLast p f (pre ++ [e]) = some (pre ++ [f e]) := by
  induction pre with
  | nil => simp [bumpLast, h]
  | cons x pre ih => rw [List.cons_append, bumpLast, ih]; rfl

/-- A record with a key of R498 that falls on the last entry counts there. -/
theorem Device.log1_last {s : Device} {r : Rec} {pre : List LogEntry} {e : LogEntry} (hkey : r.key ≠ 0)
    (hlog : s.log.entries = pre ++ [e]) (hsame : r.same e = true) (hd : e.decided = false) (hr : e.restored = false) :
    (s.log1 r).log.entries = pre ++ [e.again (s.stamp r.domain)] := by
  rw [Device.log1, if_neg hkey, hlog, bumpLast_append_last _ (by simp [hsame, hd, hr])]

/-! ### Attend -/

/-- The record of a request, of severity information (R473). -/
def Device.attendRec (s : Device) (cause : Nat) : Rec := s.modRec Code.modAttendPressed 2 [(1, cause)]

/-- A request starts: the faceplate becomes `q`, the request is recorded and the host is asked (R473). -/
def Device.ask (s : Device) (q : Panel) : Device := (({ s with panel := q }).log1 (s.attendRec q.cause)).sendAttend

/-- A press, a lift or a lowering while a request is pending: the faceplate becomes `q`, and an occurrence falls on the request's
record (R473, R498). -/
def Device.recordAgain (s : Device) (q : Panel) (cause : Nat) : Device :=
  ({ s with panel := q }).log1 { s.attendRec cause with key := 1 }

section

variable {s : Device} (hon : s.off = false)
include hon

theorem Device.attend_starts (hp : s.panel.pending = false) (hr : s.panel.removing = false) (cause : Nat) (press : Bool) :
    s.attend cause press = s.ask { s.panel with
      pending := true, cause := cause, presses := if press then min 255 (s.panel.presses + 1) else s.panel.presses } := by
  simp only [Device.attend, hon, hp, hr, Bool.false_eq_true, if_false]
  rfl

theorem Device.attend_pending (hp : s.panel.pending = true) (cause : Nat) (press : Bool) :
    s.attend cause press = s.recordAgain { s.panel with
      presses := if press then min 255 (s.panel.presses + 1) else s.panel.presses } cause := by
  simp only [Device.attend, hon, hp, Bool.false_eq_true, if_false, if_true]
  rfl

theorem Device.lift_starts (hp : s.panel.pending = false) (hr : s.panel.removing = false) :
    ({ s with panel := { s.panel with ejector := true } }).attend 1 false =
      s.ask { s.panel with pending := true, cause := 1, ejector := true } :=
  Device.attend_starts (s := { s with panel := { s.panel with ejector := true } }) hon hp hr 1 false

/-- A lift (`ejector` true) or a lowering of the ejector while a request is pending (R473). -/
theorem Device.ejector_pending (hp : s.panel.pending = true) (ejector : Bool) :
    ({ s with panel := { s.panel with ejector := ejector } }).attend 1 false = s.recordAgain { s.panel with ejector := ejector } 1 :=
  Device.attend_pending (s := { s with panel := { s.panel with ejector := ejector } }) hon hp 1 false

theorem Device.lower_pending (hp : s.panel.pending = true) : s.lower = s.recordAgain { s.panel with ejector := false } 1 :=
  (if_pos hp).trans (Device.ejector_pending hon hp false)

end

theorem Device.lower_idle {s : Device} (hp : s.panel.pending = false) :
    s.lower = { s with panel := { s.panel with ejector := false } } := if_neg (by simp [hp])

@[simp] theorem Device.ask_panel (s : Device) (q : Panel) : (s.ask q).panel = q := by
  rw [Device.ask, Device.sendAttend_panel, Device.log1_panel]

/-- A request was recorded as one entry, with its cause, and sent to every destination that can be reached (R430, R473). -/
def Device.Asked (s t : Device) (cause : Nat) : Prop :=
  s.NewEntry t Code.modAttendPressed ∧ t.mem = s.mem ∧
    (∃ e, t.log.entries = s.log.entries ++ [e] ∧ e.severity = 0 ∧ e.values = [BitVec.ofNat 8 cause]) ∧ t.job = s.job ∧
    ∀ k ∈ s.reportFlows, s.AnySideUp k → s.Sent t k 0x40 (attendPayload cause)

/-- The record of a request counts one more, when it is the last entry and open (R473, R498). -/
def Device.CountsAgain (s t : Device) : Prop := ∀ pre e, s.log.entries = pre ++ [e] → e.code = Code.modAttendPressed →
  e.dataPath = BitVec.ofNat 32 (dpMod 2) → e.decided = false → e.restored = false → e.count < 65535 →
  ∃ e', t.log.entries = pre ++ [e'] ∧ e'.count = e.count + 1

/-- A request that finds room in the log is its last entry, with the cause as its value; nothing new holds (R473, R495). -/
theorem Device.ask_entry {s : Device} (q : Panel) (hroom : s.log.entries.length < 4096) :
    ∃ e, (s.ask q).log.entries = s.log.entries ++ [e] ∧ e.code = Code.modAttendPressed ∧ e.severity = 0 ∧
      e.values = [BitVec.ofNat 8 q.cause] ∧ (s.ask q).log.holds = s.log.holds := by
  have hnew : ({ s with panel := q }).log1 (s.attendRec q.cause) = ({ s with panel := q }).logNew (s.attendRec q.cause) := if_pos rfl
  obtain ⟨e, he, hcode, hsev, hvals, -⟩ := Device.logNew_entries { s with panel := q } (s.attendRec q.cause) hroom
  rw [Device.ask, Device.sendAttend_log, hnew, Device.logNew_holds]
  exact ⟨e, he, hcode, hsev, hvals, rfl⟩

/-- A request asks every destination that can be reached, with its cause (R430, R432). -/
theorem Device.ask_sent {s : Device} {q : Panel} (hq : q.pending = true) {k : Nat} (hk : k ∈ s.reportFlows) (hup : s.AnySideUp k) :
    s.Sent (s.ask q) k 0x40 (attendPayload q.cause) := by
  rw [Device.ask, Device.log1_info _ rfl]
  exact Device.sendAttend_sent hq hk hup

theorem Device.ask_asked {s : Device} {q : Panel} (hq : q.pending = true) (hroom : s.log.entries.length < 4096) :
    s.Asked (s.ask q) q.cause := by
  obtain ⟨e, he, hcode, hsev, hvals, hholds⟩ := Device.ask_entry q hroom
  refine ⟨⟨e, he, hcode, hholds⟩, ?_, ⟨e, he, hsev, hvals⟩, ?_, fun k hk hup => Device.ask_sent hq hk hup⟩
  · rw [Device.ask, Device.sendAttend_mem, Device.log1_mem]
  · rw [Device.ask, Device.sendAttend_job, Device.log1_job]

theorem Device.recordAgain_countsAgain (s : Device) (q : Panel) (cause : Nat) : s.CountsAgain (s.recordAgain q cause) := by
  intro pre e hlog hcode hdp hd hr hc
  have hsame : Rec.same { s.attendRec cause with key := 1 } e = true := by
    simp [Rec.same, hcode, hdp, Device.attendRec, Device.modRec, Rec.plain]
  exact ⟨_, Device.log1_last one_ne_zero hlog hsame hd hr, min_eq_right (by omega)⟩

/-- What counts on the record of a pending request changes the faceplate and the log, and sends nothing. -/
theorem Device.recordAgain_spec (s : Device) (q : Panel) (cause : Nat) :
    s.OnlyLog { s.recordAgain q cause with panel := s.panel } ∧ s.CountsAgain (s.recordAgain q cause) ∧
      (s.recordAgain q cause).net = s.net ∧ (s.recordAgain q cause).panel = q := by
  have hinfo : s.recordAgain q cause = { s with
      panel := q, log := (s.recordAgain q cause).log, fresh := s.fresh + 1 } := Device.log1_info _ rfl
  refine ⟨?_, s.recordAgain_countsAgain q cause, ?_, ?_⟩ <;> rw [hinfo]

/-! ### The light test -/

theorem Device.lightExpiry_timed {s : Device} (h : s.panel.lightDuration ≠ 0) :
    s.lightExpiry = { s with panel := { s.panel with lightMode := 0 } } := if_neg h

theorem Device.lightExpiry_idle {s : Device} (h : s.panel.lightDuration = 0) : s.lightExpiry = s := if_pos h

end Sys2Proof.Machine
end

section

open Sys2Proof Sys2Proof.Machine

/-- Settles O52: a press or a lift starts one request, which is recorded and sent to every report destination that can be reached;
while it is pending a press, a lift or a lowering counts on its record and sends nothing. -/
theorem faceplate : Obligations.Faceplate := by
  unfold Obligations.Faceplate
  intro s
  dsimp only
  refine ⟨fun hon hp hr hroom => ⟨⟨_, rfl, ?_⟩, ⟨_, rfl, ?_⟩⟩,
    fun hon hp => ⟨⟨_, rfl, ?_⟩, ⟨_, rfl, ?_⟩, ⟨_, rfl, ?_⟩⟩, fun hp => ⟨_, rfl, Device.lower_idle hp⟩,
    fun hp => ?_, fun hp => ⟨_, rfl, s.dev.sendAttend_only, fun k hk hup => Device.sendAttend_sent hp hk hup⟩,
    fun hd => ⟨_, rfl, Device.lightExpiry_timed hd⟩, fun hd => ?_⟩
  · rw [State.onDev_dev, Device.attend_starts hon hp hr]
    exact ⟨Device.ask_asked rfl hroom, Device.ask_panel _ _⟩
  · rw [State.onDev_dev, Device.lift_starts hon hp hr]
    exact ⟨Device.ask_asked rfl hroom, Device.ask_panel _ _⟩
  · rw [State.onDev_dev, Device.attend_pending hon hp]
    exact Device.recordAgain_spec _ _ _
  · rw [State.onDev_dev, Device.ejector_pending hon hp]
    exact Device.recordAgain_spec _ _ _
  · rw [State.onDev_dev, Device.lower_pending hon hp]
    exact Device.recordAgain_spec _ _ _
  · exact congrArg _ (State.onDev_eq_self (Device.sendAttend_idle hp))
  · exact congrArg _ (State.onDev_eq_self (Device.lightExpiry_idle hd))

end
